-- ==== Sys2Proof/Word.lean ====
section
/-! DEFINITION. The numbers of the Kipway 840: bytes, clock values, and the numbered things of the part. -/

namespace Sys2Proof

/-- A byte of the memory bus, the service link or a disk. -/
abbrev Byte := BitVec 8

/-- A value of the coarse clock (R1): 16 bits, wrapping from 65,535 to 0. -/
abbrev Coarse := BitVec 16

/-- A value of the tick counter (R1): 16 bits, wrapping from 65,535 to 0. -/
abbrev Tick := BitVec 16

/-- A requester's tag, 0 to 15. -/
abbrev Tag := Fin 16

/-- A window number, 0 to 15. -/
abbrev WinIx := Fin 16

/-- A drive number, 0 to 3. -/
abbrev DriveIx := Fin 4

/-- An operation record's number, 0 to 47. -/
abbrev RecIx := Fin 48

/-- A sector buffer's number, 0 to 3. -/
abbrev BufIx := Fin 4

/-- A secure slot's number, 0 to 3. -/
abbrev SlotIx := Fin 4

/-- The difference of two values of one clock, taken modulo 65,536 (R1). -/
def since (now before : BitVec 16) : Nat := (now - before).toNat

/-- The four drives in increasing number. -/
def allDrives : List DriveIx := [0, 1, 2, 3]

/-- The four secure slots in increasing number. -/
def allSlots : List SlotIx := [0, 1, 2, 3]

/-- The four sector buffers in increasing number. -/
def allBuffers : List BufIx := [0, 1, 2, 3]

/-- The sixteen windows in increasing number. -/
def allWindows : List WinIx := (List.range 16).map (Fin.ofNat 16)

/-- The forty-eight operation records in increasing number. -/
def allRecords : List RecIx := (List.range 48).map (Fin.ofNat 48)

end Sys2Proof
end

