-- ==== Sys2Proof/Syntax.lean ====
section
/-! DEFINITION. The commands of the 840: one constructor of `Instr` for each row of spec/opcode_table.json.
The table gives its rows no operand fields; an operand here is what the row's rule says the step carries. -/

namespace Sys2Proof

/-- What an upstream cycle does (chapter 1.1): its direction, its width and, for a write, its data. -/
inductive Access
  | readByte
  | readWord
  | writeByte (data : Byte)
  | writeWord (data : BitVec 16)
  deriving DecidableEq, Repr

/-- An upstream cycle: a 20-bit byte address, an access and the requester's tag (chapter 1.1). -/
structure UpCycle where
  addr   : BitVec 20
  access : Access
  tag    : Tag
  deriving DecidableEq, Repr

/-- The binding record of BIND and STAGE as it is sent, byte by byte (R166). -/
structure BindRecord where
  /-- Bytes 0 and 1: the memory base divided by 256. -/
  page      : BitVec 16
  count     : Byte
  drive     : Byte
  cylinder  : Byte
  side      : Byte
  sector    : Byte
  sides     : Byte
  options   : Byte
  /-- Bytes 9 and 10: the writer set, tag 15 the highest bit. -/
  writers   : BitVec 16
  readAhead : Byte
  deriving DecidableEq, Repr

/-- The parameters of FORMAT as they are sent (R165). -/
structure FormatParams where
  drive       : Byte
  cylinder    : Byte
  side        : Byte
  interleave  : Byte
  fill        : Byte
  /-- The descriptors of physical slots 0 to 15. -/
  descriptors : List Byte
  flags       : Byte
  volumeId    : BitVec 32
  sides       : Byte
  lastCyl     : Byte
  deriving DecidableEq, Repr

/-- Bytes 1 to 7 of an ID field as they are read from a disk (R120); byte 0 is the ID mark. -/
structure IdField where
  cylinder : Byte
  side     : Byte
  sector   : Byte
  size     : Byte
  flags    : Byte
  crcHigh  : Byte
  crcLow   : Byte
  deriving DecidableEq, Repr

/-- The three causes of a warm reset (R158). -/
inductive WarmCause
  | longDip
  | resetLine
  | resetCommand
  deriving DecidableEq, Repr

/-- The commands, one constructor for each row of spec/opcode_table.json. -/
inductive Instr
  /-- UPSTREAM_CYCLE (R2). -/
  | upstreamCycle (cycle : UpCycle)
  /-- BURST_WORD (R19). -/
  | burstWord
  /-- COARSE_CLOCK_ADVANCE (R1). -/
  | coarseClockAdvance
  /-- DEFERRED_RECORD_EXPIRY (R15). -/
  | deferredRecordExpiry
  /-- SWEEP (R145). -/
  | sweep
  /-- AGE_PROMOTION (R147). -/
  | agePromotion
  /-- SECURE_DEADLINE (R153). -/
  | secureDeadline
  /-- LINK_WRITE_MESSAGE (R164): the address byte and the bytes sent after it, up to the stop condition. -/
  | linkWriteMessage (address : Byte) (bytes : List Byte)
  /-- STATUS (R167). -/
  | status (part : Byte)
  /-- BIND (R25). -/
  | bind (window : Byte) (record : BindRecord)
  /-- STAGE (R28). -/
  | stage (window : Byte) (record : BindRecord)
  /-- SWAP (R32). -/
  | swap (window : WinIx)
  /-- FORCE (R34). -/
  | force (window : Byte)
  /-- RELEASE (R36): the options byte has bit 0 clear. -/
  | release (window : Byte)
  /-- RELEASE_DISCARD (R37): the options byte has bit 0 set. -/
  | releaseDiscard (window : Byte)
  /-- WINDOW_STATES (R167). -/
  | windowStates (window : Byte) (part : Byte)
  /-- SECURE (R149). -/
  | secure (target : BitVec 16) (stampLast : Bool) (deadline : BitVec 16)
  /-- SECURE_STATUS (R155). -/
  | secureStatus (slot : Byte)
  /-- HOLD (R84). -/
  | hold (drive : Byte)
  /-- RUN (R84). -/
  | run (drive : Byte)
  /-- ADOPT (R139). -/
  | adopt (drive : Byte)
  /-- RETRY (R59). -/
  | retry (drive : Byte)
  /-- FORMAT (R125). -/
  | format (params : FormatParams)
  /-- READ_DRIVE (R167). -/
  | readDrive (drive : Byte) (part : Byte)
  /-- SET_DRIVE (R106). -/
  | setDrive (drive : Byte) (stepMs : Byte) (retries : Byte) (halt : Bool)
  /-- SET_SWEEP (R144). -/
  | setSweep (period : BitVec 16) (enable : Bool) (restart : Bool)
  /-- SET_LIMITS (R168). -/
  | setLimits (deferLimit : BitVec 16) (ageLimit : BitVec 16) (blank : Byte)
  /-- READ_EVENTS (R171). -/
  | readEvents
  /-- CLEAR_EVENTS (R172): the mask's bit n is flag n. -/
  | clearEvents (tag : Byte) (mask : BitVec 24)
  /-- SET_ALERT_MASK (R170). -/
  | setAlertMask (mask : BitVec 24)
  /-- READ_OUTAGE (R161). -/
  | readOutage (start : Byte)
  /-- CLEAR_OUTAGE (R161). -/
  | clearOutage
  /-- RESET (R158). -/
  | reset
  /-- READY_LINE_RISE (R133): `protect` is the level of the inserted disk's write-protect line. -/
  | readyLineRise (drive : DriveIx) (protect : Bool)
  /-- READY_LINE_FALL (R137). -/
  | readyLineFall (drive : DriveIx)
  /-- INDEX_PULSE (R88): `elapsed` ticks pass between the command before it and the pulse. -/
  | indexPulse (drive : DriveIx) (elapsed : Nat)
  /-- SPEED_FAULT (R89). -/
  | speedFault (drive : DriveIx)
  /-- INDEX_LOST (R89). -/
  | indexLost (drive : DriveIx)
  /-- HEAD_UNLOAD (R90). -/
  | headUnload (drive : DriveIx)
  /-- STEP_PULSE (R87): `track0` is the level of the track-0 line after the step. -/
  | stepPulse (drive : DriveIx) (track0 : Bool)
  /-- RECALIBRATION_END (R86): the track-0 line is seen and the settle elapses. -/
  | recalibrationEnd (drive : DriveIx)
  /-- SEEK_FAULT (R86). -/
  | seekFault (drive : DriveIx)
  /-- POSITIONING_END (R92). -/
  | positioningEnd (drive : DriveIx)
  /-- ID_FIELD_READ (R93). -/
  | idFieldRead (drive : DriveIx) (field : IdField)
  /-- MISS (R93). -/
  | miss (drive : DriveIx)
  /-- DATA_MARK_NOT_FOUND (R121). -/
  | dataMarkNotFound (drive : DriveIx)
  /-- DATA_FIELD_READ (R96): the 256 bytes and the two CRC bytes that follow the data mark. -/
  | dataFieldRead (drive : DriveIx) (data : List Byte) (crc : BitVec 16)
  /-- DATA_FIELD_WRITTEN (R98). -/
  | dataFieldWritten (drive : DriveIx)
  /-- WRITE_FAULT (R98). -/
  | writeFault (drive : DriveIx)
  /-- VERIFY_READ (R99): the 256 bytes and the two CRC bytes read back. -/
  | verifyRead (drive : DriveIx) (data : List Byte) (crc : BitVec 16)
  /-- VERIFY_MISS (R99). -/
  | verifyMiss (drive : DriveIx)
  /-- SUPPLY_DIP (R156). -/
  | supplyDip
  /-- SHORT_DIP (R157). -/
  | shortDip
  /-- LONG_DIP (R157). -/
  | longDip
  /-- RESET_LINE (R158). -/
  | resetLine
  /-- RESET_END (R158): the RESET and supply-low lines are both inactive. -/
  | resetEnd
  /-- POWER_UP (R160): `standbyKept` says that the standby supply has kept the Outage Store. -/
  | powerUp (standbyKept : Bool)
  /-- MAIN_SUPPLY_FAILURE (R159): `cut` names a warm-reset recording that the failure cuts short, by
  its cause and the number of dirty entries it had recorded. -/
  | mainSupplyFailure (cut : Option (WarmCause × Nat))
  deriving DecidableEq, Repr

end Sys2Proof
end

