-- ==== Sys2Proof/Decode.lean ====
section
/-! DEFINITION. Reading a command from a word. No row of spec/opcode_table.json gives any bits, so no word spells a command. -/

namespace Sys2Proof

/-- The command that a word of `nbits` bits spells by the table's bits: none, since every row of
spec/opcode_table.json has an empty list of fields and no fixed bits (log 1). Commands reach the
840 as steps of its three connections; the bytes of the service link are read by
`Machine.linkCommand` (R162, R164). -/
def decodeTableWord (_nbits _w : Nat) : Option Instr := none

end Sys2Proof
end

