-- ==== Sys2Proof/Config.lean ====
section
/-! DEFINITION. What the spec leaves to the board: what unwritten main memory reads as, and the free values. -/

namespace Sys2Proof.Config

/-- DESIGN CHOICE (log 6, unsafe): main memory is outside the 840 and its contents at power-on are
not given; a byte that nothing has written reads as 00h. -/
def erasedByte : Byte := 0

/-- FREE VALUE (log 20): R166 names bits 0 to 4 of a binding's options byte. What WINDOW STATES
returns in bits 5 to 7 for a binding sent with options byte `sent` is not stated, so nothing is
known of it here. -/
opaque spareOptionBits (sent : Byte) : BitVec 3

/-- FREE VALUE (log 34): R119 gives the index gap of a formatted track side its length of 64 byte times,
and no rule gives its content. The byte that FORMAT writes at place `i` of the gap is not known. -/
opaque indexGapByte (i : Nat) : Byte

end Sys2Proof.Config
end

