-- ==== Sys2Proof/Machine/State.lean ====
section
/-! DEFINITION. The state of the 840 as plain data, its outcomes, and the state after reset. -/

namespace Sys2Proof.Machine

open Sys2Proof

/-! ## Outcomes -/

/-- What stops the part. Nothing does: every condition the spec calls a fault (a FAULT answer,
SPEED-FAULT, SEEK-FAULT, the write-fault line, a refused command) is an effect on the state after
which the part goes on, so this type has no constructor. -/
inductive Fault
  deriving DecidableEq, Repr

/-- What the model declines to give a meaning. -/
inductive Refusal
  /-- Raised by an arm of `exec` for a row that has no meaning yet; safe. No arm raises it. -/
  | notModelled (mnemonic : String)
  deriving DecidableEq, Repr

/-! ## The named values of the spec, in the order of the tables that lay them down (R167) -/

/-- The sector states (R41). -/
inductive SectorState
  | absent | queued | filling | clean | dirty | copying | writing | redirty | stranded | unwritten | failed
  deriving DecidableEq, Repr

/-- The faults of a last-fault record (R105); the first eight are the failure causes of R40. -/
inductive Cause
  | idCrc | dataCrc | notFound | defective | writeFault | protect | verify | noSide | seekFault | speedFault
  deriving DecidableEq, Repr

/-- The kinds of an operation record (R61). -/
inductive Kind
  | fill | prefetch | writeback | stampRead | format
  deriving DecidableEq, Repr

/-- The classes of an operation record (R61), from highest to lowest. -/
inductive Urgency
  | urgent | demand | normal | background
  deriving DecidableEq, Repr

/-- The phases of an operation record (R62). -/
inductive Phase
  | waiting | selected | inEngine
  deriving DecidableEq, Repr

/-- The engine states (R83). -/
inductive EngineState
  | notReady | held | recalibrating | idle | select | waitBuffer | positioning | waitChannel
  | searching | reading | writing | verifying | formatting
  deriving DecidableEq, Repr

/-- The volume states (R131). -/
inductive VolState
  | empty | readingStamp | attached | mismatch | unknown
  deriving DecidableEq, Repr

/-- The stamp outcomes (R131). -/
inductive StampOutcome
  | none | valid | invalid | unreadable
  deriving DecidableEq, Repr

/-- The outcomes of a last-fault record (R105). -/
inductive FaultOutcome
  | failed | damagedDelivered | unwritten | stampUnreadable | driveFault
  deriving DecidableEq, Repr

/-- The states of a secure slot (R148). -/
inductive SlotState
  | free | active | doneOk | doneFailed | doneLate
  deriving DecidableEq, Repr

/-- The causes of a reset, in the order of R160. -/
inductive ResetCause
  | coldStart | powerUp | longDip | resetLine | resetCommand
  deriving DecidableEq, Repr

/-- The kinds of a burst (R113), in the order R167 numbers them. -/
inductive BurstKind
  | delivery | copyOut | blankFill
  deriving DecidableEq, Repr

/-- The causes of a failed format (R130). -/
inductive FormatCause
  | protect | writeFault | door
  deriving DecidableEq, Repr

/-! ## Memory -/

/-- Main memory behind the downstream port: the listed bytes, addresses rising, none equal to what
an unlisted address reads as. -/
abbrev Memory := List Host.Cell

/-! ## The Memory Path (chapter 1) -/

/-- The three answers to an upstream cycle. -/
inductive Answer
  | pass | defer | fault
  deriving DecidableEq, Repr

/-- The data that the answer to a read carries. -/
inductive ReadData
  | byte (data : Byte)
  | word (data : BitVec 16)
  deriving DecidableEq, Repr

/-- What the requester of an upstream cycle is given (R2). -/
structure Reply where
  answer : Answer
  data   : Option ReadData
  deriving DecidableEq, Repr

/-- A sector entry's place: its window and its sector index. -/
structure SectorRef where
  win : WinIx
  idx : Nat
  deriving DecidableEq, Repr

/-- A Deferred-Cycle record (chapter 1.6); its tag is its place in the list. -/
structure DeferRecord where
  ref   : SectorRef
  first : Coarse
  deriving DecidableEq, Repr

/-- The last-refusal record (R5, R17). -/
structure RefusalRecord where
  tag  : Tag
  addr : BitVec 20
  word : Bool
  ref  : SectorRef
  time : Coarse
  deriving DecidableEq, Repr

/-- The last-expiry record (R16, R17); `code` is the sector state code of R41. -/
structure ExpiryRecord where
  tag   : Tag
  addr  : BitVec 20
  write : Bool
  ref   : SectorRef
  first : Coarse
  time  : Coarse
  code  : Nat
  deriving DecidableEq, Repr

/-- The Memory Path's list, records and settings. -/
structure Path where
  deferred   : Vector (Option DeferRecord) 16
  lastRefusal : Option RefusalRecord
  lastExpiry : Option ExpiryRecord
  deferLimit : BitVec 16
  blankByte  : Byte
  deriving DecidableEq, Repr

/-! ## Windows and sector entries (chapters 2 and 3) -/

/-- A disk address: drive, cylinder, side and logical sector. -/
structure DiskAddr where
  drive    : DriveIx
  cylinder : Nat
  side     : Nat
  sector   : Nat
  deriving DecidableEq, Repr

/-- A binding as it is stored (R22, R23). `sent` is the options byte as it came, kept for the bits
that no rule names (log 20). -/
structure Binding where
  page       : Nat
  count      : Nat
  drive      : DriveIx
  cylinder   : Nat
  side       : Nat
  sector     : Nat
  sides      : Nat
  gathered   : Bool
  fresh      : Bool
  writers    : BitVec 16
  deliver    : Bool
  readAhead  : Nat
  verify     : Bool
  stampBound : Bool
  sent       : Byte
  deriving DecidableEq, Repr

/-- A sector entry (R40). `marks` holds a bit for each secure slot whose mark the entry carries;
`late` holds those marks that were set after the last word of the copy-out now being written, which
R53 keeps. The backlog flag and the operation field are computed (log 31). -/
structure Entry where
  state        : SectorState
  addr         : DiskAddr
  dirtySince   : Option Coarse
  redirtySince : Option Coarse
  damaged      : Bool
  cause        : Option Cause
  marks        : BitVec 4
  late         : BitVec 4
  urgent       : Bool
  deriving DecidableEq, Repr

/-- A window entry (R21): each state holds exactly the contents its row of the table gives.
A staged `none` is the empty binding of a RELEASE. -/
inductive Window
  | unbound
  | bound (current : Binding) (entries : List Entry)
  | staged (current : Binding) (next : Option Binding) (entries : List Entry)
  deriving DecidableEq, Repr

/-- The last-discard record (R34). -/
structure DiscardRecord where
  win   : WinIx
  count : Nat
  drive : DriveIx
  time  : Coarse
  deriving DecidableEq, Repr

/-! ## The Operation Pool (chapter 4) -/

/-- An operation record in use (R61). `owner` is the sector entry it belongs to, absent for
STAMP-READ and FORMAT and once it is detached (R35). `verify` is the verify choice of the binding
it was made for, and `copied` says that its copy-out has read its last word (log 26). -/
structure Record where
  kind     : Kind
  urgency  : Urgency
  drive    : DriveIx
  cylinder : Nat
  side     : Nat
  sector   : Option Nat
  owner    : Option SectorRef
  enqueued : Coarse
  attempts : Nat
  misses   : Nat
  recal    : Bool
  buffer   : Option BufIx
  phase    : Phase
  format   : Option FormatParams
  verify   : Bool
  copied   : Bool
  deriving DecidableEq, Repr

/-- The pool's records, their order of making, the Backlog List and the stamp waits. -/
structure Pool where
  records    : Vector (Option Record) 48
  order      : List RecIx
  backlog    : List SectorRef
  stampWaits : List DriveIx
  deriving DecidableEq, Repr

/-! ## Drive engines (chapter 5) -/

/-- The last-fault record (R105). -/
structure FaultRecord where
  fault    : Cause
  outcome  : FaultOutcome
  kind     : Option Kind
  cylinder : Option Nat
  side     : Option Nat
  sector   : Option Nat
  attempts : Option Nat
  ref      : Option SectorRef
  time     : Coarse
  deriving DecidableEq, Repr

/-- What the stepping of a drive is doing: nothing, a seek to the engine's target (until the
positioning it belongs to ends), or a recalibration. -/
inductive Motion
  | still | seeking | recal
  deriving DecidableEq, Repr

/-- A drive engine (R83) with the lines of its drive that it reads or drives. -/
structure Engine where
  state       : EngineState
  door        : Bool
  link        : Bool
  fault       : Bool
  dip         : Bool
  /-- The cylinder under the heads, `none` when unknown. -/
  cyl         : Option Nat
  loaded      : Bool
  idle        : Nat
  newer       : Option Tick
  older       : Option Tick
  period      : Nat
  bad         : Nat
  current     : Option RecIx
  dataHeld    : Bool
  lastFault   : Option FaultRecord
  stepMs      : Nat
  retries     : Nat
  halt        : Bool
  /-- The write-gate line. -/
  gate        : Bool
  /-- Ticks of the index-lost check (R89), `none` while it rests. -/
  lostTimer   : Option Nat
  motion      : Motion
  /-- The target cylinder of the seek in progress. -/
  target      : Nat
  /-- The side-select line: the side of the latest seek's target (R87). -/
  side        : Nat
  /-- The direction line: the latest steps go inward, to higher cylinders (R86, R87). -/
  inward      : Bool
  /-- The step time, in ticks, of the seek or recalibration in progress (R87). -/
  stepTicks   : Nat
  /-- Ticks until the motion's next step, or until its settles have elapsed. -/
  wait        : Nat
  recalSteps  : Nat
  /-- Index pulses seen by the search or verify in progress (R93, R99). -/
  searchPulses : Nat
  badId       : Bool
  /-- In VERIFYING: the ID field has been found. -/
  idFound     : Bool
  /-- In FORMATTING: the track is being written. -/
  formatOn    : Bool
  /-- The slot time taken at the format's first index (R127). -/
  formatSlot  : Nat
  ready       : Bool
  track0      : Bool
  protect     : Bool
  deriving DecidableEq, Repr

/-! ## Channel and bursts (chapter 6) -/

/-- The disk channel (R111). -/
structure Channel where
  owner : Option DriveIx
  queue : List DriveIx
  deriving DecidableEq, Repr

/-- A burst that has been requested (R113, R114). `record` is the record of a delivery or copy-out,
absent once it has been removed; `served` is the entry of a blank fill, absent once the entry is
destroyed. `words` counts the words taken. `fill` is the blank fill byte from the first word on. -/
structure Burst where
  kind    : BurstKind
  drive   : DriveIx
  base    : Nat
  record  : Option RecIx
  served  : Option SectorRef
  buffer  : Option BufIx
  damaged : Bool
  words   : Nat
  fill    : Byte
  deriving DecidableEq, Repr

/-- A delivery or copy-out whose request is pending behind its drive's place (R113). -/
structure BurstRequest where
  kind    : BurstKind
  drive   : DriveIx
  record  : RecIx
  damaged : Bool
  deriving DecidableEq, Repr

/-- The burst unit. `owed` says that the running burst takes the port's next turn (R19). -/
structure BurstUnit where
  running : Option Burst
  queue   : List Burst
  behind  : List BurstRequest
  owed    : Bool
  deriving DecidableEq, Repr

/-! ## Volumes (chapters 7 and 8) -/

/-- What the tracker takes from a valid stamp (R124). -/
structure Stamp where
  volumeId   : BitVec 32
  interleave : Byte
  sides      : Byte
  flags      : Byte
  lastCyl    : Byte
  deriving DecidableEq, Repr

/-- The last-removal record (R138). -/
structure RemovalRecord where
  before   : VolState
  volumeId : Option (BitVec 32)
  changed  : Bool
  stranded : Nat
  removed  : Nat
  time     : Coarse
  deriving DecidableEq, Repr

/-- The last-format record (R130); a present cause says FAILED. -/
structure FormatRecord where
  cause      : Option FormatCause
  cylinder   : Nat
  side       : Nat
  interleave : Byte
  time       : Coarse
  deriving DecidableEq, Repr

/-- The volume record of a drive (R131), with its last-format record (R130). -/
structure Volume where
  state       : VolState
  outcome     : StampOutcome
  present     : Option Stamp
  boundId     : Option (BitVec 32)
  protect     : Bool
  changed     : Bool
  lastRemoval : Option RemovalRecord
  lastFormat  : Option FormatRecord
  deriving DecidableEq, Repr

/-- A slot of a track side as FORMAT lays it down (R119): its place after the index pulse in fifths of
a tick, of which a byte takes eight; its bytes; and its slot gap, copies of `filler` up to the place
`gapEnd`, the beginning of the next slot, or up to the next index pulse for `none`. The marks among its bytes
are told from data by their places alone (DESIGN CHOICE, log 38). -/
structure TrackSlot where
  start  : Nat
  bytes  : List Byte
  filler : Byte
  gapEnd : Option Nat
  deriving DecidableEq, Repr

/-- A track side as FORMAT lays it down, from one index pulse to the next: the index gap, then the
slots, each with its slot gap (R119, R127). -/
structure TrackSide where
  indexGap : List Byte
  slots    : List TrackSlot
  deriving DecidableEq, Repr

/-- The latest thing the write-data line has laid down whole: a write-back's field (R121) or a
formatted track side (R127). -/
inductive DiskOut
  | field (drive : DriveIx) (bytes : List Byte)
  | track (drive : DriveIx) (cylinder side : Nat) (layout : TrackSide)
  deriving DecidableEq, Repr

/-! ## Sweeps and secure slots (chapter 9) -/

/-- The sweep timer (R143). -/
structure SweepTimer where
  enabled : Bool
  current : Nat
  next    : Nat
  counter : Nat
  deriving DecidableEq, Repr

/-- A secure slot (R148). -/
structure Slot where
  state     : SlotState
  target    : BitVec 16
  stampLast : Bool
  deadline  : BitVec 16
  start     : Coarse
  ended     : Option Coarse
  taken     : Nat
  remaining : Nat
  failed    : Nat
  deriving DecidableEq, Repr

/-! ## Events, link, supply -/

/-- The Event Unit (R169 to R172): bit n stands for flag n. -/
structure EventUnit where
  flags   : BitVec 22
  again   : BitVec 22
  mask    : BitVec 22
  readTag : BitVec 8
  deriving DecidableEq, Repr

/-- The Service Link Port (R162, R163): the command buffer, and the response whose length is m. -/
structure LinkPort where
  command  : List Byte
  response : List Byte
  deriving DecidableEq, Repr

/-- An entry of the Outage List (chapter 10.3). -/
structure OutageEntry where
  addr : DiskAddr
  win  : WinIx
  deriving DecidableEq, Repr

/-- The Supply Monitor and the Outage Store (chapter 10). -/
structure Store where
  dipTimer : Option Nat
  list     : List OutageEntry
  overflow : Nat
  valid    : Bool
  cause    : ResetCause
  deriving DecidableEq, Repr

/-- The judgements of the latest coarse advance that have not been made yet (log 3). -/
structure Due where
  sweep    : Bool
  expiry   : Bool
  promote  : Bool
  deadline : Bool
  deriving DecidableEq, Repr

/-- The two clocks (R1); `toCoarse` counts the ticks since the last coarse advance. -/
structure Clock where
  tick     : Tick
  coarse   : Coarse
  toCoarse : Nat
  due      : Due
  deriving DecidableEq, Repr

/-- Whether the part is without main supply, in a reset, or running. A reset remembers whether it
is a power-up, after which both clocks begin at 0, and whether OUTAGE-RECORDED is raised at its end. -/
inductive Power
  | off
  | inReset (powerUp : Bool) (raise : Bool)
  | running
  deriving DecidableEq, Repr

/-- The whole state of the 840. -/
structure State where
  /-- The commands that are waiting, the next to run at the head. -/
  pending     : List Instr
  power       : Power
  resetLine   : Bool
  supplyLow   : Bool
  strap       : BitVec 2
  clock       : Clock
  memory      : Memory
  answer      : Option Reply
  heldCycles  : List UpCycle
  /-- The answers to the cycles that the latest reset to end had held off, in their order (R20). -/
  heldAnswers : List Reply
  path        : Path
  windows     : Vector Window 16
  lastDiscard : Option DiscardRecord
  pool        : Pool
  engines     : Vector Engine 4
  buffers     : Vector (List Byte) 4
  bufWait     : List DriveIx
  chan        : Channel
  bursts      : BurstUnit
  volumes     : Vector Volume 4
  sweep       : SweepTimer
  ageLimit    : BitVec 16
  slots       : Vector Slot 4
  events      : EventUnit
  link        : LinkPort
  store       : Store
  diskOut     : Option DiskOut
  deriving DecidableEq, Repr

/-! ## Values after reset -/

/-- No judgement is due. -/
def Due.none : Due := { sweep := false, expiry := false, promote := false, deadline := false }

/-- The Memory Path after a reset (R20). -/
def Path.reset : Path :=
  { deferred := Vector.replicate 16 none, lastRefusal := none, lastExpiry := none,
    deferLimit := 30, blankByte := 0x20 }

/-- The Operation Pool after a reset (R82). -/
def Pool.reset : Pool :=
  { records := Vector.replicate 48 none, order := [], backlog := [], stampWaits := [] }

/-- An engine after a reset (R107), the lines of its drive standing as given. A drive that is ready
begins its recalibration at the end of the reset. -/
def Engine.reset (ready track0 protect : Bool) : Engine :=
  { state := if ready then .recalibrating else .notReady,
    door := !ready, link := false, fault := false, dip := false,
    cyl := none, loaded := false, idle := 0, newer := none, older := none, period := 16667, bad := 0,
    current := none, dataHeld := false, lastFault := none, stepMs := 8, retries := 4, halt := false,
    gate := false, lostTimer := none, motion := .still, target := 0, side := 0, inward := false,
    stepTicks := 0, wait := 0, recalSteps := 0, searchPulses := 0, badId := false, idFound := false,
    formatOn := false, formatSlot := 0, ready := ready, track0 := track0, protect := protect }

/-- The burst unit after a reset (R118). -/
def BurstUnit.reset : BurstUnit := { running := none, queue := [], behind := [], owed := false }

/-- A volume record after a reset (R131). -/
def Volume.reset : Volume :=
  { state := .empty, outcome := .none, present := none, boundId := none, protect := false,
    changed := false, lastRemoval := none, lastFormat := none }

/-- A FREE secure slot: the fields other than the state have no value (R148). -/
def Slot.reset : Slot :=
  { state := .free, target := 0, stampLast := false, deadline := 0, start := 0, ended := none,
    taken := 0, remaining := 0, failed := 0 }

/-- The sweep timer after a reset (R143). -/
def SweepTimer.reset : SweepTimer := { enabled := true, current := 600, next := 600, counter := 1 }

/-- The Event Unit after a reset (R169, R170, R171). -/
def EventUnit.reset : EventUnit := { flags := 0, again := 0, mask := 0, readTag := 0 }

/-- The machine right after reset: the end of a cold start with no drive ready, the RESET and
supply-low lines inactive, no command waiting. What the spec gives no value for (the lines, the
straps, the buffers' bytes, the answer and write-data lines, the command buffer) is DESIGN CHOICE,
log 8, unsafe. -/
def State.reset : State :=
  { pending := [], power := .running, resetLine := false, supplyLow := false, strap := 0,
    clock := { tick := 0, coarse := 0, toCoarse := 0, due := Due.none },
    memory := [], answer := none, heldCycles := [], heldAnswers := [], path := Path.reset,
    windows := Vector.replicate 16 .unbound, lastDiscard := none, pool := Pool.reset,
    engines := Vector.replicate 4 (Engine.reset false false false),
    buffers := Vector.replicate 4 (List.replicate 256 0), bufWait := [],
    chan := { owner := none, queue := [] }, bursts := BurstUnit.reset,
    volumes := Vector.replicate 4 Volume.reset, sweep := SweepTimer.reset, ageLimit := 1200,
    slots := Vector.replicate 4 Slot.reset, events := EventUnit.reset,
    link := { command := [], response := [0] },
    store := { dipTimer := none, list := [], overflow := 0, valid := true, cause := .coldStart },
    diskOut := none }

end Sys2Proof.Machine
end

