-- ==== Sys2Proof/Machine/Ops.lean ====
section
/-! DEFINITION. The named operations over the state: indexed access, main memory, clocks, sector entries and records. -/

namespace Sys2Proof.Machine

open Sys2Proof

/-! ## Indexed access -/

def State.engine (s : State) (d : DriveIx) : Engine := s.engines[d]

def State.setEngine (s : State) (d : DriveIx) (e : Engine) : State :=
  { s with engines := s.engines.set d e }

def State.modEngine (s : State) (d : DriveIx) (f : Engine → Engine) : State :=
  s.setEngine d (f (s.engine d))

def State.volume (s : State) (d : DriveIx) : Volume := s.volumes[d]

def State.setVolume (s : State) (d : DriveIx) (v : Volume) : State :=
  { s with volumes := s.volumes.set d v }

def State.modVolume (s : State) (d : DriveIx) (f : Volume → Volume) : State :=
  s.setVolume d (f (s.volume d))

def State.window (s : State) (w : WinIx) : Window := s.windows[w]

def State.setWindow (s : State) (w : WinIx) (x : Window) : State :=
  { s with windows := s.windows.set w x }

def State.slot (s : State) (k : SlotIx) : Slot := s.slots[k]

def State.setSlot (s : State) (k : SlotIx) (x : Slot) : State :=
  { s with slots := s.slots.set k x }

def State.record? (s : State) (r : RecIx) : Option Record := s.pool.records[r]

def State.setRecord (s : State) (r : RecIx) (x : Option Record) : State :=
  { s with pool := { s.pool with records := s.pool.records.set r x } }

def State.modRecord (s : State) (r : RecIx) (f : Record → Record) : State :=
  s.setRecord r ((s.record? r).map f)

def State.buffer (s : State) (b : BufIx) : List Byte := s.buffers[b]

def State.setBuffer (s : State) (b : BufIx) (x : List Byte) : State :=
  { s with buffers := s.buffers.set b x }

/-- Runs `f` while the 840 runs: during a reset, and without main supply, the part acts on nothing
(R158, log 28). -/
def State.whileRunning (s : State) (f : State → State) : State :=
  if s.power = .running then f s else s

/-! ## Main memory -/

/-- The number of byte addresses of main memory (chapter 0, section 6). -/
def memorySize : Nat := 1048576

/-- One byte of memory. -/
def Memory.read : Memory → Nat → Byte
  | [], _ => Config.erasedByte
  | (k, v) :: rest, a =>
    if k = a then v else if a < k then Config.erasedByte else Memory.read rest a

/-- Writes one byte, keeping the canonical form: writing what an unlisted address reads as removes
the entry. -/
def Memory.write : Memory → Nat → Byte → Memory
  | [], a, v => if v = Config.erasedByte then [] else [(a, v)]
  | (k, x) :: rest, a, v =>
    if a < k then (if v = Config.erasedByte then (k, x) :: rest else (a, v) :: (k, x) :: rest)
    else if a = k then (if v = Config.erasedByte then rest else (a, v) :: rest)
    else (k, x) :: Memory.write rest a v

/-- The canonical form from address `low` on: addresses rising and inside main memory, and no entry
equal to what an unlisted address reads as. -/
def Memory.wfFrom : Nat → Memory → Bool
  | _, [] => true
  | low, (k, v) :: rest =>
    decide (low ≤ k) && decide (k < memorySize) && decide (v ≠ Config.erasedByte)
      && Memory.wfFrom (k + 1) rest

/-- The canonical form. -/
def Memory.wf (m : Memory) : Bool := Memory.wfFrom 0 m

/-- One byte of main memory; the address has 20 bits. -/
def State.readByte (s : State) (a : Nat) : Byte := s.memory.read (a % memorySize)

def State.writeByte (s : State) (a : Nat) (v : Byte) : State :=
  { s with memory := s.memory.write (a % memorySize) v }

/-- The aligned word that holds address `a`: the lowest address bit is ignored (R2). The high byte
lies at the even address (DESIGN CHOICE, log 7, unsafe). -/
def State.readWord (s : State) (a : Nat) : BitVec 16 :=
  s.readByte (a / 2 * 2) ++ s.readByte (a / 2 * 2 + 1)

def State.writeWord (s : State) (a : Nat) (v : BitVec 16) : State :=
  (s.writeByte (a / 2 * 2) (v.extractLsb' 8 8)).writeByte (a / 2 * 2 + 1) (v.extractLsb' 0 8)

/-- A data field's 256 bytes (R121): longer lists are cut and shorter ones filled with 00h; for a
well-formed command the list has 256 bytes and is taken as it is (log 29). -/
def fit256 (data : List Byte) : List Byte := (data ++ List.replicate 256 0).take 256

/-! ## The clocks -/

/-- `n` ticks pass for an engine: its index-lost count rises to at most 36,800 (R89), and the wait
of its motion shrinks. Once a seek has reached its target and its settle has elapsed, heads that
are unloaded are loaded, 3,500 ticks before the positioning is over (R90). -/
def Engine.elapse (n : Nat) (e : Engine) : Engine :=
  { e with
    lostTimer := e.lostTimer.map fun t => min (t + n) 36800
    wait := e.wait - n
    loaded := e.loaded ||
      (decide (e.motion = .seeking) && decide (e.cyl = some e.target) && decide (e.wait - n ≤ 3500)) }

/-- `n` ticks pass in which no count of the part comes to its end (R1): the tick counter, the ticks
toward the next coarse advance, the dip timer up to 2,000 (R157), and every engine. -/
def State.passTicks (s : State) (n : Nat) : State :=
  if s.power = .off then s
  else
    { s with
      clock := { s.clock with
        tick := s.clock.tick + BitVec.ofNat 16 n
        toCoarse := s.clock.toCoarse + n }
      store := { s.store with dipTimer := s.store.dipTimer.map fun t => min (t + n) 2000 }
      engines := s.engines.map (Engine.elapse n) }

/-! ## Sector entries -/

/-- The current binding of a window that has one (R21). -/
def Window.current? : Window → Option Binding
  | .unbound => none
  | .bound b _ => some b
  | .staged b _ _ => some b

/-- The sector entries of a window, in sector-index order (R21, R26). -/
def Window.entries : Window → List Entry
  | .unbound => []
  | .bound _ es => es
  | .staged _ _ es => es

def Window.isStaged : Window → Bool
  | .staged _ _ _ => true
  | _ => false

def Window.isBound : Window → Bool
  | .bound _ _ => true
  | _ => false

/-- Changes the entry at sector index `i`, if there is one. -/
def Window.modEntry (i : Nat) (f : Entry → Entry) : Window → Window
  | .unbound => .unbound
  | .bound b es => .bound b (es.modify i f)
  | .staged b n es => .staged b n (es.modify i f)

def State.entry? (s : State) (x : SectorRef) : Option Entry := (s.window x.win).entries[x.idx]?

def State.modEntry (s : State) (x : SectorRef) (f : Entry → Entry) : State :=
  s.setWindow x.win ((s.window x.win).modEntry x.idx f)

/-- The current binding of window `w`. -/
def State.binding? (s : State) (w : WinIx) : Option Binding := (s.window w).current?

/-- The places of the entries of window `w`, in increasing sector index. -/
def State.refsOfWindow (s : State) (w : WinIx) : List SectorRef :=
  (List.range (s.window w).entries.length).map fun i => ⟨w, i⟩

/-- The places of all entries, in increasing window number and sector index. -/
def State.allRefs (s : State) : List SectorRef := allWindows.flatMap s.refsOfWindow

/-- The windows whose current binding names drive `d`, in increasing number. -/
def State.windowsOfDrive (s : State) (d : DriveIx) : List WinIx :=
  allWindows.filter fun w => match s.binding? w with
    | some b => decide (b.drive = d)
    | none => false

/-- The places of the entries of the windows whose current binding names drive `d`. -/
def State.refsOfDrive (s : State) (d : DriveIx) : List SectorRef :=
  (s.windowsOfDrive d).flatMap s.refsOfWindow

/-- The dirty states: memory holds changes that are not on disk (chapter 0, section 5). -/
def SectorState.isDirty : SectorState → Bool
  | .dirty | .copying | .writing | .redirty | .stranded | .unwritten => true
  | .absent | .queued | .filling | .clean | .failed => false

/-- The states in which a STAGED window's entry does not hold back the swap (R31). -/
def SectorState.isQuiet : SectorState → Bool
  | .absent | .clean | .failed => true
  | .queued | .filling | .dirty | .copying | .writing | .redirty | .stranded | .unwritten => false

/-- A new entry for a disk address (R26). -/
def Entry.new (a : DiskAddr) : Entry :=
  { state := .absent, addr := a, dirtySince := none, redirtySince := none, damaged := false,
    cause := none, marks := 0, late := 0, urgent := false }

/-- The age of an entry: how long its oldest change has waited (R42). -/
def Entry.age (e : Entry) (now : Coarse) : Nat :=
  match e.dirtySince with
  | some t => since now t
  | none => 0

/-! ## Operation records -/

/-- The record that a sector entry's operation field names: the one that belongs to it (R60). -/
def State.opOf (s : State) (x : SectorRef) : Option RecIx :=
  allRecords.find? fun r => match s.record? r with
    | some q => decide (q.owner = some x)
    | none => false

/-- The record names the disk sector `a` (R65); a FORMAT names no single sector. -/
def Record.names (q : Record) (a : DiskAddr) : Bool :=
  decide (q.drive = a.drive) && decide (q.cylinder = a.cylinder) && decide (q.side = a.side)
    && decide (q.sector = some a.sector)

/-- Some record in use names the disk sector `a`. -/
def State.sectorTaken (s : State) (a : DiskAddr) : Bool :=
  allRecords.any fun r => match s.record? r with
    | some q => q.names a
    | none => false

/-- The lowest-numbered free record (R61). -/
def State.freeRecord? (s : State) : Option RecIx := allRecords.find? fun r => (s.record? r).isNone

/-- The number of free records. -/
def State.freeCount (s : State) : Nat := (allRecords.filter fun r => (s.record? r).isNone).length

/-- Drive `d`'s list from its head: a record joins at the tail when it is made and keeps its place,
so the list is the order of making restricted to the drive (R64). -/
def State.driveList (s : State) (d : DriveIx) : List RecIx :=
  s.pool.order.filter fun r => match s.record? r with
    | some q => decide (q.drive = d)
    | none => false

/-- A record of kind FILL, PREFETCH or WRITEBACK that belongs to no entry is detached (R35). -/
def Record.detached (q : Record) : Bool :=
  match q.kind with
  | .fill | .prefetch | .writeback => q.owner.isNone
  | .stampRead | .format => false

/-- A record at its making (R61): WAITING, no counts, no buffer. -/
def Record.new (kind : Kind) (urgency : Urgency) (a : DiskAddr) (now : Coarse) : Record :=
  { kind := kind, urgency := urgency, drive := a.drive, cylinder := a.cylinder, side := a.side,
    sector := some a.sector, owner := none, enqueued := now, attempts := 0, misses := 0,
    recal := false, buffer := none, phase := .waiting, format := none, verify := false,
    copied := false }

/-- Record `r`, which is free, is made: it joins the order of making, and with it its drive's list,
at the tail (R64, R66). -/
def State.makeRecord (s : State) (r : RecIx) (q : Record) : State :=
  { s with pool := { s.pool with
      records := s.pool.records.set r (some q)
      order := s.pool.order.filter (· ≠ r) ++ [r] } }

/-- Record `r` leaves the pool's lists; what becomes of it is R73's. -/
def State.dropRecord (s : State) (r : RecIx) : State :=
  { s with pool := { s.pool with
      records := s.pool.records.set r none
      order := s.pool.order.filter (· ≠ r) } }

/-! ## Buffers -/

/-- Buffer `b` is free: no record holds it and the running burst does not use it (R108, R110). -/
def State.bufferFree (s : State) (b : BufIx) : Bool :=
  (allRecords.all fun r => match s.record? r with
    | some q => decide (q.buffer ≠ some b)
    | none => true)
  && (match s.bursts.running with
    | some u => decide (u.buffer ≠ some b)
    | none => true)

/-- The lowest-numbered free buffer (R108). -/
def State.freeBuffer? (s : State) : Option BufIx := allBuffers.find? s.bufferFree

/-! ## Hold sets -/

/-- The hold set is empty (R84). -/
def Engine.unheld (e : Engine) : Bool := !e.door && !e.link && !e.fault && !e.dip

/-- The state of an engine that has stopped with no operation: NOT-READY whenever DOOR is in the
hold set, HELD when another hold is, IDLE when the set is empty (R83). -/
def Engine.restState (e : Engine) : EngineState :=
  if e.door then .notReady else if e.unheld then .idle else .held

end Sys2Proof.Machine
end

