-- ==== Sys2Proof/Machine/Flags.lean ====
section
/-! DEFINITION. The event flags: raising, the alert line, the read-then-clear exchange (chapter 11.6, 11.7). -/

namespace Sys2Proof.Machine

open Sys2Proof

/-- The 22 events in the order of their flag numbers (chapter 11.6). -/
inductive Event
  | fillFailed | damagedDelivered | writeFailed | writeRefused | deferExpired | volumeArrived
  | volumeRemoved | volumeMismatch | volumeUnknown | secureDone | secureLate | sweep | backlog
  | speedFault | seekFault | driveHalted | supplyDip | discarded | outageRecorded | protect
  | formatDone | formatFailed
  deriving DecidableEq, Repr

/-- The flag number of an event (chapter 11.6). -/
def Event.number : Event → Nat
  | .fillFailed => 0 | .damagedDelivered => 1 | .writeFailed => 2 | .writeRefused => 3
  | .deferExpired => 4 | .volumeArrived => 5 | .volumeRemoved => 6 | .volumeMismatch => 7
  | .volumeUnknown => 8 | .secureDone => 9 | .secureLate => 10 | .sweep => 11 | .backlog => 12
  | .speedFault => 13 | .seekFault => 14 | .driveHalted => 15 | .supplyDip => 16 | .discarded => 17
  | .outageRecorded => 18 | .protect => 19 | .formatDone => 20 | .formatFailed => 21

/-- The flag of an event as a set of flags. -/
def Event.bit (e : Event) : BitVec 22 := BitVec.twoPow 22 e.number

/-- An event is raised: its flag and its set-again bit are set, whether set already or not (R169). -/
def EventUnit.raise (u : EventUnit) (e : Event) : EventUnit :=
  { u with flags := u.flags ||| e.bit, again := u.again ||| e.bit }

def State.raise (s : State) (e : Event) : State := { s with events := s.events.raise e }

/-- The ALERT line is driven low while a flag that is set has its bit set in the mask (R170). -/
def State.alertLow (s : State) : Bool := decide (s.events.flags &&& s.events.mask ≠ 0)

/-- A set of event flags as it comes over the link: bits 22 and 23 are not judged (R170). -/
def flagSet (mask : BitVec 24) : BitVec 22 := mask.setWidth 22

/-- READ EVENTS: the tag advances, 255 to 0, and every set-again bit is cleared (R171). -/
def EventUnit.read (u : EventUnit) : EventUnit := { u with readTag := u.readTag + 1, again := 0 }

/-- CLEAR EVENTS with the current tag: each flag in the mask whose set-again bit is clear is
cleared (R172). -/
def EventUnit.clear (u : EventUnit) (mask : BitVec 22) : EventUnit :=
  { u with flags := u.flags &&& ~~~(mask &&& ~~~u.again) }

/-- SET ALERT MASK replaces the whole mask (R170). -/
def EventUnit.setMask (u : EventUnit) (mask : BitVec 22) : EventUnit := { u with mask := mask }

end Sys2Proof.Machine
end

