-- ==== Sys2Proof/Machine/Operands.lean ====
section
/-! DEFINITION. What commands carry and replies return: bindings and their runs, and the byte codes of chapter 11. -/

namespace Sys2Proof.Machine

open Sys2Proof

/-! ## Numbers of windows, drives and slots as they are sent -/

/-- A window number: outside 0..15 it names no window (R164). -/
def windowOf (b : Byte) : Option WinIx := if h : b.toNat < 16 then some ⟨b.toNat, h⟩ else none

/-- A drive number: outside 0..3 it names no drive (R164). -/
def driveOf (b : Byte) : Option DriveIx := if h : b.toNat < 4 then some ⟨b.toNat, h⟩ else none

/-- A slot number: outside 0..3 it names no slot (R155, R164). -/
def slotOf (b : Byte) : Option SlotIx := if h : b.toNat < 4 then some ⟨b.toNat, h⟩ else none

/-! ## Runs (R23) -/

/-- The disk address of sector index `i` of a binding (R23). -/
def Binding.diskAddr (b : Binding) (i : Nat) : DiskAddr :=
  if b.sides = 1 then
    let l := b.sector + i
    { drive := b.drive, cylinder := b.cylinder + l / 16, side := b.side, sector := l % 16 }
  else
    let l := 16 * (2 * b.cylinder + b.side) + b.sector + i
    { drive := b.drive, cylinder := l / 16 / 2, side := l / 16 % 2, sector := l % 16 }

/-- The run of a binding: the disk addresses of its sectors in index order. -/
def Binding.run (b : Binding) : List DiskAddr := (List.range b.count).map b.diskAddr

/-- The first address of a binding's memory range (R22). -/
def Binding.base (b : Binding) : Nat := 256 * b.page

/-- The first address past a binding's memory range (R3). -/
def Binding.top (b : Binding) : Nat := b.base + 256 * b.count

/-- The entries created when a binding becomes current (R26). -/
def Binding.newEntries (b : Binding) : List Entry := b.run.map Entry.new

/-- The disk address of the stamp sector of drive `d`: cylinder 0, side 0, logical sector 0. -/
def stampAddr (d : DriveIx) : DiskAddr := { drive := d, cylinder := 0, side := 0, sector := 0 }

/-- A binding record as it is stored (R22): read-ahead is clamped to 7, and stamp-bound is derived
(R23). `none` where a field is outside its range or the run passes cylinder 76. -/
def bindingOf? (r : BindRecord) : Option Binding :=
  match driveOf r.drive with
  | none => none
  | some d =>
    let b : Binding :=
      { page := r.page.toNat, count := r.count.toNat, drive := d, cylinder := r.cylinder.toNat,
        side := r.side.toNat, sector := r.sector.toNat, sides := r.sides.toNat,
        gathered := r.options.getLsbD 0, fresh := r.options.getLsbD 1, writers := r.writers,
        deliver := r.options.getLsbD 2, readAhead := min r.readAhead.toNat 7,
        verify := r.options.getLsbD 3,
        stampBound := decide (r.cylinder.toNat = 0 ∧ r.side.toNat = 0 ∧ r.sector.toNat = 0),
        sent := r.options }
    if 1 ≤ b.count ∧ b.count ≤ 64 ∧ b.top ≤ memorySize ∧ b.cylinder ≤ 76 ∧ b.side ≤ 1
        ∧ b.sector ≤ 15 ∧ (b.sides = 1 ∨ b.sides = 2) ∧ (b.diskAddr (b.count - 1)).cylinder ≤ 76
    then some b else none

/-! ## Result codes (chapter 11.2) -/

inductive Result
  | done | badParam | wrongState | conflict | noRoom | unknownCommand | short
  deriving DecidableEq, Repr

def Result.code : Result → Byte
  | .done => 0x00 | .badParam => 0x01 | .wrongState => 0x02 | .conflict => 0x03
  | .noRoom => 0x04 | .unknownCommand => 0x05 | .short => 0x06

/-- The whole response is written into the buffer at once: the result code, then the reply data
(R163). -/
def State.respond (s : State) (r : Result) (data : List Byte) : State :=
  { s with link := { s.link with response := r.code :: data } }

/-- The command buffer takes a message's bytes: the command byte, the length byte and the
parameters (R162). -/
def State.takeCommand (s : State) (command : Byte) (params : List Byte) : State :=
  { s with link := { s.link with command := command :: BitVec.ofNat 8 params.length :: params } }

/-! ## Values in replies (R167): positions in the tables that lay the names down -/

def byteOf (n : Nat) : Byte := BitVec.ofNat 8 n

/-- A value sent in two bytes, high byte first (R165). -/
def bytes2 (n : Nat) : List Byte := [byteOf (n / 256), byteOf n]

/-- A value sent in four bytes, high byte first. -/
def bytes4 (n : Nat) : List Byte :=
  [byteOf (n / 16777216), byteOf (n / 65536), byteOf (n / 256), byteOf n]

/-- An address or a set of flags sent in three bytes, high byte first. -/
def bytes3 (n : Nat) : List Byte := [byteOf (n / 65536), byteOf (n / 256), byteOf n]

/-- A flag in a byte of its own: 1 where it is set. R167 gives only the 0 of an empty record's presence byte;
the 1 of a record that is present and of a flag that is set is DESIGN CHOICE (log 39). -/
def flagByte (b : Bool) : Byte := if b then 1 else 0

/-- A value that is none or unknown is carried as FFh. -/
def orNone : Option Nat → Byte
  | some n => byteOf n
  | none => 0xFF

/-- A list cut or padded with FFh to `n` bytes. -/
def padded (n : Nat) (l : List Byte) : List Byte := (l ++ List.replicate n 0xFF).take n

/-- The state code of a sector entry (R41). -/
def Entry.code (e : Entry) : Nat :=
  match e.state with
  | .absent => 0 | .queued => 1 | .filling => 2
  | .clean => if e.damaged then 11 else 3
  | .dirty => 4 | .copying => 5 | .writing => 6 | .redirty => 7 | .stranded => 8
  | .unwritten => 9 | .failed => 10

def Cause.code : Cause → Nat
  | .idCrc => 0 | .dataCrc => 1 | .notFound => 2 | .defective => 3 | .writeFault => 4
  | .protect => 5 | .verify => 6 | .noSide => 7 | .seekFault => 8 | .speedFault => 9

def Kind.code : Kind → Nat
  | .fill => 0 | .prefetch => 1 | .writeback => 2 | .stampRead => 3 | .format => 4

def Urgency.code : Urgency → Nat
  | .urgent => 0 | .demand => 1 | .normal => 2 | .background => 3

def Phase.code : Phase → Nat
  | .waiting => 0 | .selected => 1 | .inEngine => 2

def EngineState.code : EngineState → Nat
  | .notReady => 0 | .held => 1 | .recalibrating => 2 | .idle => 3 | .select => 4
  | .waitBuffer => 5 | .positioning => 6 | .waitChannel => 7 | .searching => 8 | .reading => 9
  | .writing => 10 | .verifying => 11 | .formatting => 12

def VolState.code : VolState → Nat
  | .empty => 0 | .readingStamp => 1 | .attached => 2 | .mismatch => 3 | .unknown => 4

def StampOutcome.code : StampOutcome → Nat
  | .none => 0 | .valid => 1 | .invalid => 2 | .unreadable => 3

def FaultOutcome.code : FaultOutcome → Nat
  | .failed => 0 | .damagedDelivered => 1 | .unwritten => 2 | .stampUnreadable => 3 | .driveFault => 4

def SlotState.code : SlotState → Nat
  | .free => 0 | .active => 1 | .doneOk => 2 | .doneFailed => 3 | .doneLate => 4

def ResetCause.code : ResetCause → Nat
  | .coldStart => 0 | .powerUp => 1 | .longDip => 2 | .resetLine => 3 | .resetCommand => 4

def BurstKind.code : BurstKind → Nat
  | .delivery => 0 | .copyOut => 1 | .blankFill => 2

def FormatCause.code : FormatCause → Nat
  | .protect => 0 | .writeFault => 1 | .door => 2

def Window.code : Window → Nat
  | .unbound => 0 | .bound _ _ => 1 | .staged _ _ _ => 2

/-- The warm-reset causes among the reset causes. -/
def warmCause : WarmCause → ResetCause
  | .longDip => .longDip | .resetLine => .resetLine | .resetCommand => .resetCommand

/-- A binding record as WINDOW STATES returns it (R166): bit 4 of byte 8 is the stamp-bound value
the part derived, byte 11 the stored read-ahead. Bits 5 to 7 of byte 8 are a free value (log 20). -/
def Binding.bytes (b : Binding) : List Byte :=
  bytes2 b.page ++ [byteOf b.count, byteOf b.drive.val, byteOf b.cylinder, byteOf b.side,
    byteOf b.sector, byteOf b.sides,
    Config.spareOptionBits b.sent ++ (BitVec.ofBool b.stampBound ++ BitVec.ofBool b.verify
      ++ BitVec.ofBool b.deliver ++ BitVec.ofBool b.fresh ++ BitVec.ofBool b.gathered : BitVec 5)]
  ++ bytes2 b.writers.toNat ++ [byteOf b.readAhead]

/-- The parameter bytes of a binding record as they came (R166). -/
def bindRecordBytes (r : BindRecord) : List Byte :=
  bytes2 r.page.toNat ++ [r.count, r.drive, r.cylinder, r.side, r.sector, r.sides, r.options]
    ++ bytes2 r.writers.toNat ++ [r.readAhead]

/-- The parameter bytes of FORMAT as they came (R165). -/
def formatParamBytes (p : FormatParams) : List Byte :=
  [p.drive, p.cylinder, p.side, p.interleave, p.fill] ++ p.descriptors
    ++ [p.flags] ++ bytes4 p.volumeId.toNat ++ [p.sides, p.lastCyl]

end Sys2Proof.Machine
end

