-- ==== Sys2Proof/Machine/Transitions.lean ====
section
/-! DEFINITION. The changes of state of a sector entry, one for each line of the table of R41: an entry in any other state is left as it is. -/

namespace Sys2Proof.Machine

open Sys2Proof

/-- The states of an entry whose write-back may be under way (R54, R55, R57). -/
def SectorState.inWriteback : SectorState → Bool
  | .dirty | .copying | .writing | .redirty => true
  | .absent | .queued | .filling | .clean | .stranded | .unwritten | .failed => false

/-- A SECURE marks an entry in this state (R150); an UNWRITTEN entry carries no marks (R40). -/
def SectorState.marked : SectorState → Bool
  | .dirty | .copying | .writing | .redirty | .stranded => true
  | .absent | .queued | .filling | .clean | .unwritten | .failed => false

/-- The entry has no image, and no trace of what it held (R46, R49, R56). -/
def Entry.emptied (e : Entry) : Entry := Entry.new e.addr

/-- The entry becomes CLEAN and leaves the dirty states: dirty-since, marks and the urgent flag go (R42,
R52, R56). -/
def Entry.cleaned (damaged : Bool) (e : Entry) : Entry :=
  { e with state := .clean, dirtySince := none, redirtySince := none, damaged := damaged,
           cause := none, marks := 0, late := 0, urgent := false }

/-! ## Bringing a sector into memory -/

/-- A fill or prefetch record is made: ABSENT becomes QUEUED (R44). -/
def Entry.queued (e : Entry) : Entry := if e.state = .absent then { e with state := .queued } else e

/-- A buffer is given to the record: QUEUED becomes FILLING (R45). -/
def Entry.fillBegins (e : Entry) : Entry := if e.state = .queued then { e with state := .filling } else e

/-- A blank fill is requested: ABSENT becomes FILLING (R11). -/
def Entry.blankBegins (e : Entry) : Entry := if e.state = .absent then { e with state := .filling } else e

/-- The record is returned to WAITING: FILLING becomes QUEUED (R45). -/
def Entry.fillReturns (e : Entry) : Entry := if e.state = .filling then { e with state := .queued } else e

/-- The fill is cancelled, evicted or removed: QUEUED or FILLING becomes ABSENT (R46). -/
def Entry.fillCancelled (e : Entry) : Entry :=
  if e.state = .queued ∨ e.state = .filling then e.emptied else e

/-- The delivery ends: FILLING becomes CLEAN (R47). -/
def Entry.delivered (damaged : Bool) (e : Entry) : Entry :=
  if e.state = .filling then e.cleaned damaged else e

/-- The fill fails: QUEUED or FILLING becomes FAILED (R48). -/
def Entry.fillFailed (cause : Cause) (e : Entry) : Entry :=
  if e.state = .queued ∨ e.state = .filling then { e with state := .failed, cause := some cause } else e

/-- The blank fill ends: FILLING becomes DIRTY on an ATTACHED drive and STRANDED on any other (R12). -/
def Entry.blankEnds (attached : Bool) (now : Coarse) (e : Entry) : Entry :=
  if e.state = .filling then
    { e with state := if attached then .dirty else .stranded, dirtySince := some now }
  else e

/-! ## Changes by writes -/

/-- A write passes: CLEAN becomes DIRTY on an ATTACHED drive and STRANDED on any other (R8). -/
def Entry.firstWrite (attached : Bool) (now : Coarse) (e : Entry) : Entry :=
  if e.state = .clean then
    { e with state := if attached then .dirty else .stranded, dirtySince := some now }
  else e

/-- A write passes: WRITING becomes REDIRTY (R9). -/
def Entry.rewritten (now : Coarse) (e : Entry) : Entry :=
  if e.state = .writing then { e with state := .redirty, redirtySince := some now } else e

/-! ## Bringing a change to disk -/

/-- The copy-out takes its first word: DIRTY becomes COPYING (R50). -/
def Entry.copyBegins (e : Entry) : Entry := if e.state = .dirty then { e with state := .copying } else e

/-- The copy-out takes its last word: COPYING becomes WRITING, and every mark so far is in the copy
(R50, R53). -/
def Entry.copyEnds (e : Entry) : Entry :=
  if e.state = .copying then { e with state := .writing, late := 0 } else e

/-- The write-back completes: WRITING becomes CLEAN with every mark cleared (R52); REDIRTY becomes DIRTY
with dirty-since replaced by redirty-since, keeping the urgent flag and the marks set after the
copy-out's last word (R53). -/
def Entry.written (e : Entry) : Entry :=
  match e.state with
  | .writing => e.cleaned false
  | .redirty =>
    { e with state := .dirty, dirtySince := e.redirtySince, redirtySince := none, damaged := false,
             marks := e.marks &&& e.late, late := 0 }
  | .absent | .queued | .filling | .clean | .dirty | .copying | .stranded | .unwritten | .failed => e

/-- The marks that the completion of a write-back clears (R151). -/
def Entry.clearedMarks (e : Entry) : BitVec 4 :=
  match e.state with
  | .writing => e.marks
  | .redirty => e.marks &&& ~~~e.late
  | .absent | .queued | .filling | .clean | .dirty | .copying | .stranded | .unwritten | .failed => 0

/-- The write-back is returned to WAITING: the entry is DIRTY again, with dirty-since, the damaged flag,
the urgent flag and the marks kept and redirty-since dropped (R42, R54). -/
def Entry.writeReturns (e : Entry) : Entry :=
  if e.state.inWriteback then { e with state := .dirty, redirtySince := none, late := 0 } else e

/-- The write-back fails: the entry becomes UNWRITTEN, its marks removed (R55). -/
def Entry.writeFailed (cause : Cause) (e : Entry) : Entry :=
  if e.state.inWriteback then
    { e with state := .unwritten, redirtySince := none, cause := some cause, marks := 0, late := 0 }
  else e

/-! ## The disk comes and goes -/

/-- The ready line falls: the entry becomes STRANDED (R57). -/
def Entry.strand (e : Entry) : Entry :=
  if e.state.inWriteback then { e with state := .stranded, redirtySince := none, late := 0 } else e

/-- The drive attaches: STRANDED becomes DIRTY (R58). -/
def Entry.revive (e : Entry) : Entry := if e.state = .stranded then { e with state := .dirty } else e

/-- ADOPT: CLEAN becomes ABSENT (R58). -/
def Entry.adopted (e : Entry) : Entry := if e.state = .clean then e.emptied else e

/-- RETRY: UNWRITTEN becomes DIRTY on an ATTACHED drive and STRANDED on any other (R59). -/
def Entry.retryWrite (attached : Bool) (e : Entry) : Entry :=
  if e.state = .unwritten then
    { e with state := if attached then .dirty else .stranded, cause := none }
  else e

/-- RETRY: FAILED becomes ABSENT (R59). -/
def Entry.retryFill (e : Entry) : Entry := if e.state = .failed then e.emptied else e

/-! ## The urgent flag and the marks -/

/-- The mark of a slot as a set of slots. -/
def slotBit (k : SlotIx) : BitVec 4 := BitVec.twoPow 4 k.val

/-- Age promotion sets the urgent flag of a dirty entry (R56, R147). -/
def Entry.promoted (e : Entry) : Entry := if e.state.isDirty then { e with urgent := true } else e

/-- An entry takes the mark of slot `k` and the urgent flag; the mark is late when the copy now being
written ended before it (R53, R150, R151). -/
def Entry.mark (k : SlotIx) (e : Entry) : Entry :=
  if e.state.marked then
    { e with
      marks := e.marks ||| slotBit k
      late := if e.state = .writing ∨ e.state = .redirty then e.late ||| slotBit k else e.late
      urgent := true }
  else e

/-- The mark of slot `k` is removed from an entry; its urgent flag stays (R153). -/
def Entry.unmark (k : SlotIx) (e : Entry) : Entry :=
  { e with marks := e.marks &&& ~~~slotBit k, late := e.late &&& ~~~slotBit k }

end Sys2Proof.Machine
end

