-- ==== Sys2Proof/Machine/Slots.lean ====
section
/-! DEFINITION. Secure slots: clearing and failing marks, and the end of a slot (chapter 9.3). -/

namespace Sys2Proof.Machine

open Sys2Proof

/-- An ACTIVE slot whose remaining count is 0 ends: DONE-OK with no failure counted, DONE-FAILED
otherwise; its end time is now, and SECURE-DONE is raised (R152). -/
def State.endSlot (s : State) (k : SlotIx) : State :=
  if (s.slot k).state = .active ∧ (s.slot k).remaining = 0 then
    (s.setSlot k { s.slot k with
      state := if (s.slot k).failed = 0 then .doneOk else .doneFailed
      ended := some s.clock.coarse }).raise .secureDone
  else s

/-- A mark of slot `k` leaves its entry: the remaining count falls by 1 and, when the mark is counted
as a failure, the failed count rises by 1 (R151, R152). Only an ACTIVE slot has marks. -/
def State.markGone (s : State) (failure : Bool) (k : SlotIx) : State :=
  if (s.slot k).state = .active then
    (s.setSlot k { s.slot k with
      remaining := (s.slot k).remaining - 1
      failed := (s.slot k).failed + (if failure then 1 else 0) }).endSlot k
  else s

/-- The marks of a set leave their entry, slot by slot in increasing number. -/
def State.marksGone (s : State) (failure : Bool) (marks : BitVec 4) : State :=
  allSlots.foldl (fun t k => if marks.getLsbD k.val then t.markGone failure k else t) s

/-- Some ACTIVE slot with stamp-last set carries a mark on an entry of drive `d` other than an entry
for the drive's stamp sector: the stamp sector's write-back is held back (R154). -/
def State.stampHeld (s : State) (d : DriveIx) : Bool :=
  allSlots.any fun k =>
    decide ((s.slot k).state = .active) && (s.slot k).stampLast &&
      s.allRefs.any fun x => match s.entry? x with
        | some e => decide (e.addr.drive = d) && e.marks.getLsbD k.val
            && decide (e.addr ≠ stampAddr d)
        | none => false

end Sys2Proof.Machine
end

