-- ==== Sys2Proof/Machine/Pool.lean ====
section
/-! DEFINITION. Requests on the Operation Pool: demand fills, write-backs, the Backlog List, evictions and the hand-out (chapter 4). -/

namespace Sys2Proof.Machine

open Sys2Proof

/-- The volume of drive `d` is ATTACHED. -/
def State.attached (s : State) (d : DriveIx) : Bool := decide ((s.volume d).state = .attached)

/-- The binding of window `w` asks for a read-back after each write. -/
def State.verifyOf (s : State) (w : WinIx) : Bool :=
  match s.binding? w with
  | some b => b.verify
  | none => false

/-! ## The Backlog List (R72) -/

/-- Where an entry of age `age` joins: before the first entry whose age is smaller. -/
def State.backlogInsert (s : State) (x : SectorRef) (age : Nat) : List SectorRef → List SectorRef
  | [] => [x]
  | y :: rest =>
    let older := match s.entry? y with
      | some e => e.age s.clock.coarse
      | none => 0
    if older < age then x :: y :: rest else y :: s.backlogInsert x age rest

/-- An entry joins the Backlog List by its age, and BACKLOG is raised (R69, R72). -/
def State.joinBacklog (s : State) (x : SectorRef) (e : Entry) : State :=
  { s with pool := { s.pool with
      backlog := s.backlogInsert x (e.age s.clock.coarse) s.pool.backlog } }.raise .backlog

/-- An entry leaves the Backlog List (R72). -/
def State.leaveBacklog (s : State) (x : SectorRef) : State :=
  { s with pool := { s.pool with backlog := s.pool.backlog.filter (· ≠ x) } }

/-! ## Write-back requests (R69) -/

/-- The WRITEBACK record for an entry, at its making (R61). -/
def State.writebackRecord (s : State) (x : SectorRef) (e : Entry) (u : Urgency) : Record :=
  { Record.new .writeback u e.addr s.clock.coarse with owner := some x, verify := s.verifyOf x.win }

/-- A write-back is requested for a sector entry (R69). -/
def State.requestWrite (s : State) (x : SectorRef) (u : Urgency) : State :=
  match s.entry? x with
  | none => s
  | some e =>
    match s.opOf x with
    | some r =>
      if u = .urgent then
        s.modRecord r fun q => if q.kind = .writeback then { q with urgency := .urgent } else q
      else s
    | none =>
      if e.state ≠ .dirty ∨ x ∈ s.pool.backlog then s
      else if s.sectorTaken e.addr then s.joinBacklog x e
      else
        match s.freeRecord? with
        | none => s.joinBacklog x e
        | some r => s.makeRecord r (s.writebackRecord x e u)

/-- An entry that has entered DIRTY from another dirty state has its write-back provided for (R51;
R30 for a STAGED window). `retry` says that the change is RETRY. -/
def State.provide (s : State) (x : SectorRef) (retry : Bool) : State :=
  match s.entry? x, s.binding? x.win with
  | some e, some b =>
    if (s.window x.win).isStaged || e.urgent || decide (e.marks ≠ 0) then s.requestWrite x .urgent
    else if retry || !b.gathered then s.requestWrite x .normal
    else s
  | _, _ => s

/-! ## Records for demand fills, stamp reads and formats (R66, R68) -/

/-- The youngest WAITING prefetch, by the order of making (R68). -/
def State.evictable? (s : State) : Option RecIx :=
  s.pool.order.reverse.find? fun r => match s.record? r with
    | some q => decide (q.kind = .prefetch) && decide (q.phase = .waiting)
    | none => false

/-- The evicted record's entry returns to ABSENT, and the record leaves its list; it does not pass
through the hand-out (R68). -/
def State.evict (s : State) (r : RecIx) : State :=
  match (s.record? r).bind (·.owner) with
  | some x => (s.modEntry x Entry.fillCancelled).dropRecord r
  | none => s.dropRecord r

/-- A record is made for a demand fill, a stamp read or a format: from the lowest-numbered free
record, or by eviction; `none` where no record can be had (R66, R68). -/
def State.makeOrEvict (s : State) (q : Record) : Option State :=
  match s.freeRecord? with
  | some r => some (s.makeRecord r q)
  | none =>
    match s.evictable? with
    | some r => some ((s.evict r).makeRecord r q)
    | none => none

/-- A demand fill is requested for an entry found ABSENT (R67, first two cases). -/
def State.requestFill (s : State) (x : SectorRef) (e : Entry) : State :=
  if s.sectorTaken e.addr then s
  else
    match s.makeOrEvict { Record.new .fill .demand e.addr s.clock.coarse with owner := some x } with
    | some t => t.modEntry x Entry.queued
    | none => s

/-- A demand fill is requested for an entry found QUEUED or FILLING: a PREFETCH record becomes a FILL
of class DEMAND, and a FILL record stays as it is (R67, last two cases). -/
def State.raiseFill (s : State) (x : SectorRef) : State :=
  match s.opOf x with
  | some r => s.modRecord r fun q =>
      if q.kind = .prefetch then { q with kind := .fill, urgency := .demand } else q
  | none => s

/-- The STAMP-READ record of drive `d`, at its making (R70). -/
def State.stampRecord (s : State) (d : DriveIx) : Record :=
  Record.new .stampRead .urgent (stampAddr d) s.clock.coarse

/-- A stamp read is requested for drive `d`: a record is made, made by eviction, or the drive
becomes a stamp wait (R70). -/
def State.requestStamp (s : State) (d : DriveIx) : State :=
  match s.makeOrEvict (s.stampRecord d) with
  | some t => t
  | none =>
    if d ∈ s.pool.stampWaits then s
    else { s with pool := { s.pool with stampWaits := s.pool.stampWaits ++ [d] } }

/-- The FORMAT record for a command's parameters, at its making (R71). -/
def State.formatRecord (s : State) (d : DriveIx) (p : FormatParams) : Record :=
  { Record.new .format .urgent
      { drive := d, cylinder := p.cylinder.toNat, side := p.side.toNat, sector := 0 } s.clock.coarse
    with sector := none, format := some p }

/-! ## The hand-out (R73) -/

/-- The entry nearest the head of the Backlog List whose disk sector has no record. -/
def State.handOutEntry? (s : State) : Option SectorRef :=
  s.pool.backlog.find? fun x => match s.entry? x with
    | some e => !s.sectorTaken e.addr
    | none => false

/-- Record `r`, just freed, is handed on: to the longest stamp wait, then to the Backlog List, or it
becomes free (R73). -/
def State.handOut (s : State) (r : RecIx) : State :=
  match s.pool.stampWaits with
  | d :: rest =>
    { s with pool := { s.pool with stampWaits := rest } }.makeRecord r (s.stampRecord d)
  | [] =>
    match s.handOutEntry? with
    | none => s
    | some x =>
      match s.entry? x with
      | none => s
      | some e => (s.leaveBacklog x).makeRecord r (s.writebackRecord x e .urgent)

/-! ## Read-ahead (R74) -/

/-- The PREFETCH record for an entry, at its making. -/
def State.prefetchRecord (s : State) (x : SectorRef) (e : Entry) : Record :=
  { Record.new .prefetch .background e.addr s.clock.coarse with owner := some x }

/-- Read-ahead over `n` indices of window `w` from index `j` (R74). -/
def State.readAhead (s : State) (w : WinIx) : Nat → Nat → State
  | 0, _ => s
  | n + 1, j =>
    match s.window w with
    | .bound b es =>
      if b.fresh || !s.attached b.drive then s
      else
        match es[j]? with
        | none => s
        | some e =>
          if e.state ≠ .absent ∨ s.sectorTaken e.addr then s.readAhead w n (j + 1)
          else if s.pool.backlog ≠ [] ∨ s.pool.stampWaits ≠ [] ∨ s.freeCount < 9 then s
          else
            match s.freeRecord? with
            | none => s
            | some r =>
              ((s.makeRecord r (s.prefetchRecord ⟨w, j⟩ e)).modEntry ⟨w, j⟩ Entry.queued).readAhead
                w n (j + 1)
    | _ => s

end Sys2Proof.Machine
end

