-- ==== Sys2Proof/Machine/Bursts.lean ====
section
/-! DEFINITION. The burst unit: places, requests, withdrawals, and the words of a burst (chapter 6.3, 6.4). -/

namespace Sys2Proof.Machine

open Sys2Proof

/-- The address of a sector image: the memory base of the window's current binding plus 256 times the
sector index (R114). -/
def State.imageBase (s : State) (x : SectorRef) : Nat :=
  match s.binding? x.win with
  | some b => b.base + 256 * x.idx
  | none => 256 * x.idx

/-- Drive `d`'s place in the burst unit is held (R113). -/
def State.placeHeld (s : State) (d : DriveIx) : Bool :=
  s.bursts.queue.any (fun u => decide (u.drive = d)) ||
    (match s.bursts.running with
     | some u => decide (u.drive = d)
     | none => false)

/-- A delivery or copy-out of drive `d` is pending behind the drive's place (R11, R113). -/
def State.pendingBehind (s : State) (d : DriveIx) : Bool :=
  s.bursts.behind.any fun q => decide (q.drive = d)

/-- When no burst is running, the burst at the head of the queue starts (R113). -/
def State.startNext (s : State) : State :=
  match s.bursts.running, s.bursts.queue with
  | none, u :: rest => { s with bursts := { s.bursts with running := some u, queue := rest } }
  | _, _ => s

/-- A burst joins the tail of the request queue. -/
def State.joinQueue (s : State) (u : Burst) : State :=
  { s with bursts := { s.bursts with queue := s.bursts.queue ++ [u] } }

/-- The burst that a request makes: it takes the address of its sector image now (R114). -/
def State.burstOf? (s : State) (q : BurstRequest) : Option Burst :=
  match s.record? q.record with
  | none => none
  | some c =>
    match c.owner with
    | none => none
    | some x => some { kind := q.kind, drive := q.drive, base := s.imageBase x,
                       record := some q.record, served := none, buffer := c.buffer,
                       damaged := q.damaged, words := 0, fill := 0 }

/-- A delivery or copy-out is requested: it takes its drive's place, or is kept pending behind it
(R113). -/
def State.requestBurst (s : State) (q : BurstRequest) : State :=
  if s.placeHeld q.drive || s.pendingBehind q.drive then
    { s with bursts := { s.bursts with behind := s.bursts.behind ++ [q] } }
  else
    match s.burstOf? q with
    | some u => (s.joinQueue u).startNext
    | none => s

/-- Drive `d`'s place has become empty: the first request pending behind it is made (R113). -/
def State.placeFreed (s : State) (d : DriveIx) : State :=
  match s.bursts.behind.find? fun q => decide (q.drive = d) with
  | none => s
  | some q =>
    let t := { s with bursts := { s.bursts with behind := s.bursts.behind.erase q } }
    match t.burstOf? q with
    | some u => t.joinQueue u
    | none => t

/-- The running burst has ended or stopped: its drive's place becomes empty, a request pending
behind it takes the place, and the head of the queue starts (R113, R117). A burst that is stopped before
it has taken the turn it was owed leaves no debt to the one that starts, so that a second cycle can come
before that one's first word (DESIGN CHOICE, log 25). -/
def State.endRunning (s : State) : State :=
  match s.bursts.running with
  | none => s
  | some u =>
    ({ s with bursts := { s.bursts with running := none, owed := false } }.placeFreed u.drive).startNext

/-- The waiting bursts that satisfy `p` are withdrawn; their drives' places become empty, and the
bursts behind them keep their order (R116). -/
def State.withdraw (s : State) (p : Burst → Bool) : State :=
  let gone := s.bursts.queue.filter p
  (gone.foldl (fun (t : State) u => t.placeFreed u.drive)
    { s with bursts := { s.bursts with queue := s.bursts.queue.filter fun u => !p u } }).startNext

/-- The bursts of record `r` that have not started are withdrawn, those pending behind a place
among them (R116). -/
def State.withdrawRecord (s : State) (r : RecIx) : State :=
  { s with bursts := { s.bursts with
      behind := s.bursts.behind.filter fun q => decide (q.record ≠ r) } }.withdraw
    fun u => decide (u.record = some r)

/-- A running copy-out of record `r` stops at its current word (R117). One that runs on without its record
after a ready-line fall is no record's and does not stop (DESIGN CHOICE, log 15). -/
def State.stopCopyOut (s : State) (r : RecIx) : State :=
  match s.bursts.running with
  | some u => if u.kind = .copyOut ∧ u.record = some r then s.endRunning else s
  | none => s

/-- The copy-out of record `r` has taken its first word (R115). -/
def State.copyStarted (s : State) (r : RecIx) : Bool :=
  (match s.record? r with
   | some q => q.copied
   | none => false) ||
  (match s.bursts.running with
   | some u => decide (u.kind = .copyOut) && decide (u.record = some r) && decide (0 < u.words)
   | none => false)

/-- A delivery of record `r` is running. -/
def State.deliveryRunning (s : State) (r : RecIx) : Bool :=
  match s.bursts.running with
  | some u => decide (u.kind = .delivery) && decide (u.record = some r)
  | none => false

/-- The word of a buffer at word index `i`, its first byte the high one. -/
def bufferWord (b : List Byte) (i : Nat) : BitVec 16 := b.getD (2 * i) 0 ++ b.getD (2 * i + 1) 0

/-- A word goes into a buffer at word index `i`. -/
def setBufferWord (b : List Byte) (i : Nat) (v : BitVec 16) : List Byte :=
  (b.set (2 * i) (v.extractLsb' 8 8)).set (2 * i + 1) (v.extractLsb' 0 8)

/-- The memory side of one word of a burst (R114): a delivery writes a word of its buffer into the
image, a copy-out reads a word of the image into its buffer, a blank fill writes two copies of its
byte. -/
def State.moveWord (s : State) (u : Burst) : State :=
  let a := u.base + 2 * u.words
  match u.kind, u.buffer with
  | .delivery, some b => s.writeWord a (bufferWord (s.buffer b) u.words)
  | .copyOut, some b => s.setBuffer b (setBufferWord (s.buffer b) u.words (s.readWord a))
  | .blankFill, _ => s.writeWord a (u.fill ++ u.fill)
  | _, none => s

end Sys2Proof.Machine
end

