-- ==== Sys2Proof/Machine/Channel.lean ====
section
/-! DEFINITION. Seeks, the lending of buffers, the freeing of records and the disk channel (chapters 5.3, 5.6, 6.1, 6.2). -/

namespace Sys2Proof.Machine

open Sys2Proof

/-! ## Seeks (R87, R90) -/

/-- The step time of a drive in ticks (R78). -/
def Engine.stepTime (e : Engine) : Nat := e.stepMs * 100

/-- A seek to a track side begins with the step time in force and the side-select line set (R87). On
the target cylinder no step and no settle are made, and unloaded heads begin to load at once (R90);
otherwise the direction line is set, and the first step comes one step time later, as the seek time of
R78 counts it; R87 gives it no moment (DESIGN CHOICE, log 36). -/
def Engine.beginSeek (target side : Nat) (e : Engine) : Engine :=
  if e.cyl = some target then
    { e with motion := .seeking, target := target, side := side, stepTicks := e.stepTime,
             wait := if e.loaded then 0 else 3500, loaded := true }
  else
    { e with motion := .seeking, target := target, side := side, stepTicks := e.stepTime,
             inward := e.cyl.any fun c => decide (c < target), wait := e.stepTime }

/-- The heads are in place: the seek has reached its target and every settle has elapsed. -/
def Engine.inPlace (e : Engine) : Bool :=
  decide (e.motion = .seeking) && decide (e.cyl = some e.target) && decide (e.wait = 0)

/-- A recalibration begins (R86): a step outward each step time, the first one step time after the
beginning (DESIGN CHOICE, log 36), or the settle at once when the track-0 line is active. -/
def Engine.beginRecal (e : Engine) : Engine :=
  { e with motion := .recal, inward := false, stepTicks := e.stepTime, recalSteps := 0,
           wait := if e.track0 then 1500 else e.stepTime, idle := 0 }

/-- A search begins: no index pulse and no bad ID seen (R93). -/
def Engine.beginSearch (e : Engine) : Engine :=
  { e with state := .searching, motion := .still, searchPulses := 0, badId := false, idFound := false }

/-- The engine of drive `d` enters POSITIONING for record `r` (R91, R92). -/
def State.startPositioning (s : State) (d : DriveIx) (r : RecIx) : State :=
  match s.record? r with
  | some q => s.modEngine d fun e => { e.beginSeek q.cylinder q.side with state := .positioning }
  | none => s

/-! ## Buffers (R91, R109) -/

/-- Buffer `b` is given to record `r`, the current record of drive `d`: a fill's entry becomes
FILLING, a write-back's copy-out is requested, and the engine enters POSITIONING (R91). -/
def State.giveBuffer (s : State) (d : DriveIx) (r : RecIx) (b : BufIx) : State :=
  match s.record? r with
  | none => s
  | some q =>
    let t := s.modRecord r fun q => { q with buffer := some b, copied := false }
    let t := match q.kind, q.owner with
      | .fill, some x => t.modEntry x Entry.fillBegins
      | .prefetch, some x => t.modEntry x Entry.fillBegins
      | .writeback, _ => t.requestBurst { kind := .copyOut, drive := d, record := r, damaged := false }
      | _, _ => t
    t.startPositioning d r

/-- A free buffer is given to the record of the engine that has waited longest (R109). -/
def State.handBuffer (s : State) (b : BufIx) : State :=
  if s.bufferFree b then
    match s.bufWait with
    | [] => s
    | d :: rest =>
      let t := { s with bufWait := rest }
      match (s.engine d).state, (s.engine d).current with
      | .waitBuffer, some r => t.giveBuffer d r b
      | _, _ => t
  else s

/-- Each buffer that has come free is handed on, in increasing buffer number (R109). -/
def State.handBuffers (s : State) : State := allBuffers.foldl State.handBuffer s

/-- Record `r` is freed and passes through the hand-out (R73). -/
def State.releaseRecord (s : State) (r : RecIx) : State := (s.dropRecord r).handOut r

/-- Record `r` is freed and handed on, and its buffer is handed on (R73, R109). -/
def State.freeRecord (s : State) (r : RecIx) : State := (s.releaseRecord r).handBuffers

/-! ## The disk channel (R111, R112) -/

/-- The channel is granted to drive `d`: its record enters IN-ENGINE and its disk work begins, the
search or, for a FORMAT, the wait for the index (R92, R111). -/
def State.grant (s : State) (d : DriveIx) : State :=
  let t := { s with chan := { s.chan with owner := some d } }
  match (s.engine d).state, (s.engine d).current with
  | .waitChannel, some r =>
    let t := t.modRecord r fun q => { q with phase := .inEngine }
    t.modEngine d fun e =>
      { e.beginSearch with
        state := if ((s.record? r).map (·.kind)) = some .format then .formatting else .searching
        formatOn := false }
  | _, _ => t

/-- The engine of drive `d` requests the channel at the end of its positioning (R111). -/
def State.requestChannel (s : State) (d : DriveIx) : State :=
  let t := s.modEngine d fun e => { e with state := .waitChannel, motion := .still }
  if s.chan.owner = none ∧ s.chan.queue = [] then t.grant d
  else { t with chan := { t.chan with queue := t.chan.queue ++ [d] } }

/-- Drive `d` releases the channel, which goes to the head of the queue, or leaves the queue
(R111, R112). -/
def State.leaveChannel (s : State) (d : DriveIx) : State :=
  if s.chan.owner = some d then
    match s.chan.queue with
    | [] => { s with chan := { s.chan with owner := none } }
    | x :: rest => { s with chan := { owner := none, queue := rest } }.grant x
  else { s with chan := { s.chan with queue := s.chan.queue.filter (· ≠ d) } }

end Sys2Proof.Machine
end

