-- ==== Sys2Proof/Machine/Recording.lean ====
section
/-! DEFINITION. The recording format: the check code, ID and data fields, interleave, the stamp, a formatted track side (chapter 7). -/

namespace Sys2Proof.Machine

open Sys2Proof

/-- `strictly r k` is `k r`; it makes Lean's kernel compute `r` before it goes on. -/
def strictly {α : Type} (r : BitVec 16) (k : BitVec 16 → α) : α :=
  match r.toNat with
  | 0 => k 0
  | n + 1 => k (BitVec.ofNat 16 (n + 1))

/-- One bit enters the check register: steps 3 and 4 of R122. -/
def crcBit (r : BitVec 16) (b : Bool) : BitVec 16 :=
  if r.msb ^^ b then (r <<< 1) ^^^ 0x1021 else r <<< 1

/-- One byte enters the check register, its most significant bit first: step 2 of R122. -/
def crcByte (r : BitVec 16) (b : Byte) : BitVec 16 :=
  [7, 6, 5, 4, 3, 2, 1, 0].foldl (fun r i => crcBit r (b.getLsbD i)) r

/-- The check register after the bytes of a list, from register value `r`. -/
def crcFrom : List Byte → BitVec 16 → BitVec 16
  | [], r => r
  | b :: rest, r => strictly (crcByte r b) (crcFrom rest)

/-- The CRC of a field: the register is preset to FFFFh (R122). -/
def crc (bytes : List Byte) : BitVec 16 := crcFrom bytes 0xFFFF

/-- The CRC as it is recorded: high byte first (R122). -/
def crcBytes (c : BitVec 16) : List Byte := [c.extractLsb' 8 8, c.extractLsb' 0 8]

/-- A field is good when the same computation over its bytes and its recorded CRC leaves 0000h
(R122). -/
def fieldGood (bytes : List Byte) (recorded : BitVec 16) : Bool :=
  decide (crc (bytes ++ crcBytes recorded) = 0)

/-- The ID mark (R120) and the data mark (R121). -/
def idMark : Byte := 0xC6
def dataMark : Byte := 0xC9

/-- The bytes that an ID field's CRC covers (R122). -/
def idCovered (f : IdField) : List Byte :=
  [idMark, f.cylinder, f.side, f.sector, f.size, f.flags]

/-- The CRC of an ID field checks. -/
def idGood (f : IdField) : Bool := fieldGood (idCovered f) (f.crcHigh ++ f.crcLow)

/-- The ID field names the target sector, with size code 1 (R93). -/
def idNamesTarget (f : IdField) (cylinder side sector : Nat) : Bool :=
  decide (f.cylinder.toNat = cylinder) && decide (f.side.toNat = side)
    && decide (f.sector.toNat = sector) && decide (f.size = 1)

/-- The defective flag, the lowest bit of the flags byte (R120). -/
def idDefective (f : IdField) : Bool := f.flags.getLsbD 0

/-- The data field of 256 bytes checks (R122). -/
def dataGood (data : List Byte) (recorded : BitVec 16) : Bool := fieldGood (dataMark :: data) recorded

/-- The data field that is recorded for 256 bytes (R121): mark, bytes, CRC. The mark stands as its byte,
without its clock pattern (DESIGN CHOICE, log 38). -/
def dataField (data : List Byte) : List Byte := dataMark :: data ++ crcBytes (crc (dataMark :: data))

/-- What a write-back lays down from the raising of its gate to the dropping (R121): the sync run,
the data field and one byte of filler, 272 bytes for 256 bytes of data. -/
def writtenField (data : List Byte) : List Byte := List.replicate 12 0x00 ++ dataField data ++ [0x3C]

/-- The ID field that FORMAT records (R120, R127). The mark stands as its byte, without its clock pattern
(DESIGN CHOICE, log 38). -/
def idFieldBytes (cylinder side sector : Nat) (defective : Bool) : List Byte :=
  let bytes := [idMark, byteOf cylinder, byteOf side, byteOf sector, 0x01, flagByte defective]
  bytes ++ crcBytes (crc bytes)

/-- The physical slot of a logical sector on a track side of interleave `k` (R79, R123). -/
def slotOfSector (k s : Nat) : Nat := s * k % 16

/-- The logical sector in physical slot `j` of a track side of interleave `k` (R123). -/
def sectorOfSlot (k j : Nat) : Nat := ((List.range 16).find? fun s => slotOfSector k s == j).getD 0

/-- The first eleven bytes of the stamp that a FORMAT of cylinder 0, side 0 writes (R124, R127). -/
def stampBytes (p : FormatParams) : List Byte :=
  [0x4B, 0x50, 0x01, p.flags] ++ bytes4 p.volumeId.toNat ++ [p.interleave, p.sides, p.lastCyl]

/-- FORMAT's parameters name cylinder 0, side 0. -/
def isStampTrack (p : FormatParams) : Bool :=
  decide (p.cylinder.toNat = 0) && decide (p.side.toNat = 0)

/-- The 256 bytes FORMAT writes in physical slot `j` (R127). -/
def formatData (p : FormatParams) (j : Nat) : List Byte :=
  if isStampTrack p && j == 0 then stampBytes p ++ List.replicate 245 p.fill
  else List.replicate 256 p.fill

/-- The filler of gaps (R119, R121). -/
def fillerByte : Byte := 0x3C

/-- The time of one byte on the disk in fifths of a tick: 1.6 ticks (chapter 7). -/
def byteTime : Nat := 8

/-- The place where slot `j` begins with slot time `S` ticks, in fifths of a tick after the index pulse:
`j` slot times and the index gap of 64 byte times (R119). -/
def slotPlace (S j : Nat) : Nat := 5 * (j * S) + 64 * byteTime

/-- Physical slot `j` as FORMAT lays it down with slot time `S` (R119, R127): sync run, ID field,
ID gap, sync run, data field, 315 bytes; then filler up to the next slot, or after slot 15 up to the
index pulse. -/
def formatSlotOf (p : FormatParams) (S j : Nat) : TrackSlot :=
  { start := slotPlace S j
    filler := fillerByte
    gapEnd := if j = 15 then none else some (slotPlace S (j + 1))
    bytes := List.replicate 12 0x00
      ++ idFieldBytes p.cylinder.toNat p.side.toNat (sectorOfSlot p.interleave.toNat j)
          ((p.descriptors.getD j 0).getLsbD 0)
      ++ List.replicate 24 fillerByte ++ List.replicate 12 0x00 ++ dataField (formatData p j) }

/-- The track side a FORMAT lays down: the index gap, whose content is a free value (log 34), and the
sixteen slots (R127). -/
def formatTrack (p : FormatParams) (S : Nat) : TrackSide :=
  { indexGap := (List.range 64).map Config.indexGapByte
    slots := (List.range 16).map (formatSlotOf p S) }

/-- The stamp that the bytes of a stamp sector hold, where every check of R124 passes. -/
def stampOf? (data : List Byte) : Option Stamp :=
  match data with
  | b0 :: b1 :: b2 :: b3 :: b4 :: b5 :: b6 :: b7 :: b8 :: b9 :: b10 :: _ =>
    let id : BitVec 32 := b4 ++ b5 ++ b6 ++ b7
    if b0 = 0x4B ∧ b1 = 0x50 ∧ b2 = 1 ∧ id ≠ 0 ∧ (b8 = 1 ∨ b8 = 3 ∨ b8 = 5 ∨ b8 = 7)
        ∧ (b9 = 1 ∨ b9 = 2) ∧ b10.toNat ≤ 76
    then some { volumeId := id, interleave := b8, sides := b9, flags := b3, lastCyl := b10 }
    else none
  | _ => none

end Sys2Proof.Machine
end

