-- ==== Sys2Proof/Machine/Volumes.lean ====
section
/-! DEFINITION. The Volume Tracker: attaching, the bound volume id, stamp verdicts (chapters 2.6 and 8). -/

namespace Sys2Proof.Machine

open Sys2Proof

/-- One entry of an attaching drive (R58): STRANDED becomes DIRTY with its write-back provided for,
and at ADOPT a CLEAN entry becomes ABSENT. -/
def State.reviveEntry (adopt : Bool) (s : State) (x : SectorRef) : State :=
  match s.entry? x with
  | none => s
  | some e =>
    match e.state with
    | .stranded => (s.modEntry x Entry.revive).provide x false
    | .clean => if adopt then s.modEntry x Entry.adopted else s
    | _ => s

/-- Drive `d` becomes ATTACHED (R135): the write-protect line is sampled, the bound id is taken where
it is unset and a current binding names the drive, and the drive's entries change by R58. -/
def State.attach (s : State) (d : DriveIx) (adopt : Bool) : State :=
  let t := s.modVolume d fun v =>
    { v with
      state := .attached
      protect := (s.engine d).protect
      boundId := if v.boundId = none ∧ s.windowsOfDrive d ≠ [] then v.present.map (·.volumeId)
                 else v.boundId }
  (t.refsOfDrive d).foldl (State.reviveEntry adopt) t

/-- A binding has become current on drive `d`: an ATTACHED drive with no bound id takes the present
one (R27, first case). -/
def State.takeBoundId (s : State) (d : DriveIx) : State :=
  s.modVolume d fun v =>
    if v.state = .attached ∧ v.boundId = none then { v with boundId := v.present.map (·.volumeId) }
    else v

/-- A binding on drive `d` is no longer current: with none left the bound id is cleared, and a
MISMATCH drive becomes ATTACHED and raises VOLUME-ARRIVED (R27, second case). -/
def State.dropBoundId (s : State) (d : DriveIx) : State :=
  if s.windowsOfDrive d = [] then
    let t := s.modVolume d fun v => { v with boundId := none }
    if (s.volume d).state = .mismatch then (t.attach d false).raise .volumeArrived else t
  else s

/-- The verdict on a stamp that was not read, or is not valid (R134): the drive is UNKNOWN. -/
def State.stampUnknown (s : State) (d : DriveIx) (outcome : StampOutcome) : State :=
  (s.modVolume d fun v => { v with state := .unknown, outcome := outcome, present := none }).raise
    .volumeUnknown

/-- The tracker's verdict on drive `d`'s stamp read: the bytes read, or `none` for unreadable (R134). -/
def State.stampVerdict (s : State) (d : DriveIx) (bytes : Option (List Byte)) : State :=
  match bytes with
  | none => s.stampUnknown d .unreadable
  | some data =>
    match stampOf? data with
    | none => s.stampUnknown d .invalid
    | some p =>
      let t := s.modVolume d fun v => { v with outcome := .valid, present := some p }
      if (s.volume d).boundId = none ∨ (s.volume d).boundId = some p.volumeId then
        (t.attach d false).raise .volumeArrived
      else (t.modVolume d fun v => { v with state := .mismatch }).raise .volumeMismatch

end Sys2Proof.Machine
end

