-- ==== Sys2Proof/Machine/Engines.lean ====
section
/-! DEFINITION. What drive engines do with an operation: returning, failing and completing it, and stopping for a hold (chapter 5). -/

namespace Sys2Proof.Machine

open Sys2Proof

/-- The last-fault record is filled whole (R105). `q` is the operation, if there is one. -/
def State.noteFault (s : State) (d : DriveIx) (fault : Cause) (outcome : FaultOutcome)
    (q : Option Record) : State :=
  s.modEngine d fun e =>
    { e with
      lastFault := some
        { fault := fault, outcome := outcome, kind := q.map (·.kind), cylinder := q.map (·.cylinder),
          side := q.map (·.side), sector := q.bind (·.sector), attempts := q.map (·.attempts),
          ref := q.bind (·.owner), time := s.clock.coarse } }

/-- The engine of drive `d` has no operation any more: the gate is dropped, nothing moves, and it is
in the state its hold set gives (R83). -/
def State.endOperation (s : State) (d : DriveIx) : State :=
  s.modEngine d fun e =>
    { e with current := none, gate := false, motion := .still, formatOn := false, idFound := false,
             state := e.restState }

/-! ## Return to WAITING (R45, R54, R102) -/

/-- The entry of a record that is returned to WAITING: a fill's becomes QUEUED (R45), a
write-back's DIRTY with its kept record raised where R51 calls for it (R54). -/
def State.returnEntry (s : State) (q : Record) : State :=
  match q.kind, q.owner with
  | .writeback, some x => (s.modEntry x Entry.writeReturns).provide x false
  | .fill, some x => s.modEntry x Entry.fillReturns
  | .prefetch, some x => s.modEntry x Entry.fillReturns
  | _, _ => s

/-- The current record of drive `d` is returned to WAITING (R102, R103, R89, R94): motion stops after
the step in progress, the channel or its queue and the buffer wait list are left, a waiting
copy-out is withdrawn and a running one stops, the buffer is freed, and the miss count becomes 0.
A detached record is freed instead (R104). -/
def State.returnRecord (s : State) (d : DriveIx) : State :=
  match (s.engine d).current with
  | none => s
  | some r =>
    match s.record? r with
    | none => s
    | some q =>
      let t := { s.endOperation d with bufWait := s.bufWait.filter (· ≠ d) }
      let t := ((t.leaveChannel d).withdrawRecord r).stopCopyOut r
      if q.detached then t.freeRecord r
      else
        let t := t.modRecord r fun q =>
          { q with phase := .waiting, misses := 0, buffer := none, copied := false }
        (t.returnEntry q).handBuffers

/-! ## Holds (R102) -/

/-- A LINK or FAULT hold that has just been set acts on the engine by its state (R102): an idle
engine stops, preparing work is returned to the pool, and disk work or a recalibration goes on. A copy-out
that runs on without its record after a ready-line fall (R85, R137) completes its words under a hold too,
although the hold row of R117 stops a running copy-out (DESIGN CHOICE, log 15). -/
def State.stopForHold (s : State) (d : DriveIx) : State :=
  match (s.engine d).state with
  | .idle | .held => s.modEngine d fun e => { e with state := e.restState }
  | .waitBuffer | .positioning | .waitChannel => s.returnRecord d
  | _ => s

/-- A halting fault sets FAULT and raises DRIVE-HALTED, whether or not FAULT was set (R84). -/
def State.haltFault (s : State) (d : DriveIx) : State :=
  ((s.modEngine d fun e => { e with fault := true }).raise .driveHalted).stopForHold d

/-- A SPEED-FAULT of drive `d`: the event, the last-fault record, the return of any operation, and FAULT
(R89). -/
def State.speedFails (s : State) (d : DriveIx) : State :=
  let q := (s.engine d).current.bind s.record?
  ((((s.raise .speedFault).noteFault d .speedFault .driveFault q).returnRecord d).haltFault d)

/-- A recalibration of an engine without an operation begins (R86). -/
def State.startRecal (s : State) (d : DriveIx) : State :=
  s.modEngine d fun e => { e.beginRecal with state := .recalibrating }

/-- The hold set may have become empty (R84): a stopped engine recalibrates if its cylinder is
unknown and is IDLE otherwise. -/
def State.resume (s : State) (d : DriveIx) : State :=
  let e := s.engine d
  if e.unheld && (decide (e.state = .held) || decide (e.state = .notReady)) then
    if e.cyl = none then s.startRecal d else s.modEngine d fun e => { e with state := .idle }
  else s

/-! ## Failures -/

/-- The entry becomes UNWRITTEN: redirty-since is dropped, and each secure mark is removed and
counted as a failure of its slot (R55). -/
def State.entryUnwritten (s : State) (x : SectorRef) (cause : Cause) : State :=
  match s.entry? x with
  | none => s
  | some e =>
    if e.state.inWriteback then (s.modEntry x (Entry.writeFailed cause)).marksGone true e.marks else s

/-- The causes whose failure spends a write-back's attempts (R100). -/
def Cause.spendsAttempts : Cause → Bool
  | .idCrc | .notFound | .verify => true
  | .dataCrc | .defective | .writeFault | .protect | .noSide | .seekFault | .speedFault => false

/-- A write-back ends as a failure (R55, R91, R98, R100). The write-fault line sets FAULT under either
policy, spent attempts under HALT, the other causes never. A detached write-back reports nothing
of its own failure (R104). -/
def State.writeFails (s : State) (d : DriveIx) (r : RecIx) (cause : Cause) : State :=
  match s.record? r with
  | none => s
  | some q =>
    let t := match q.owner with
      | some x => ((s.entryUnwritten x cause).noteFault d cause .unwritten (some q)).raise
          (if cause = Cause.protect then Event.protect else Event.writeFailed)
      | none => s
    let t := ((t.endOperation d).leaveChannel d).freeRecord r
    if cause = .writeFault ∨ ((s.engine d).halt ∧ cause.spendsAttempts) then t.haltFault d else t

/-- A fill or prefetch ends as a failure (R48, R97): the cause is DATA-CRC whenever a data field was
read; under DELIVER such data is delivered damaged, and in every other case the entry becomes
FAILED. A detached one reports nothing (R35, R104). -/
def State.fillFails (s : State) (d : DriveIx) (r : RecIx) (cause : Cause) : State :=
  match s.record? r with
  | none => s
  | some q =>
    let held := (s.engine d).dataHeld
    let cause := if held then .dataCrc else cause
    match q.owner with
    | none => ((s.endOperation d).leaveChannel d).freeRecord r
    | some x =>
      let deliver := match s.binding? x.win with
        | some b => b.deliver
        | none => false
      if held && deliver then
        ((((s.noteFault d cause .damagedDelivered (some q)).endOperation d).leaveChannel d).requestBurst
          { kind := .delivery, drive := d, record := r, damaged := true }).raise .damagedDelivered
      else
        let t := s.modEntry x (Entry.fillFailed cause)
        ((((t.noteFault d cause .failed (some q)).endOperation d).leaveChannel d).freeRecord r).raise
          .fillFailed

/-- A stamp read ends as a failure: the tracker is handed a result of unreadable (R97, R136). -/
def State.stampFails (s : State) (d : DriveIx) (r : RecIx) (cause : Cause) : State :=
  ((((s.noteFault d cause .stampUnreadable (s.record? r)).endOperation d).leaveChannel d).freeRecord
    r).stampVerdict d none

/-- An operation ends as a failure, by its kind. A FORMAT has failures of its own (R129). -/
def State.operationFails (s : State) (d : DriveIx) (r : RecIx) (cause : Cause) : State :=
  match s.record? r with
  | none => s
  | some q =>
    match q.kind with
    | .fill | .prefetch => s.fillFails d r cause
    | .stampRead => s.stampFails d r cause
    | .writeback => s.writeFails d r cause
    | .format => s

/-- The attempts of record `r` reach the drive's retry count (R95). -/
def State.attemptsSpent (s : State) (d : DriveIx) (r : RecIx) : Bool :=
  match s.record? r with
  | some q => decide ((s.engine d).retries ≤ q.attempts)
  | none => false

/-- A failed attempt is counted; with the attempts spent the operation ends as a failure with the
cause of this attempt, and otherwise the engine searches again (R95). -/
def State.attemptFails (s : State) (d : DriveIx) (r : RecIx) (cause : Cause) : State :=
  let t := s.modRecord r fun q => { q with attempts := q.attempts + 1 }
  if t.attemptsSpent d r then t.operationFails d r cause
  else t.modEngine d fun e => { e.beginSearch with gate := false }

/-! ## Completion of a write-back (R52, R53, R101) -/

/-- The volume has been written at the address of `q`: the flag is cleared when that is the stamp
sector and set otherwise (R101, R142). -/
def State.noteWritten (s : State) (d : DriveIx) (q : Record) : State :=
  s.modVolume d fun v => { v with changed := !q.names (stampAddr d) }

/-- The write-back of record `r` on drive `d` completes (R101). -/
def State.writeCompletes (s : State) (d : DriveIx) (r : RecIx) : State :=
  match s.record? r with
  | none => s
  | some q =>
    let t := ((s.endOperation d).leaveChannel d).noteWritten d q
    match q.owner with
    | none => t.freeRecord r
    | some x =>
      match s.entry? x with
      | none => t.freeRecord r
      | some e =>
        let t := ((t.modEntry x Entry.written).freeRecord r).marksGone false e.clearedMarks
        if e.state = .redirty then t.provide x false else t

/-! ## Formats (R128, R129) -/

/-- The last-format record is filled whole (R130). -/
def State.noteFormat (s : State) (d : DriveIx) (cause : Option FormatCause) (q : Record) : State :=
  s.modVolume d fun v =>
    { v with
      lastFormat := some
        { cause := cause, cylinder := q.cylinder, side := q.side,
          interleave := (q.format.map (·.interleave)).getD 0, time := s.clock.coarse } }

/-- A format fails on the drive (R129). -/
def State.formatFails (s : State) (d : DriveIx) (r : RecIx) (cause : FormatCause) : State :=
  match s.record? r with
  | none => s
  | some q =>
    let t := (((s.noteFormat d (some cause) q).raise .formatFailed).endOperation d).leaveChannel d
    let t := t.freeRecord r
    if cause = .writeFault then t.haltFault d else t

/-- A format of cylinder 0, side 0 has completed: its stamp values become the drive's present values,
a stamp wait is ended, and the drive attaches without VOLUME-ARRIVED (R141). -/
def State.adoptFormat (s : State) (d : DriveIx) (p : FormatParams) : State :=
  let t := s.modVolume d fun v =>
    { v with
      outcome := .valid
      changed := false
      present := some { volumeId := p.volumeId, interleave := p.interleave, sides := p.sides,
                        flags := p.flags, lastCyl := p.lastCyl } }
  { t with pool := { t.pool with stampWaits := t.pool.stampWaits.filter (· ≠ d) } }.attach d false

/-- The format of record `r` completes at the index that drops the gate (R128). -/
def State.formatCompletes (s : State) (d : DriveIx) (r : RecIx) : State :=
  match s.record? r with
  | none => s
  | some q =>
    match q.format with
    | none => s
    | some p =>
      let t := { s with diskOut := some (.track d q.cylinder q.side
        (formatTrack p (s.engine d).formatSlot)) }
      let t := (t.endOperation d).leaveChannel d
      let t := if isStampTrack p then t.adoptFormat d p
               else t.modVolume d fun v => { v with changed := true }
      ((t.freeRecord r).raise .formatDone).noteFormat d none q

end Sys2Proof.Machine
end

