-- ==== Sys2Proof/Machine/Scheduler.lean ====
section
/-! DEFINITION. The Scheduler: cost, eligibility, the choice, and the first checks of a chosen record (chapters 4.8 to 4.10, 5.6). -/

namespace Sys2Proof.Machine

open Sys2Proof

/-! ## Cost (R77 to R80) -/

/-- The slot time S (R77). -/
def Engine.slotTime (e : Engine) : Nat := e.period / 16

/-- The time since the last index capture, 0 when none has been made (R77). -/
def Engine.sinceIndex (e : Engine) (now : Tick) : Nat :=
  match e.newer with
  | some t => since now t
  | none => 0

/-- The current slot c (R77). -/
def Engine.currentSlot (e : Engine) (now : Tick) : Nat := min 15 (e.sinceIndex now / e.slotTime)

/-- The seek time of a record whose target cylinder is `target` (R78). -/
def Engine.seekTime (e : Engine) (target : Nat) : Nat :=
  (match e.cyl with
   | some c => if c = target then 0 else ((c - target) + (target - c)) * e.stepTime + 1500
   | none => 0)
  + (if e.loaded then 0 else 3500)

/-- A quotient rounded up. -/
def ceilDiv (n d : Nat) : Nat := (n + d - 1) / d

/-- The arrival slot a (R79). -/
def Engine.arrivalSlot (e : Engine) (now : Tick) (target : Nat) : Nat :=
  (e.currentSlot now + 1 + ceilDiv (e.seekTime target) e.slotTime) % 16

/-- The interleave of the volume in a drive (R79, R124). -/
def Volume.interleave (v : Volume) : Nat :=
  match v.present with
  | some p => p.interleave.toNat
  | none => 1

/-- The target slot g: slot 0 for a STAMP-READ whatever the interleave (R79). -/
def Record.targetSlot (q : Record) (v : Volume) : Nat :=
  if q.kind = .stampRead then 0 else slotOfSector v.interleave (q.sector.getD 0)

/-- The rotational wait w, in slots (R79). -/
def rotationWait (target arrival : Nat) : Nat := (target + 16 - arrival) % 16

/-- The cost of a record in ticks; a FORMAT's is its seek alone (R79). -/
def Engine.cost (e : Engine) (v : Volume) (now : Tick) (q : Record) : Nat :=
  if q.kind = .format then e.seekTime q.cylinder
  else e.seekTime q.cylinder
    + rotationWait (q.targetSlot v) (e.arrivalSlot now q.cylinder) * e.slotTime

/-! ## Eligibility (R75) -/

/-- Another record in use on drive `d`'s list names a sector of the track side of FORMAT record `r`
(R75, R126). -/
def State.trackBusy (s : State) (d : DriveIx) (r : RecIx) (q : Record) : Bool :=
  (s.driveList d).any fun r' => decide (r' ≠ r) &&
    (match s.record? r' with
     | some p => p.sector.isSome && decide (p.cylinder = q.cylinder) && decide (p.side = q.side)
     | none => false)

/-- A WAITING record of drive `d` may be selected (R75). -/
def State.eligible (s : State) (d : DriveIx) (r : RecIx) (q : Record) : Bool :=
  decide (q.phase = .waiting) &&
    match q.kind with
    | .stampRead => decide ((s.volume d).state = .readingStamp)
    | .format => decide ((s.volume d).state ≠ .empty) && !s.trackBusy d r q
    | .fill | .prefetch => s.attached d
    | .writeback => s.attached d && !(q.names (stampAddr d) && s.stampHeld d)

/-! ## The choice (R76, R80) -/

/-- What the Scheduler compares, in order: class, cost, cylinder, side, logical sector (R76, R80). The
last two steps of R80 are the order of the list. -/
def State.choiceKey (s : State) (d : DriveIx) (q : Record) : List Nat :=
  [q.urgency.code, (s.engine d).cost (s.volume d) s.clock.tick q, q.cylinder, q.side, q.sector.getD 0]

/-- `a` comes strictly before `b` in dictionary order. -/
def keyLess : List Nat → List Nat → Bool
  | a :: as, b :: bs => decide (a < b) || (decide (a = b) && keyLess as bs)
  | _, _ => false

/-- The better of the best candidate so far and the next record of the list: an equal one does not
replace one nearer the head (R80). -/
def State.better (s : State) (d : DriveIx) (best : Option (RecIx × List Nat)) (r : RecIx) :
    Option (RecIx × List Nat) :=
  match s.record? r with
  | none => best
  | some q =>
    if s.eligible d r q then
      let key := s.choiceKey d q
      match best with
      | none => some (r, key)
      | some (_, k) => if keyLess key k then some (r, key) else best
    else best

/-- The record the Scheduler would choose for drive `d`: of the eligible records of the highest class
the one of least cost (R76, R80). -/
def State.best? (s : State) (d : DriveIx) : Option RecIx :=
  ((s.driveList d).foldl (s.better d) none).map (·.1)

/-- The engine of drive `d` makes a choice: it runs, has no operation and knows its cylinder (R76, R84). -/
def Engine.mayChoose (e : Engine) : Bool :=
  decide (e.state = .idle) && e.unheld && e.current.isNone && e.cyl.isSome

/-! ## Taking a record (R91) -/

/-- The target of a fill, prefetch or write-back lies on side 1 and the volume records one side (R91). -/
def State.sideMissing (s : State) (d : DriveIx) (q : Record) : Bool :=
  (match q.kind with
   | .fill | .prefetch | .writeback => true
   | .stampRead | .format => false)
  && decide (q.side = 1)
  && (match (s.volume d).present with
      | some p => decide (p.sides = 1)
      | none => false)

/-- The engine of drive `d` finds no buffer free and joins the buffer wait list (R109). -/
def State.waitForBuffer (s : State) (d : DriveIx) : State :=
  { s with bufWait := s.bufWait ++ [d] }.modEngine d fun e => { e with state := .waitBuffer }

/-- The engine of drive `d` takes record `r`: SELECT, its checks in order, then a buffer or, for a
FORMAT, the positioning at once (R91). The idle index count is 0 again (R90); where it stood at 8 with the
unloading of the heads not yet carried out, the heads stay loaded (DESIGN CHOICE, log 3). -/
def State.takeChoice (s : State) (d : DriveIx) (r : RecIx) : State :=
  match s.record? r with
  | none => s
  | some q =>
    let t := (s.modRecord r fun q => { q with phase := .selected }).modEngine d fun e =>
      { e with state := .select, current := some r, dataHeld := false, idle := 0 }
    if q.kind = .writeback ∧ (s.volume d).protect then t.writeFails d r .protect
    else if s.sideMissing d q then t.operationFails d r .noSide
    else if q.kind = .format then t.startPositioning d r
    else
      match t.freeBuffer? with
      | some b => t.giveBuffer d r b
      | none => t.waitForBuffer d

/-- The first drive, in increasing number, whose engine makes a choice, with the record it takes. -/
def State.nextChoice? (s : State) : Option (DriveIx × RecIx) :=
  allDrives.findSome? fun d =>
    if (s.engine d).mayChoose then (s.best? d).map fun r => (d, r) else none

end Sys2Proof.Machine
end

