-- ==== Sys2Proof/Machine/Windows.lean ====
section
/-! DEFINITION. Windows: conflicts, staging, the swap, giving a window up, and what follows every change at once (chapter 2). -/

namespace Sys2Proof.Machine

open Sys2Proof

/-! ## Conflicts (R24) -/

/-- The bindings of a window that count for overlap and claims: the current one and a staged one that
is not empty (R24). -/
def Window.bindings : Window → List Binding
  | .unbound => []
  | .bound b _ => [b]
  | .staged b none _ => [b]
  | .staged b (some n) _ => [b, n]

/-- The memory ranges of two bindings share an address (R24). -/
def Binding.overlaps (a b : Binding) : Bool := decide (a.base < b.top) && decide (b.base < a.top)

/-- The runs of two bindings share a disk address (R24). -/
def Binding.sharesSector (a b : Binding) : Bool := a.run.any fun x => decide (x ∈ b.run)

/-- The run of a binding names a sector of a track side. -/
def Binding.onTrack (b : Binding) (d : DriveIx) (cylinder side : Nat) : Bool :=
  decide (b.drive = d) &&
    b.run.any fun a => decide (a.cylinder = cylinder) && decide (a.side = side)

/-- A FORMAT record stands in the way of a binding (R24, third case). -/
def State.formatBlocks (s : State) (b : Binding) : Bool :=
  allRecords.any fun r => match s.record? r with
    | some q => decide (q.kind = .format) && decide (q.drive = b.drive) &&
        ((decide (q.cylinder = 0) && decide (q.side = 0)) || b.onTrack q.drive q.cylinder q.side)
    | none => false

/-- A binding offered for window `w` conflicts (R24). -/
def State.conflicts (s : State) (w : WinIx) (b : Binding) : Bool :=
  (allWindows.any fun v => decide (v ≠ w) &&
    (s.window v).bindings.any fun c => b.overlaps c || b.sharesSector c)
  || s.formatBlocks b

/-! ## A binding becomes current (R26, R27, R32) -/

/-- The traces of window `w`'s entries leave the Backlog List and the Deferred-Cycle List (R14, R26). -/
def State.forgetWindow (s : State) (w : WinIx) : State :=
  { s with
    path := { s.path with
      deferred := s.path.deferred.map fun o => o.filter fun q => decide (q.ref.win ≠ w) }
    pool := { s.pool with backlog := s.pool.backlog.filter fun x => decide (x.win ≠ w) } }

/-- The window that a binding makes when it becomes current; the empty binding leaves it UNBOUND (R32). -/
def Window.ofBinding : Option Binding → Window
  | some b => .bound b b.newEntries
  | none => .unbound

/-- The binding `next` becomes current in window `w`, in place of what the window held: the old entries
are destroyed, new ones are created, and the bound volume ids follow (R26, R27, R32). -/
def State.replaceWindow (s : State) (w : WinIx) (next : Option Binding) : State :=
  let t := (s.forgetWindow w).setWindow w (Window.ofBinding next)
  let t := match next with
    | some b => t.takeBoundId b.drive
    | none => t
  match s.binding? w with
  | some b => t.dropBoundId b.drive
  | none => t

/-- A STAGED window is quiet (R31). -/
def Window.quiet : Window → Bool
  | .staged _ _ es => es.all fun e => e.state.isQuiet
  | .unbound | .bound _ _ => false

/-- The swap of a STAGED window (R32). -/
def State.swapWindow (s : State) (w : WinIx) : State :=
  match s.window w with
  | .staged _ next _ => s.replaceWindow w next
  | .unbound | .bound _ _ => s

/-! ## Entering STAGED (R29) -/

/-- The entry's record is a FILL or PREFETCH in phase WAITING (R29). -/
def State.waitingFill? (s : State) (x : SectorRef) : Option RecIx :=
  match s.opOf x with
  | none => none
  | some r =>
    match s.record? r with
    | none => none
    | some q =>
      if (q.kind = .fill ∨ q.kind = .prefetch) ∧ q.phase = .waiting then some r else none

/-- The burst is a blank fill of window `w`. -/
def Burst.blankOf (w : WinIx) (u : Burst) : Bool :=
  decide (u.kind = .blankFill) && decide (u.served.map (·.win) = some w)

/-- A blank fill of window `w` serves no entry any more; other bursts are left as they are (R12). -/
def Burst.unserve (w : WinIx) (u : Burst) : Burst :=
  if u.blankOf w then { u with served := none } else u

/-- The places of the blank fills of window `w` that wait in the burst request queue. -/
def State.waitingBlanks (s : State) (w : WinIx) : List SectorRef :=
  (s.bursts.queue.filter (Burst.blankOf w)).filterMap (·.served)

/-- The places of window `w`'s entries whose fill is WAITING, in increasing sector index. -/
def State.waitingFills (s : State) (w : WinIx) : List SectorRef :=
  (s.refsOfWindow w).filter fun x => (s.waitingFill? x).isSome

/-- The WAITING fills of window `w` are cancelled (R29, first item): the entries return to ABSENT in
increasing sector index, and the records, freed at this one event, are handed on in the order of making
(R73). R29 lists the entries and R73 the records, each in an order of its own; that all entries change
before the first record is handed on is DESIGN CHOICE (log 32). -/
def State.cancelFills (s : State) (w : WinIx) : State :=
  let refs := s.waitingFills w
  let ending := refs.filterMap s.waitingFill?
  let freed := s.pool.order.filter fun r => decide (r ∈ ending)
  freed.foldl State.freeRecord (refs.foldl (fun t x => t.modEntry x Entry.fillCancelled) s)

/-- A DIRTY entry is requested at URGENT (R29, third item). -/
def State.drainEntry (s : State) (x : SectorRef) : State :=
  match s.entry? x with
  | some e => if e.state = .dirty then s.requestWrite x .urgent else s
  | none => s

/-- What happens to the entries of window `w` when it enters STAGED, in the order of R29 (log 32). -/
def State.enterStaged (s : State) (w : WinIx) : State :=
  let t := s.cancelFills w
  let t := (t.waitingBlanks w).foldl (fun t x => t.modEntry x Entry.fillCancelled)
    (t.withdraw (Burst.blankOf w))
  (t.refsOfWindow w).foldl State.drainEntry t

/-- The binding `next`, or the empty binding, is staged for window `w` (R28, R36). -/
def State.stageWindow (s : State) (w : WinIx) (next : Option Binding) : State :=
  match s.window w with
  | .unbound => s
  | .bound b es => (s.setWindow w (.staged b next es)).enterStaged w
  | .staged b _ es => s.setWindow w (.staged b next es)

/-! ## Giving a window up (R34, R35, R37, R115) -/

/-- The records of window `w`'s entries, in the order of making. -/
def State.recordsOfWindow (s : State) (w : WinIx) : List RecIx :=
  s.pool.order.filter fun r => match s.record? r with
    | some q => decide (q.owner.map (·.win) = some w)
    | none => false

/-- The record ends when its window is given up: it is WAITING, or a write-back whose copy-out has not
taken its first word, or a fill whose disk work is over and whose delivery has not started (R35,
R115). -/
def State.endsAtForce (s : State) (r : RecIx) : Bool :=
  match s.record? r with
  | none => false
  | some q => decide (q.phase = .waiting) ||
      match q.kind with
      | .writeback => !s.copyStarted r
      | .fill | .prefetch =>
          decide (q.phase = .inEngine) && decide ((s.engine q.drive).current ≠ some r)
            && !s.deliveryRunning r
      | .stampRead | .format => false

/-- A record that ends at the FORCE leaves its engine and is freed and handed on (R35, R115). -/
def State.endForced (s : State) (r : RecIx) : State :=
  match s.record? r with
  | none => s
  | some q =>
    if (s.engine q.drive).current = some r then
      ({ s with bufWait := s.bufWait.filter (· ≠ q.drive) }.endOperation q.drive).releaseRecord r
    else s.releaseRecord r

/-- The number of entries of window `w` in a dirty state: what a FORCE discards (R34). -/
def State.dirtyCount (s : State) (w : WinIx) : Nat :=
  ((s.window w).entries.filter fun e => e.state.isDirty).length

/-- The secure marks of window `w`'s entries are counted as failures (R34). -/
def State.failMarks (s : State) (w : WinIx) : State :=
  (s.window w).entries.foldl (fun t e => if e.state.isDirty then t.marksGone true e.marks else t) s

/-- The bursts of window `w` are treated: those of ending records, and waiting blank fills, are
withdrawn; a running blank fill serves no entry any more; a copy-out that has started without a word
stops (R35, R115, R116, R117). -/
def State.dropBursts (s : State) (w : WinIx) (ending : List RecIx) : State :=
  let t := { s with bursts := { s.bursts with
    behind := s.bursts.behind.filter fun q => decide (q.record ∉ ending)
    running := s.bursts.running.map (Burst.unserve w) } }
  let t := t.withdraw fun u => u.blankOf w || (match u.record with
    | some r => decide (r ∈ ending)
    | none => false)
  ending.foldl State.stopCopyOut t

/-- The last-discard record is filled and DISCARDED raised when a change has been given up (R34). -/
def State.noteDiscard (s : State) (w : WinIx) (count : Nat) (b : Option Binding) : State :=
  match b with
  | some b =>
    let note : DiscardRecord := { win := w, count := count, drive := b.drive, time := s.clock.coarse }
    if count = 0 then s else { s with lastDiscard := some note }.raise .discarded
  | none => s

/-- Window `w` is given up and `next` becomes current (R34, R35). The order of the parts at this one
moment is DESIGN CHOICE, log 16. -/
def State.giveUpWindow (s : State) (w : WinIx) (next : Option Binding) : State :=
  let mine := s.recordsOfWindow w
  let ending := mine.filter s.endsAtForce
  let t := (s.failMarks w).dropBursts w ending
  let t := mine.foldl (fun (t : State) r => t.modRecord r fun q => { q with owner := none }) t
  let t := t.replaceWindow w next
  let t := (ending.foldl State.endForced t).handBuffers
  t.noteDiscard w (s.dirtyCount w) (s.binding? w)

/-! ## What follows at once (R31, R76) -/

/-- The lowest-numbered STAGED window that is quiet. -/
def State.nextSwap? (s : State) : Option WinIx := allWindows.find? fun w => (s.window w).quiet

/-- The next thing that follows at once: a swap, or the choice of an engine (log 4). -/
def State.settleOne (s : State) : Option State :=
  match s.nextSwap? with
  | some w => some (s.swapWindow w)
  | none =>
    match s.nextChoice? with
    | some (d, r) => some (s.takeChoice d r)
    | none => none

/-- At most `n` swaps and choices. -/
def State.settleFor : Nat → State → State
  | 0, s => s
  | n + 1, s =>
    match s.settleOne with
    | some t => t.settleFor n
    | none => s

/-- Every swap and every choice whose condition has come about takes place (R31, R76, log 4). Each swap
ends a drain, and each choice occupies an engine or ends the record of an entry; with 16 windows, 4
engines, 48 records and 1,024 entries, 2,048 rounds are enough. -/
def State.settle (s : State) : State := s.settleFor 2048

/-- Runs `f` while the 840 runs, and then everything that follows at once. R76 has an IDLE engine choose
as soon as a record is made; where one command makes several records in turn (a sweep, the drain at
STAGE), every engine chooses only after the command has made them all (DESIGN CHOICE, log 4). -/
def State.perform (s : State) (f : State → State) : State :=
  if s.power = .running then (f s).settle else s

end Sys2Proof.Machine
end

