-- ==== Sys2Proof/Machine/MemoryPath.lean ====
section
/-! DEFINITION. The Memory Path: upstream cycles, burst words, the expiry of Deferred-Cycle records (chapters 1 and 6.3). -/

namespace Sys2Proof.Machine

open Sys2Proof

/-! ## What a cycle carries -/

def accessIsWrite : Access → Bool
  | .readByte | .readWord => false
  | .writeByte _ | .writeWord _ => true

def accessIsWord : Access → Bool
  | .readByte | .writeByte _ => false
  | .readWord | .writeWord _ => true

/-- The data that memory returns for an access: the word's address ignores the lowest bit (R2). -/
def State.readFor (s : State) (addr : Nat) : Access → Option ReadData
  | .readByte => some (.byte (s.readByte addr))
  | .readWord => some (.word (s.readWord addr))
  | .writeByte _ | .writeWord _ => none

/-- What an access does to memory. -/
def State.writeFor (s : State) (addr : Nat) : Access → State
  | .readByte | .readWord => s
  | .writeByte v => s.writeByte addr v
  | .writeWord v => s.writeWord addr v

/-- A refused read returns all ones (R2). -/
def allOnes : Access → Option ReadData
  | .readByte => some (.byte 0xFF)
  | .readWord => some (.word 0xFFFF)
  | .writeByte _ | .writeWord _ => none

/-! ## Decoding (R3) -/

/-- The sector entry that a memory address lies in, if it lies in a window's current binding (R3). -/
def State.locate (s : State) (a : Nat) : Option SectorRef :=
  allWindows.findSome? fun w => match s.binding? w with
    | some b => if b.base ≤ a ∧ a < b.top then some ⟨w, (a - b.base) / 256⟩ else none
    | none => none

/-! ## The Deferred-Cycle List (R13, R14, R16) -/

/-- The tag's record names the sector. -/
def State.waitsOn (s : State) (tag : Tag) (x : SectorRef) : Option DeferRecord :=
  (s.path.deferred[tag]).filter fun q => decide (q.ref = x)

def State.setDeferred (s : State) (tag : Tag) (o : Option DeferRecord) : State :=
  { s with path := { s.path with deferred := s.path.deferred.set tag o } }

/-- A cycle answered DEFER: the tag's record for the same sector is kept, and otherwise a record is
added or replaced with first-deferred now (R13). -/
def State.noteDefer (s : State) (tag : Tag) (x : SectorRef) : State :=
  match s.waitsOn tag x with
  | some _ => s
  | none => s.setDeferred tag (some { ref := x, first := s.clock.coarse })

/-- A cycle answered PASS or FAULT: the tag's record for the same sector is removed (R14). -/
def State.noteServed (s : State) (tag : Tag) (x : SectorRef) : State :=
  match s.waitsOn tag x with
  | some _ => s.setDeferred tag none
  | none => s

/-- The tag has waited the defer limit on this sector (R16). -/
def State.expired? (s : State) (tag : Tag) (x : SectorRef) : Option DeferRecord :=
  (s.waitsOn tag x).filter fun q => decide (s.path.deferLimit.toNat ≤ since s.clock.coarse q.first)

/-! ## Judgement (R4 to R12) -/

/-- The answer that steps 2 and 3 of R4 give to a cycle that the writer set lets through (R6, R7). -/
def answerOf (staged : Bool) (write : Bool) (state : SectorState) : Answer :=
  if staged && write then .defer
  else
    match state with
    | .absent | .queued | .filling => .defer
    | .copying => if write then .defer else .pass
    | .clean | .dirty | .writing | .redirty | .stranded | .unwritten => .pass
    | .failed => .fault

/-- A blank fill of the entry at `x` is requested on drive `d`, where the drive's place is empty and
nothing is pending behind it (R11). -/
def State.requestBlank (s : State) (x : SectorRef) (d : DriveIx) : State :=
  if s.placeHeld d || s.pendingBehind d then s
  else
    ((s.modEntry x Entry.blankBegins).joinQueue
      { kind := .blankFill, drive := d, base := s.imageBase x, record := none, served := some x,
        buffer := none, damaged := false, words := 0, fill := 0 }).startNext

/-- What a deferred cycle asks for in a BOUND window (R10, R11). -/
def State.askFor (s : State) (x : SectorRef) (b : Binding) (e : Entry) : State :=
  match e.state with
  | .absent =>
    if s.attached b.drive then
      if b.fresh then s.requestBlank x b.drive else s.requestFill x e
    else s
  | .queued | .filling => s.raiseFill x
  | .clean | .dirty | .copying | .writing | .redirty | .stranded | .unwritten | .failed => s

/-- The change that a passed write makes to its sector entry (R8, R9). -/
def State.noteWrite (s : State) (x : SectorRef) (b : Binding) (e : Entry) : State :=
  match e.state with
  | .clean =>
    let t := s.modEntry x (Entry.firstWrite (s.attached b.drive) s.clock.coarse)
    if s.attached b.drive ∧ !b.gathered then t.requestWrite x .normal else t
  | .writing => s.modEntry x (Entry.rewritten s.clock.coarse)
  | .absent | .queued | .filling | .dirty | .copying | .redirty | .stranded | .unwritten | .failed => s

/-- The cycle is answered. -/
def State.answered (s : State) (a : Answer) (data : Option ReadData) : State :=
  { s with answer := some { answer := a, data := data } }

/-- A write from outside the writer set (R5). -/
def State.refuseWrite (s : State) (c : UpCycle) (x : SectorRef) : State :=
  let t := { s with path := { s.path with
    lastRefusal := some { tag := c.tag, addr := c.addr, word := accessIsWord c.access, ref := x,
                          time := s.clock.coarse } } }
  ((t.raise .writeRefused).noteServed c.tag x).answered .fault (allOnes c.access)

/-- A reissue that has waited the defer limit (R16). -/
def State.expireCycle (s : State) (c : UpCycle) (x : SectorRef) (e : Entry) (q : DeferRecord) : State :=
  let t := { s with path := { s.path with
    lastExpiry := some { tag := c.tag, addr := c.addr, write := accessIsWrite c.access, ref := x,
                         first := q.first, time := s.clock.coarse, code := e.code } } }
  ((t.raise .deferExpired).setDeferred c.tag none).answered .fault (allOnes c.access)

/-- A cycle that lies in a window, judged in the order of R4. -/
def State.judge (s : State) (c : UpCycle) (x : SectorRef) (b : Binding) (e : Entry) : State :=
  let write := accessIsWrite c.access
  let staged := (s.window x.win).isStaged
  if write && !b.writers.getLsbD c.tag.val then s.refuseWrite c x
  else
    match answerOf staged write e.state with
    | .pass =>
      let t := if write then s.noteWrite x b e else s
      ((t.noteServed c.tag x).answered .pass (s.readFor c.addr.toNat c.access)).writeFor
        c.addr.toNat c.access
    | .fault => (s.noteServed c.tag x).answered .fault (allOnes c.access)
    | .defer =>
      match s.expired? c.tag x with
      | some q => s.expireCycle c x e q
      | none => ((if staged then s else s.askFor x b e).noteDefer c.tag x).answered .defer none

/-- An upstream cycle is decoded, answered and performed (R2, R3). A cycle in no current binding passes
and changes nothing else. -/
def State.decodeCycle (s : State) (c : UpCycle) : State :=
  let outside := (s.answered .pass (s.readFor c.addr.toNat c.access)).writeFor c.addr.toNat c.access
  match s.locate c.addr.toNat with
  | none => outside
  | some x =>
    match s.binding? x.win, s.entry? x with
    | some b, some e => s.judge c x b e
    | _, _ => outside

/-! ## Expiry (R15) -/

/-- Every Deferred-Cycle record of age twice the defer limit or more is removed (R15). -/
def State.expireRecords (s : State) : State :=
  { s with
    path := { s.path with
      deferred := s.path.deferred.map fun o =>
        o.filter fun q => decide (since s.clock.coarse q.first < 2 * s.path.deferLimit.toNat) }
    clock := { s.clock with due := { s.clock.due with expiry := false } } }

/-- The expiry judgement of the latest coarse advance, unless it has been made (log 3). -/
def State.judgeExpiry (s : State) : State := if s.clock.due.expiry then s.expireRecords else s

/-! ## Burst words (R19, R114) -/

/-- The entry that the burst's record belongs to. -/
def State.burstOwner (s : State) (u : Burst) : Option SectorRef :=
  (u.record.bind s.record?).bind (·.owner)

/-- The first word of a burst: a blank fill takes the blank fill byte (R11, R18). -/
def State.firstWord (s : State) (u : Burst) : Burst :=
  if u.words = 0 ∧ u.kind = .blankFill then { u with fill := s.path.blankByte } else u

/-- The first word of a copy-out makes its DIRTY entry COPYING (R50). -/
def State.beginCopy (s : State) (u : Burst) : State :=
  if u.words = 0 ∧ u.kind = .copyOut then
    match s.burstOwner u with
    | some x => s.modEntry x Entry.copyBegins
    | none => s
  else s

/-- The last word of a delivery (R47, R74, R114). A delivery whose record has been removed or detached
changes no entry (R35, R117). -/
def State.endDelivery (s : State) (u : Burst) : State :=
  match u.record with
  | none => s.handBuffers
  | some r =>
    match s.record? r with
    | none => s.handBuffers
    | some q =>
      match q.owner with
      | none => s.freeRecord r
      | some x =>
        let t := (s.modEntry x (Entry.delivered u.damaged)).freeRecord r
        match q.kind, s.binding? x.win with
        | .fill, some b => t.readAhead x.win b.readAhead (x.idx + 1)
        | _, _ => t

/-- The last word of a copy-out (R50, R92, R114): the entry becomes WRITING, and the engine, if its
heads are in place, requests the channel. -/
def State.endCopyOut (s : State) (u : Burst) : State :=
  match u.record with
  | none => s.handBuffers
  | some r =>
    let t := match s.burstOwner u with
      | some x => s.modEntry x Entry.copyEnds
      | none => s
    let t := t.modRecord r fun q => { q with copied := true }
    let e := s.engine u.drive
    if e.current = some r ∧ e.state = .positioning ∧ e.inPlace then t.requestChannel u.drive else t

/-- The last word of a blank fill (R12). -/
def State.endBlank (s : State) (u : Burst) : State :=
  match u.served with
  | none => s
  | some x =>
    match s.binding? x.win with
    | none => s
    | some b =>
      let t := s.modEntry x (Entry.blankEnds (s.attached b.drive) s.clock.coarse)
      if !s.attached b.drive then t
      else if (s.window x.win).isStaged then t.requestWrite x .urgent
      else if b.gathered then t else t.requestWrite x .normal

/-- The end of a burst, by its kind. -/
def State.endBurst (s : State) (u : Burst) : State :=
  match u.kind with
  | .delivery => s.endDelivery u
  | .copyOut => s.endCopyOut u
  | .blankFill => s.endBlank u

/-- The running burst takes one word in a turn of the port of its own (R19, R114). At its last word
the burst is over: its drive's place is handed on, and then its effect follows (log 22). -/
def State.burstTurn (s : State) : State :=
  match s.bursts.running with
  | none => s
  | some u =>
    let u := s.firstWord u
    let t := (s.beginCopy u).moveWord u
    if u.words < 127 then
      { t with bursts := { t.bursts with
        running := some { u with words := u.words + 1 }
        owed := false } }
    else t.endRunning.endBurst u

/-- The burst that is owed the port's next turn takes it before an upstream cycle does (R19). -/
def State.payBurst (s : State) : State := if s.bursts.owed then s.burstTurn.settle else s

/-- An upstream cycle takes its turn of the port; a burst that is running is owed the next (R19). Records
that the latest advance removes are gone before the cycle is judged (R15, log 3). -/
def State.upCycle (s : State) (c : UpCycle) : State :=
  let t := (s.payBurst.judgeExpiry.decodeCycle c).settle
  { t with bursts := { t.bursts with owed := t.bursts.running.isSome } }

/-! ## The commands -/

/-- UPSTREAM_CYCLE (R2). A cycle presented during a reset is held off until it ends (R20, log 9). -/
def execUpstreamCycle (c : UpCycle) (s : State) : Host.Outcome State Fault Refusal :=
  .next (match s.power with
    | .off => s
    | .inReset _ _ => { s with heldCycles := s.heldCycles ++ [c] }
    | .running => s.upCycle c)

/-- BURST_WORD (R19). -/
def execBurstWord (s : State) : Host.Outcome State Fault Refusal := .next (s.perform State.burstTurn)

/-- DEFERRED_RECORD_EXPIRY (R15). -/
def execDeferredRecordExpiry (s : State) : Host.Outcome State Fault Refusal :=
  .next (s.whileRunning State.judgeExpiry)

end Sys2Proof.Machine
end

