-- ==== Sys2Proof/Machine/SweepSecure.lean ====
section
/-! DEFINITION. The judgements of a coarse advance: the sweep, age promotion and secure deadlines (chapter 9). -/

namespace Sys2Proof.Machine

open Sys2Proof

/-! ## The sweep (R143, R145) -/

/-- The sweep requests a write-back of the entry (R145). -/
def State.sweepEntry (s : State) (x : SectorRef) : State :=
  match s.entry? x, s.binding? x.win with
  | some e, some b =>
    if e.state = .dirty ∧ s.opOf x = none ∧ b.gathered ∧ s.attached b.drive then
      s.requestWrite x .normal
    else s
  | _, _ => s

/-- A period of the sweep timer ends (R143), and the sweep takes place (R145). -/
def State.sweepNow (s : State) : State :=
  let t := { s with
    sweep := { s.sweep with current := s.sweep.next, counter := 1 }
    clock := { s.clock with due := { s.clock.due with sweep := false } } }
  s.allRefs.foldl State.sweepEntry (t.raise .sweep)

/-- The sweep of the latest coarse advance, unless it has been made (log 3). -/
def State.judgeSweep (s : State) : State := if s.clock.due.sweep then s.sweepNow else s

/-! ## Age promotion (R147) -/

/-- The entry is promoted when it is dirty, not yet urgent, and has reached the age limit (R147). -/
def State.promoteEntry (s : State) (x : SectorRef) : State :=
  match s.entry? x with
  | some e =>
    if e.state.isDirty ∧ !e.urgent ∧ s.ageLimit.toNat ≤ e.age s.clock.coarse then
      (s.modEntry x Entry.promoted).requestWrite x .urgent
    else s
  | none => s

/-- Age promotion; a limit of 0 disables it (R146, R147). -/
def State.promoteAll (s : State) : State :=
  let t := { s with clock := { s.clock with due := { s.clock.due with promote := false } } }
  if s.ageLimit = 0 then t else s.allRefs.foldl State.promoteEntry t

/-- The promotions of the latest coarse advance, unless they have been made; a sweep of the same
advance comes first (R145, R147, log 3). -/
def State.judgeAges (s : State) : State :=
  if s.clock.due.promote then s.judgeSweep.promoteAll else s

/-! ## Secure deadlines (R153) -/

/-- The slot's deadline has passed (R153). -/
def State.slotLate (s : State) (k : SlotIx) : Bool :=
  decide ((s.slot k).state = .active) && decide ((s.slot k).deadline ≠ 0)
    && decide ((s.slot k).deadline.toNat ≤ since s.clock.coarse (s.slot k).start)

/-- Changes every entry of a window. -/
def Window.mapEntries (f : Entry → Entry) : Window → Window
  | .unbound => .unbound
  | .bound b es => .bound b (es.map f)
  | .staged b n es => .staged b n (es.map f)

/-- A slot past its deadline becomes DONE-LATE, its counts frozen and its marks removed, and SECURE-LATE
is raised (R153). -/
def State.lateSlot (s : State) (k : SlotIx) : State :=
  if s.slotLate k then
    ({ s with windows := s.windows.map (Window.mapEntries (Entry.unmark k)) }.setSlot k
      { s.slot k with state := .doneLate, ended := some s.clock.coarse }).raise .secureLate
  else s

/-- The deadline judgement of the latest coarse advance, unless it has been made (log 3). -/
def State.judgeDeadlines (s : State) : State :=
  if s.clock.due.deadline then
    allSlots.foldl State.lateSlot
      { s with clock := { s.clock with due := { s.clock.due with deadline := false } } }
  else s

/-! ## All four judgements -/

/-- Every judgement of the latest advance that has not been made is made (log 3). -/
def State.judgeAll (s : State) : State := s.judgeSweep.judgeAges.judgeDeadlines.judgeExpiry

/-- The promotions and the expiry of the latest advance are made before a setting that they read is
replaced: they use the limits in force at that advance (R15, R146, log 3). -/
def State.judgeLimits (s : State) : State :=
  if s.clock.due.promote || s.clock.due.expiry then s.judgeAges.settle.judgeExpiry else s

/-! ## The commands -/

/-- SWEEP (R145). -/
def execSweep (s : State) : Host.Outcome State Fault Refusal := .next (s.perform State.judgeSweep)

/-- AGE_PROMOTION (R147). -/
def execAgePromotion (s : State) : Host.Outcome State Fault Refusal := .next (s.perform State.judgeAges)

/-- SECURE_DEADLINE (R153). -/
def execSecureDeadline (s : State) : Host.Outcome State Fault Refusal :=
  .next (s.perform State.judgeDeadlines)

end Sys2Proof.Machine
end

