-- ==== Sys2Proof/Machine/WarmReset.lean ====
section
/-! DEFINITION. A warm reset as it begins: the recording of the dirty entries and the clearing of every block (R158, R159). -/

namespace Sys2Proof.Machine

open Sys2Proof

/-! ## Recording (R159) -/

/-- The places of the dirty entries, in the order the recording examines them (R159). -/
def State.dirtyRefs (s : State) : List SectorRef :=
  s.allRefs.filter fun x => match s.entry? x with
    | some e => e.state.isDirty
    | none => false

/-- A dirty entry as the Outage List records it. -/
def State.outageEntry? (s : State) (x : SectorRef) : Option OutageEntry :=
  (s.entry? x).map fun e => { addr := e.addr, win := x.win }

/-- One entry is recorded: appended while the list holds fewer than 32, and otherwise counted in the
overflow, at most 255 (R159). -/
def Store.record (o : Store) (x : OutageEntry) : Store :=
  if o.list.length < 32 then { o with list := o.list ++ [x] }
  else { o with overflow := min 255 (o.overflow + 1) }

/-- The recording of the first `n` dirty entries, with the cause of the reset (R158, R159). -/
def State.recorded (s : State) (cause : WarmCause) (n : Nat) : Store :=
  ((s.dirtyRefs.take n).filterMap s.outageEntry?).foldl Store.record
    { s.store with cause := warmCause cause }

/-! ## Clearing (R20, R38, R82, R107, R118, R131, R143, R146, R148, R158, R163, R169) -/

/-- An engine while a reset is in force, the lines of its drive standing as they are (R107). -/
def Engine.cleared (e : Engine) : Engine := Engine.reset e.ready e.track0 e.protect

/-- Every block takes its values after reset. Main memory, the buffers' bytes, the clocks, the lines and
the Outage Store are not among them. The command buffer, for which no rule gives a value after a reset,
keeps the bytes of the latest message (DESIGN CHOICE, log 35). After a supply failure or at a power-up too
the clocks stand as they were, and they advance in the power-up reset until they begin at 0 at its end (R1;
DESIGN CHOICE, log 37). -/
def State.cleared (s : State) : State :=
  { s with
    clock := { s.clock with due := Due.none }
    path := Path.reset
    windows := Vector.replicate 16 .unbound
    lastDiscard := none
    pool := Pool.reset
    engines := s.engines.map Engine.cleared
    bufWait := []
    chan := { owner := none, queue := [] }
    bursts := BurstUnit.reset
    volumes := Vector.replicate 4 Volume.reset
    sweep := SweepTimer.reset
    ageLimit := 1200
    slots := Vector.replicate 4 Slot.reset
    events := EventUnit.reset
    link := { s.link with response := [Result.done.code] }
    store := { s.store with dipTimer := none } }

/-- A warm reset: the recording, then the clearing; the reset then is in force (R158). -/
def State.warmReset (cause : WarmCause) (s : State) : State :=
  { { s with store := s.recorded cause s.dirtyRefs.length }.cleared with
    power := .inReset false (decide (s.dirtyRefs ≠ [])) }

end Sys2Proof.Machine
end

