-- ==== Sys2Proof/Machine/Clock.lean ====
section
/-! DEFINITION. The passing of time: the coarse clock's advances, the index-lost checks and the dip timer that end in the ticks that pass (chapter 0, R89, R157). -/

namespace Sys2Proof.Machine

open Sys2Proof

/-! ## Index lost (R89) -/

/-- 36,800 ticks have passed without an index pulse of drive `d`: the check rests until the next pulse,
and the fault comes with what follows from it at once (R89). -/
def State.indexGone (s : State) (d : DriveIx) : State :=
  ((s.modEngine d fun e => { e with lostTimer := none }).speedFails d).settle

/-- The drive whose index is lost next, and the ticks to that moment, where they are fewer than `limit`;
of drives that lose it at one tick the lowest (log 5). -/
def State.nextLost? (s : State) (limit : Nat) : Option (DriveIx × Nat) :=
  if s.power = .running then
    allDrives.foldl (fun best d => match (s.engine d).lostTimer with
      | none => best
      | some n =>
        if 36800 - n < (match best with
          | some (_, m) => m
          | none => limit)
        then some (d, 36800 - n) else best) none
  else none

/-- `n` ticks pass, and each index that is lost in fewer than `limit` of them faults at its moment
(R89). Each drive loses its index at most once, so four rounds are enough. -/
def State.passLost : Nat → Nat → Nat → State → State
  | 0, n, _, s => s.passTicks n
  | k + 1, n, limit, s =>
    match s.nextLost? limit with
    | none => s.passTicks n
    | some (d, m) => ((s.passTicks m).indexGone d).passLost k (n - m) (limit - m)

/-! ## The coarse clock (R1) -/

/-- The sweep timer at an advance: its counter rises, or the period ends and the sweep is due (R143). -/
def State.sweepTick (s : State) : State :=
  if !s.sweep.enabled then s
  else if s.sweep.counter < s.sweep.current then
    { s with sweep := { s.sweep with counter := s.sweep.counter + 1 } }
  else { s with clock := { s.clock with due := { s.clock.due with sweep := true } } }

/-- The coarse clock counts one advance, of 10,000 ticks (R1). -/
def State.countCoarse (s : State) : State :=
  { s with clock := { s.clock with
    coarse := s.clock.coarse + 1, toCoarse := s.clock.toCoarse - 10000 } }

/-- The moment of an advance. While the part runs, the four judgements of the advance become due; during a
reset they are not made (R1). -/
def State.coarseMoment (s : State) : State :=
  match s.power with
  | .off => s
  | .inReset _ _ => s.countCoarse
  | .running =>
    let t := s.countCoarse.sweepTick
    { t with clock := { t.clock with
      due := { t.clock.due with expiry := true, promote := true, deadline := true } } }

/-- The judgements of the advance before are made at the latest now (log 3). -/
def State.judgePast (s : State) : State := if s.power = .running then s.judgeAll.settle else s

/-- `n` ticks pass, with the first `k` advances of the coarse clock among them. An advance comes before
an index lost at its own tick (log 5). -/
def State.passAdvances : Nat → Nat → State → State
  | 0, n, s => s.passLost 4 n (n + 1)
  | k + 1, n, s =>
    let m := 10000 - s.clock.toCoarse
    ((s.judgePast.passLost 4 m m).coarseMoment).passAdvances k (n - m)

/-- `n` ticks pass: the coarse clock advances at every 10,000th tick (R1), and an index that is lost
faults at its moment (R89). Without main supply no time passes (log 28). -/
def State.passClocks (s : State) (n : Nat) : State :=
  if s.power = .off then s else s.passAdvances ((s.clock.toCoarse + n) / 10000) n

/-! ## A long dip (R157) -/

/-- The ticks after which the dip timer reaches 2,000, where more ticks than these are among the next
`n`. At the very tick at which it reaches 2,000 the return of the line can still be taken first (R157,
log 5). -/
def State.longDipIn? (s : State) (n : Nat) : Option Nat :=
  match s.power, s.store.dipTimer with
  | .running, some t => if 2000 - t < n then some (2000 - t) else none
  | _, _ => none

/-- `n` ticks pass as `pass` says, and a dip timer that runs out among them makes the warm reset of a long
dip at its moment (R157, R158), after the advances and the lost indexes of that tick (log 5). -/
def State.acrossDip (s : State) (n : Nat) (pass : State → Nat → State) : State :=
  match s.longDipIn? n with
  | none => pass s n
  | some k => pass ((s.passClocks k).warmReset .longDip) (n - k)

/-- `n` ticks pass, with everything that comes about in them: coarse advances (R1), lost indexes (R89) and
a long dip (R157). -/
def State.passTime (s : State) (n : Nat) : State := s.acrossDip n State.passClocks

/-- An advance of the coarse clock: the ticks that are lacking to 10,000 pass, and it comes with the last
(R1, log 5). -/
def State.coarseAdvance (s : State) : State :=
  s.acrossDip (10000 - s.clock.toCoarse) fun t n =>
    if t.power = .off then t else t.passAdvances 1 n

/-! ## The command -/

/-- COARSE_CLOCK_ADVANCE (R1). -/
def execCoarseClockAdvance (s : State) : Host.Outcome State Fault Refusal := .next s.coarseAdvance

end Sys2Proof.Machine
end

