-- ==== Sys2Proof/Machine/Replies.lean ====
section
/-! DEFINITION. The reply data of the link commands that report (R167), and the link commands STATUS, WINDOW STATES, READ DRIVE. -/

namespace Sys2Proof.Machine

open Sys2Proof

/-! ## STATUS (R167) -/

/-- The record that holds buffer `b`, FFh when none does (R118). -/
def State.holderByte (s : State) (b : BufIx) : Byte :=
  orNone ((allRecords.find? fun r => match s.record? r with
    | some q => decide (q.buffer = some b)
    | none => false).map (·.val))

/-- A burst by kind and drive: the kind in the high four bits (R167). -/
def burstByte (u : Burst) : Byte := byteOf (16 * u.kind.code + u.drive.val)

/-- A list of drives in order from its head, padded with FFh to four bytes. -/
def driveBytes (l : List DriveIx) : List Byte := padded 4 (l.map fun d => byteOf d.val)

/-- STATUS 0: the pool, the buffers, the channel and the burst unit. -/
def State.statusPool (s : State) : List Byte :=
  [byteOf s.freeCount] ++ bytes2 s.pool.backlog.length ++ driveBytes s.pool.stampWaits
    ++ allBuffers.map s.holderByte ++ [orNone (s.chan.owner.map (·.val))] ++ driveBytes s.chan.queue
    ++ [match s.bursts.running with
        | some u => burstByte u
        | none => 0xFF]
    ++ padded 4 (s.bursts.queue.map burstByte) ++ driveBytes s.bufWait

/-- STATUS 1: the sweep timer, its enable as 0 or 1 (log 39), and the limits. -/
def State.statusLimits (s : State) : List Byte :=
  [flagByte s.sweep.enabled] ++ bytes2 s.sweep.current ++ bytes2 s.sweep.next
    ++ bytes2 s.sweep.counter ++ bytes2 s.ageLimit.toNat ++ bytes2 s.path.deferLimit.toNat
    ++ [s.path.blankByte]

/-- STATUS 2: the last-refusal record; the presence byte of a record that is present is 1 (log 39), here and
in the parts below. -/
def State.statusRefusal (s : State) : List Byte :=
  match s.path.lastRefusal with
  | none => List.replicate 10 0
  | some q => [1, byteOf q.tag.val] ++ bytes3 q.addr.toNat
      ++ [flagByte q.word, byteOf q.ref.win.val, byteOf q.ref.idx] ++ bytes2 q.time.toNat

/-- STATUS 3: the last-expiry record. -/
def State.statusExpiry (s : State) : List Byte :=
  match s.path.lastExpiry with
  | none => List.replicate 13 0
  | some q => [1, byteOf q.tag.val] ++ bytes3 q.addr.toNat
      ++ [flagByte q.write, byteOf q.ref.win.val, byteOf q.ref.idx] ++ bytes2 q.first.toNat
      ++ bytes2 q.time.toNat ++ [byteOf q.code]

/-- STATUS 4: the last-discard record. -/
def State.statusDiscard (s : State) : List Byte :=
  match s.lastDiscard with
  | none => List.replicate 7 0
  | some q => [1, byteOf q.win.val] ++ bytes2 q.count ++ [byteOf q.drive.val] ++ bytes2 q.time.toNat

/-- A part of STATUS, parts 0 to 4. -/
def State.statusData? (s : State) (part : Nat) : Option (List Byte) :=
  match part with
  | 0 => some s.statusPool
  | 1 => some s.statusLimits
  | 2 => some s.statusRefusal
  | 3 => some s.statusExpiry
  | 4 => some s.statusDiscard
  | _ => none

/-! ## WINDOW STATES (R167) -/

/-- A binding, or 12 zero bytes for an absent one. -/
def bindingBytes : Option Binding → List Byte
  | some b => b.bytes
  | none => List.replicate 12 0

/-- WINDOW STATES 0: the state of the window and its bindings. -/
def Window.stateBytes (x : Window) : List Byte :=
  let staged : Byte × Option Binding := match x with
    | .unbound | .bound _ _ => (0, none)
    | .staged _ (some n) _ => (1, some n)
    | .staged _ none _ => (2, none)
  [byteOf x.code] ++ bindingBytes x.current? ++ [staged.1] ++ bindingBytes staged.2

/-- Two values of four bits to a byte, the first in the high four bits. -/
def nibbles (high low : Nat) : Byte := byteOf (16 * high + low)

/-- A value for each of 32 sector indices from `from`, two to a byte; 15 where there is no entry, after
the sector count (R167). -/
def Window.perSector (x : Window) (start : Nat) (value : Entry → Nat) : List Byte :=
  let v (i : Nat) : Nat := match x.entries[i]? with
    | some e => value e
    | none => 15
  byteOf x.entries.length ::
    (List.range 16).map fun j => nibbles (v (start + 2 * j)) (v (start + 2 * j + 1))

/-- The failure cause of an entry as parts 3 and 4 carry it. -/
def Entry.causeCode (e : Entry) : Nat :=
  match e.cause with
  | some c => c.code
  | none => 15

/-- A part of WINDOW STATES, parts 0 to 4. -/
def Window.data? (x : Window) (part : Nat) : Option (List Byte) :=
  match part with
  | 0 => some x.stateBytes
  | 1 => some (x.perSector 0 Entry.code)
  | 2 => some (x.perSector 32 Entry.code)
  | 3 => some (x.perSector 0 Entry.causeCode)
  | 4 => some (x.perSector 32 Entry.causeCode)
  | _ => none

/-! ## READ DRIVE (R167) -/

/-- The hold set in one byte. -/
def Engine.holdByte (e : Engine) : Byte :=
  byteOf (e.door.toNat + 2 * e.link.toNat + 4 * e.fault.toNat + 8 * e.dip.toNat)

/-- The number of WAITING records of a class on drive `d`'s list (R82). -/
def State.waitingOf (s : State) (d : DriveIx) (u : Urgency) : Nat :=
  ((s.driveList d).filter fun r => match s.record? r with
    | some q => decide (q.phase = .waiting) && decide (q.urgency = u)
    | none => false).length

/-- The record the engine holds: FFh in every byte when there is none (log 19). -/
def State.engineRecordBytes (s : State) (d : DriveIx) : List Byte :=
  match (s.engine d).current with
  | none => List.replicate 7 0xFF
  | some r =>
    match s.record? r with
    | none => List.replicate 7 0xFF
    | some q => [byteOf r.val, byteOf q.kind.code, byteOf q.urgency.code, byteOf q.phase.code,
                 byteOf q.cylinder, byteOf q.side, orNone q.sector]

/-- READ DRIVE 0: the engine. -/
def State.driveEngine (s : State) (d : DriveIx) : List Byte :=
  let e := s.engine d
  [byteOf e.state.code, e.holdByte, orNone e.cyl, flagByte e.loaded] ++ bytes2 e.period
    ++ [Urgency.urgent, .demand, .normal, .background].map (fun u => byteOf (s.waitingOf d u))
    ++ s.engineRecordBytes d ++ [byteOf e.stepMs, byteOf e.retries, flagByte e.halt]

/-- READ DRIVE 1: the volume record; an absent field is carried as 0, and a set flag as 1 (log 39). -/
def Volume.bytes (v : Volume) : List Byte :=
  [byteOf v.state.code, byteOf v.outcome.code]
    ++ bytes4 ((v.present.map Stamp.volumeId).getD 0).toNat ++ bytes4 (v.boundId.getD 0).toNat
    ++ (match v.present with
        | some p => [p.interleave, p.sides, p.flags, p.lastCyl]
        | none => [0, 0, 0, 0])
    ++ [flagByte v.protect, flagByte v.changed]

/-- READ DRIVE 2: the last-fault record. -/
def Engine.faultBytes (e : Engine) : List Byte :=
  match e.lastFault with
  | none => List.replicate 12 0
  | some q => [1, byteOf q.fault.code, byteOf q.outcome.code, orNone (q.kind.map (·.code)),
      orNone q.cylinder, orNone q.side, orNone q.sector, orNone q.attempts,
      orNone (q.ref.map (·.win.val)), orNone (q.ref.map (·.idx))] ++ bytes2 q.time.toNat

/-- READ DRIVE 3: the last-removal record; an absent volume id is carried as 0 (log 18). -/
def Volume.removalBytes (v : Volume) : List Byte :=
  match v.lastRemoval with
  | none => List.replicate 12 0
  | some q => [1, byteOf q.before.code] ++ bytes4 (q.volumeId.getD 0).toNat ++ [flagByte q.changed]
      ++ bytes2 q.stranded ++ [byteOf q.removed] ++ bytes2 q.time.toNat

/-- READ DRIVE 4: the last-format record. -/
def Volume.formatBytes (v : Volume) : List Byte :=
  match v.lastFormat with
  | none => List.replicate 8 0
  | some q => [1, flagByte q.cause.isSome, orNone (q.cause.map (·.code)), byteOf q.cylinder,
      byteOf q.side, q.interleave] ++ bytes2 q.time.toNat

/-- A part of READ DRIVE, parts 0 to 4. -/
def State.driveData? (s : State) (d : DriveIx) (part : Nat) : Option (List Byte) :=
  match part with
  | 0 => some (s.driveEngine d)
  | 1 => some (s.volume d).bytes
  | 2 => some (s.engine d).faultBytes
  | 3 => some (s.volume d).removalBytes
  | 4 => some (s.volume d).formatBytes
  | _ => none

/-! ## Secure slots, events and the Outage List (R155, R161, R167, R171) -/

/-- The fields of a slot; a FREE slot's are zero (R148), and the absent end time of an ACTIVE one is
carried as FFh bytes (log 19). -/
def Slot.bytes (k : Slot) : List Byte :=
  if k.state = .free then List.replicate 16 0
  else
    [byteOf k.state.code] ++ bytes2 k.target.toNat ++ [flagByte k.stampLast]
      ++ bytes2 k.deadline.toNat ++ bytes2 k.start.toNat
      ++ (match k.ended with
          | some t => bytes2 t.toNat
          | none => [0xFF, 0xFF])
      ++ bytes2 k.taken ++ bytes2 k.remaining ++ bytes2 k.failed

/-- The read tag and the event flags, flag 21 the highest bit used (R165, R171). -/
def EventUnit.bytes (u : EventUnit) : List Byte := u.readTag :: bytes3 u.flags.toNat

/-- An entry of the Outage List. -/
def OutageEntry.bytes (o : OutageEntry) : List Byte :=
  [byteOf o.addr.drive.val, byteOf o.addr.cylinder, byteOf o.addr.side, byteOf o.addr.sector,
    byteOf o.win.val]

/-- READ OUTAGE from position `start`: the counts, the last reset cause, and up to five entries
(R161, R167). -/
def Store.bytes (o : Store) (start : Nat) : List Byte :=
  [byteOf o.list.length, byteOf o.overflow, byteOf o.cause.code]
    ++ ((o.list.drop start).take 5).flatMap OutageEntry.bytes

/-! ## The commands that report -/

/-- A command's whole answer: DONE with its data, or the single result code that refuses it. -/
def State.reply (s : State) (refusal : Result) : Option (List Byte) → State
  | some data => s.respond .done data
  | none => s.respond refusal []

/-- STATUS is taken (R167). -/
def State.linkStatus (part : Byte) (s : State) : State :=
  (s.takeCommand 0x01 [part]).reply .badParam (s.statusData? part.toNat)

/-- WINDOW STATES is taken (R167). -/
def State.linkWindowStates (window part : Byte) (s : State) : State :=
  (s.takeCommand 0x14 [window, part]).reply .badParam
    ((windowOf window).bind fun w => (s.window w).data? part.toNat)

/-- READ DRIVE is taken (R167). -/
def State.linkReadDrive (drive part : Byte) (s : State) : State :=
  (s.takeCommand 0x35 [drive, part]).reply .badParam
    ((driveOf drive).bind fun d => s.driveData? d part.toNat)

/-- READ OUTAGE is taken (R161). -/
def State.linkReadOutage (start : Byte) (s : State) : State :=
  (s.takeCommand 0x60 [start]).reply .badParam
    (if start.toNat < 32 then some (s.store.bytes start.toNat) else none)

/-- STATUS (R167). -/
def execStatus (part : Byte) (s : State) : Host.Outcome State Fault Refusal :=
  .next (s.whileRunning (State.linkStatus part))

/-- WINDOW_STATES (R167). -/
def execWindowStates (window part : Byte) (s : State) : Host.Outcome State Fault Refusal :=
  .next (s.whileRunning (State.linkWindowStates window part))

/-- READ_DRIVE (R167). -/
def execReadDrive (drive part : Byte) (s : State) : Host.Outcome State Fault Refusal :=
  .next (s.whileRunning (State.linkReadDrive drive part))

/-- READ_OUTAGE (R161). -/
def execReadOutage (start : Byte) (s : State) : Host.Outcome State Fault Refusal :=
  .next (s.whileRunning (State.linkReadOutage start))

end Sys2Proof.Machine
end

