-- ==== Sys2Proof/Machine/WindowCommands.lean ====
section
/-! DEFINITION. The link commands on windows and secure slots: BIND, STAGE, FORCE, RELEASE, SECURE, SECURE STATUS, and the SWAP step (chapters 2 and 9). -/

namespace Sys2Proof.Machine

open Sys2Proof

/-! ## BIND and STAGE (R25, R28) -/

/-- The judgement of BIND, step by step (R25). -/
def State.judgeBind (s : State) (window : Byte) (record : BindRecord) : Except Result (WinIx × Binding) :=
  match windowOf window with
  | none => .error .badParam
  | some w =>
    match s.window w with
    | .unbound =>
      match bindingOf? record with
      | none => .error .badParam
      | some b => if s.conflicts w b then .error .conflict else .ok (w, b)
    | .bound _ _ | .staged _ _ _ => .error .wrongState

/-- An accepted BIND: the window becomes BOUND with new entries, and an ATTACHED drive without a bound id
takes the present one (R25, R26, R27). -/
def State.bindWindow (s : State) (w : WinIx) (b : Binding) : State :=
  (s.setWindow w (Window.ofBinding (some b))).takeBoundId b.drive

/-- BIND is taken (R25). -/
def State.linkBind (window : Byte) (record : BindRecord) (s : State) : State :=
  let t := s.takeCommand 0x10 (window :: bindRecordBytes record)
  match s.judgeBind window record with
  | .error r => t.respond r []
  | .ok (w, b) => (t.bindWindow w b).respond .done []

/-- The judgement of STAGE, step by step (R28). -/
def State.judgeStage (s : State) (window : Byte) (record : BindRecord) :
    Except Result (WinIx × Binding) :=
  match windowOf window with
  | none => .error .badParam
  | some w =>
    match s.window w with
    | .unbound => .error .wrongState
    | .bound _ _ | .staged _ _ _ =>
      match bindingOf? record with
      | none => .error .badParam
      | some b => if s.conflicts w b then .error .conflict else .ok (w, b)

/-- STAGE is taken (R28). -/
def State.linkStage (window : Byte) (record : BindRecord) (s : State) : State :=
  let t := s.takeCommand 0x11 (window :: bindRecordBytes record)
  match s.judgeStage window record with
  | .error r => t.respond r []
  | .ok (w, b) => (t.stageWindow w (some b)).respond .done []

/-! ## FORCE and RELEASE (R33 to R37) -/

/-- FORCE is taken (R33, R34). -/
def State.linkForce (window : Byte) (s : State) : State :=
  let t := s.takeCommand 0x12 [window]
  match windowOf window with
  | none => t.respond .badParam []
  | some w =>
    match s.window w with
    | .unbound | .bound _ _ => t.respond .wrongState []
    | .staged _ next _ => (t.giveUpWindow w next).respond .done []

/-- An ordinary RELEASE is taken (R36). -/
def State.linkRelease (window : Byte) (s : State) : State :=
  let t := s.takeCommand 0x13 [window, 0]
  match windowOf window with
  | none => t.respond .badParam []
  | some w =>
    match s.window w with
    | .unbound => t.respond .wrongState []
    | .bound _ _ | .staged _ _ _ => (t.stageWindow w none).respond .done []

/-- A RELEASE with the discard option is taken (R37). -/
def State.linkReleaseDiscard (window : Byte) (s : State) : State :=
  let t := s.takeCommand 0x13 [window, 1]
  match windowOf window with
  | none => t.respond .badParam []
  | some w =>
    match s.window w with
    | .unbound => t.respond .wrongState []
    | .bound _ _ | .staged _ _ _ => (t.giveUpWindow w none).respond .done []

/-- The swap of a window that is quiet; a window that is not stays as it is (R31, R32, log 4). -/
def State.swapIfQuiet (w : WinIx) (s : State) : State :=
  if (s.window w).quiet then s.swapWindow w else s

/-! ## SECURE (R149, R150) -/

/-- The places of the entries of a target set's windows, in increasing window number and sector index. -/
def State.targetRefs (s : State) (target : BitVec 16) : List SectorRef :=
  (allWindows.filter fun w => target.getLsbD w.val).flatMap s.refsOfWindow

/-- A WRITEBACK record for drive `d`'s stamp sector is SELECTED or IN-ENGINE (R149). -/
def State.stampInHand (s : State) (d : DriveIx) : Bool :=
  allRecords.any fun r => match s.record? r with
    | some q => decide (q.kind = .writeback) && q.names (stampAddr d) && decide (q.phase ≠ .waiting)
    | none => false

/-- The request would mark an entry of drive `d` other than the stamp sector (R149, step 2). -/
def State.wouldMark (s : State) (target : BitVec 16) (d : DriveIx) : Bool :=
  (s.targetRefs target).any fun x => match s.entry? x with
    | some e => e.state.marked && decide (e.addr.drive = d) && decide (e.addr ≠ stampAddr d)
    | none => false

/-- The lowest-numbered FREE slot (R149). -/
def State.freeSlot? (s : State) : Option SlotIx :=
  allSlots.find? fun k => decide ((s.slot k).state = .free)

/-- The judgement of SECURE, step by step (R149). -/
def State.judgeSecure (s : State) (target : BitVec 16) (stampLast : Bool) : Except Result SlotIx :=
  if target = 0 then .error .badParam
  else if stampLast ∧ allDrives.any fun d => s.wouldMark target d && s.stampInHand d then
    .error .wrongState
  else
    match s.freeSlot? with
    | none => .error .noRoom
    | some k => .ok k

/-- One entry of a SECURE's target (R150). -/
def State.secureEntry (k : SlotIx) (s : State) (x : SectorRef) : State :=
  match s.entry? x with
  | none => s
  | some e =>
    let slot := s.slot k
    if e.state.marked then
      ((s.modEntry x (Entry.mark k)).requestWrite x .urgent).setSlot k
        { slot with taken := slot.taken + 1, remaining := slot.remaining + 1 }
    else if e.state = .unwritten then
      s.setSlot k { slot with taken := slot.taken + 1, failed := slot.failed + 1 }
    else s

/-- An accepted SECURE takes slot `k`, marks its target, and ends at once when no mark is left (R149,
R150, R152). -/
def State.openSlot (s : State) (k : SlotIx) (target : BitVec 16) (stampLast : Bool)
    (deadline : BitVec 16) : State :=
  let t := s.setSlot k { Slot.reset with
    state := .active, target := target, stampLast := stampLast, deadline := deadline,
    start := s.clock.coarse }
  ((s.targetRefs target).foldl (State.secureEntry k) t).endSlot k

/-- SECURE is taken (R149). -/
def State.linkSecure (target : BitVec 16) (stampLast : Bool) (deadline : BitVec 16) (s : State) :
    State :=
  let t := s.takeCommand 0x20
    (bytes2 target.toNat ++ [flagByte stampLast] ++ bytes2 deadline.toNat)
  match s.judgeSecure target stampLast with
  | .error r => t.respond r []
  | .ok k => (t.openSlot k target stampLast deadline).respond .done [byteOf k.val]

/-- The slot is in a DONE state (R155). -/
def SlotState.isDone : SlotState → Bool
  | .free | .active => false
  | .doneOk | .doneFailed | .doneLate => true

/-- SECURE STATUS is taken: a slot found DONE becomes FREE after the reply (R155). -/
def State.linkSecureStatus (slot : Byte) (s : State) : State :=
  let t := s.takeCommand 0x21 [slot]
  match slotOf slot with
  | none => t.respond .badParam []
  | some k =>
    let t := t.respond .done (s.slot k).bytes
    if (s.slot k).state.isDone then t.setSlot k Slot.reset else t

/-! ## The commands -/

/-- BIND (R25). -/
def execBind (window : Byte) (record : BindRecord) (s : State) : Host.Outcome State Fault Refusal :=
  .next (s.perform (State.linkBind window record))

/-- STAGE (R28). -/
def execStage (window : Byte) (record : BindRecord) (s : State) : Host.Outcome State Fault Refusal :=
  .next (s.perform (State.linkStage window record))

/-- SWAP (R32). -/
def execSwap (window : WinIx) (s : State) : Host.Outcome State Fault Refusal :=
  .next (s.perform (State.swapIfQuiet window))

/-- FORCE (R33, R34, R35). -/
def execForce (window : Byte) (s : State) : Host.Outcome State Fault Refusal :=
  .next (s.perform (State.linkForce window))

/-- RELEASE (R36). -/
def execRelease (window : Byte) (s : State) : Host.Outcome State Fault Refusal :=
  .next (s.perform (State.linkRelease window))

/-- RELEASE_DISCARD (R37). -/
def execReleaseDiscard (window : Byte) (s : State) : Host.Outcome State Fault Refusal :=
  .next (s.perform (State.linkReleaseDiscard window))

/-- SECURE (R149, R150). -/
def execSecure (target : BitVec 16) (stampLast : Bool) (deadline : BitVec 16) (s : State) :
    Host.Outcome State Fault Refusal :=
  .next (s.perform (State.linkSecure target stampLast deadline))

/-- SECURE_STATUS (R155). -/
def execSecureStatus (slot : Byte) (s : State) : Host.Outcome State Fault Refusal :=
  .next (s.whileRunning (State.linkSecureStatus slot))

end Sys2Proof.Machine
end

