-- ==== Sys2Proof/Machine/DriveCommands.lean ====
section
/-! DEFINITION. The link commands on drives: HOLD, RUN, ADOPT, RETRY, FORMAT, SET DRIVE (chapters 5, 7 and 8). -/

namespace Sys2Proof.Machine

open Sys2Proof

/-! ## HOLD, RUN (R84, R102) -/

/-- LINK is set on the engine of drive `d` (R84, R102). -/
def State.holdDrive (s : State) (d : DriveIx) : State :=
  (s.modEngine d fun e => { e with link := true }).stopForHold d

/-- HOLD is taken (R84). -/
def State.linkHold (drive : Byte) (s : State) : State :=
  let t := s.takeCommand 0x30 [drive]
  match driveOf drive with
  | none => t.respond .badParam []
  | some d => (t.holdDrive d).respond .done []

/-- LINK and FAULT are cleared on the engine of drive `d` (R84). -/
def State.runDrive (s : State) (d : DriveIx) : State :=
  (s.modEngine d fun e => { e with link := false, fault := false }).resume d

/-- RUN is taken (R84). -/
def State.linkRun (drive : Byte) (s : State) : State :=
  let t := s.takeCommand 0x31 [drive]
  match driveOf drive with
  | none => t.respond .badParam []
  | some d => (t.runDrive d).respond .done []

/-! ## ADOPT (R139) -/

/-- The present volume of drive `d` becomes its bound volume, and the drive attaches (R139). -/
def State.adoptVolume (s : State) (d : DriveIx) : State :=
  ((s.modVolume d fun v => { v with boundId := v.present.map (·.volumeId) }).attach d true).raise
    .volumeArrived

/-- ADOPT is taken (R139). -/
def State.linkAdopt (drive : Byte) (s : State) : State :=
  let t := s.takeCommand 0x32 [drive]
  match driveOf drive with
  | none => t.respond .badParam []
  | some d =>
    if (s.volume d).state = .mismatch then (t.adoptVolume d).respond .done []
    else t.respond .wrongState []

/-! ## RETRY (R59) -/

/-- One entry of the drive at RETRY (R59). -/
def State.retryEntry (d : DriveIx) (s : State) (x : SectorRef) : State :=
  match s.entry? x with
  | none => s
  | some e =>
    match e.state with
    | .unwritten =>
      let t := s.modEntry x (Entry.retryWrite (s.attached d))
      if s.attached d then t.provide x true else t
    | .failed => s.modEntry x Entry.retryFill
    | .absent | .queued | .filling | .clean | .dirty | .copying | .writing | .redirty | .stranded => s

/-- RETRY on drive `d`: its entries change, and its FAULT hold is cleared (R59, R84). -/
def State.retryDrive (s : State) (d : DriveIx) : State :=
  (((s.refsOfDrive d).foldl (State.retryEntry d) s).modEngine d
    fun e => { e with fault := false }).resume d

/-- RETRY is taken (R59). -/
def State.linkRetry (drive : Byte) (s : State) : State :=
  let t := s.takeCommand 0x33 [drive]
  match driveOf drive with
  | none => t.respond .badParam []
  | some d => (t.retryDrive d).respond .done []

/-! ## FORMAT (R125) -/

/-- Steps 1 to 3 of R125: the parameters are in range. -/
def formatParamsGood (p : FormatParams) : Bool :=
  decide (p.cylinder.toNat ≤ 76) && decide (p.side.toNat ≤ 1)
    && (decide (p.interleave = 1) || decide (p.interleave = 3) || decide (p.interleave = 5)
        || decide (p.interleave = 7))
    && p.descriptors.all (fun x => decide (x = 0) || decide (x = 1))
    && (!isStampTrack p ||
        (decide (p.descriptors.getD 0 0 = 0) && decide (p.volumeId ≠ 0)
          && (decide (p.sides = 1) || decide (p.sides = 2)) && decide (p.lastCyl.toNat ≤ 76)))

/-- Steps 5 and 6 of R125: a current or staged binding of any window names a sector of the track side
or, for cylinder 0, side 0, the drive. -/
def State.formatClaimed (s : State) (d : DriveIx) (p : FormatParams) : Bool :=
  allWindows.any fun w => (s.window w).bindings.any fun b =>
    b.onTrack d p.cylinder.toNat p.side.toNat || (isStampTrack p && decide (b.drive = d))

/-- Step 7 of R125: the pool holds a FORMAT record for the same track side. -/
def State.formatQueued (s : State) (d : DriveIx) (p : FormatParams) : Bool :=
  allRecords.any fun r => match s.record? r with
    | some q => decide (q.kind = .format) && decide (q.drive = d)
        && decide (q.cylinder = p.cylinder.toNat) && decide (q.side = p.side.toNat)
    | none => false

/-- The judgement of FORMAT, step by step: the drive it names, or the refusal (R125, steps 1 to 7). -/
def State.judgeFormat (s : State) (p : FormatParams) : Except Result DriveIx :=
  match driveOf p.drive with
  | none => .error .badParam
  | some d =>
    if !formatParamsGood p then .error .badParam
    else if (s.volume d).state = .empty then .error .wrongState
    else if s.formatClaimed d p || s.formatQueued d p then .error .conflict
    else .ok d

/-- FORMAT is taken (R125): its last refusal, NO-ROOM, is that no record can be had (R71). -/
def State.linkFormat (p : FormatParams) (s : State) : State :=
  let t := s.takeCommand 0x34 (formatParamBytes p)
  match s.judgeFormat p with
  | .error r => t.respond r []
  | .ok d =>
    match t.makeOrEvict (t.formatRecord d p) with
    | some u => u.respond .done []
    | none => t.respond .noRoom []

/-! ## SET DRIVE (R106, R168) -/

/-- A value as it is stored: the nearest end of the range for one outside it (R168). -/
def clamp (low high n : Nat) : Nat := max low (min high n)

/-- SET DRIVE is taken (R106, R168). -/
def State.linkSetDrive (drive stepMs retries : Byte) (halt : Bool) (s : State) : State :=
  let t := s.takeCommand 0x38 [drive, stepMs, retries, flagByte halt]
  match driveOf drive with
  | none => t.respond .badParam []
  | some d =>
    (t.modEngine d fun e =>
      { e with stepMs := clamp 3 15 stepMs.toNat, retries := clamp 1 8 retries.toNat,
               halt := halt }).respond .done []

/-! ## The commands -/

/-- HOLD (R84). -/
def execHold (drive : Byte) (s : State) : Host.Outcome State Fault Refusal :=
  .next (s.perform (State.linkHold drive))

/-- RUN (R84). -/
def execRun (drive : Byte) (s : State) : Host.Outcome State Fault Refusal :=
  .next (s.perform (State.linkRun drive))

/-- ADOPT (R139). -/
def execAdopt (drive : Byte) (s : State) : Host.Outcome State Fault Refusal :=
  .next (s.perform (State.linkAdopt drive))

/-- RETRY (R59). -/
def execRetry (drive : Byte) (s : State) : Host.Outcome State Fault Refusal :=
  .next (s.perform (State.linkRetry drive))

/-- FORMAT (R125). -/
def execFormat (params : FormatParams) (s : State) : Host.Outcome State Fault Refusal :=
  .next (s.perform (State.linkFormat params))

/-- SET_DRIVE (R106). -/
def execSetDrive (drive stepMs retries : Byte) (halt : Bool) (s : State) :
    Host.Outcome State Fault Refusal :=
  .next (s.whileRunning (State.linkSetDrive drive stepMs retries halt))

end Sys2Proof.Machine
end

