-- ==== Sys2Proof/Machine/DriveLines.lean ====
section
/-! DEFINITION. The lines and mechanics of a drive: ready, index, speed, steps, settles (chapters 5 and 8). -/

namespace Sys2Proof.Machine

open Sys2Proof

/-! ## The ready line rises (R85, R133) -/

/-- The engine at the rise of the ready line, stopped until its hold set is judged (R85). -/
def Engine.rise (e : Engine) : Engine :=
  { e with
    state := .held, door := false, cyl := none, period := 16667, newer := none, older := none,
    bad := 0, lostTimer := some 0 }

/-- The volume record at the rise of the ready line (R133). -/
def Volume.rise (v : Volume) : Volume :=
  { v with state := .readingStamp, outcome := .none, present := none, protect := false }

/-- What the part does when the ready line of drive `d` has risen: DOOR clears, the volume is
READING-STAMP, the stamp read is requested, and an engine without holds recalibrates (R85, R133). -/
def State.driveRisen (s : State) (d : DriveIx) : State :=
  (((s.modEngine d Engine.rise).modVolume d Volume.rise).requestStamp d).resume d

/-- The lines of a newly inserted disk: ready, and its write-protect line (log 13). -/
def State.setReady (s : State) (d : DriveIx) (ready protect : Bool) : State :=
  s.modEngine d fun e => { e with ready := ready, protect := protect }

/-- The ready line of drive `d` rises. During a reset, and without supply, only the line changes
(R158); a line that is high already cannot rise (log 2). -/
def State.readyRises (d : DriveIx) (protect : Bool) (s : State) : State :=
  if (s.engine d).ready then s
  else
    let t := s.setReady d true protect
    t.perform fun t => t.driveRisen d

/-! ## The ready line falls (R57, R85, R137) -/

/-- The engine at the fall of the ready line (R85). -/
def Engine.fall (e : Engine) : Engine :=
  { e with
    state := .notReady, door := true, gate := false, loaded := false, motion := .still, cyl := none,
    newer := none, older := none, bad := 0, lostTimer := none, current := none, formatOn := false,
    idFound := false }

/-- One entry of a drive whose ready line falls (R57). -/
def State.doorEntry (s : State) (x : SectorRef) : State :=
  match s.entry? x with
  | none => s
  | some e =>
    match e.state with
    | .queued => s.modEntry x Entry.fillCancelled
    | .filling => if (s.opOf x).isSome then s.modEntry x Entry.fillCancelled else s
    | .dirty | .copying | .writing | .redirty => (s.modEntry x Entry.strand).leaveBacklog x
    | .absent | .clean | .stranded | .unwritten | .failed => s

/-- The burst is a delivery or a copy-out of drive `d`. -/
def Burst.bufferedOf (d : DriveIx) (u : Burst) : Bool :=
  decide (u.drive = d) && decide (u.kind ≠ .blankFill)

/-- A running delivery or copy-out of drive `d` goes on without its record (R117), and no later hold or dip
of the drive stops it (DESIGN CHOICE, log 15). -/
def Burst.orphan (d : DriveIx) (u : Burst) : Burst :=
  if u.bufferedOf d then { u with record := none } else u

/-- The bursts of drive `d` at the fall of its ready line: deliveries and copy-outs that wait are
withdrawn, a running one completes its words without its record, blank fills stay (R116, R117). -/
def State.doorBursts (s : State) (d : DriveIx) : State :=
  let t := { s with bursts := { s.bursts with
    behind := s.bursts.behind.filter fun q => decide (q.drive ≠ d)
    running := s.bursts.running.map (Burst.orphan d) } }
  t.withdraw (Burst.bufferedOf d)

/-- A record of the fallen drive is removed: a FORMAT fails with cause DOOR, and the record passes
through the hand-out (R129, R137). -/
def State.doorRecord (d : DriveIx) (s : State) (r : RecIx) : State :=
  match s.record? r with
  | none => s
  | some q =>
    if q.kind = .format then ((s.noteFormat d (some .door) q).raise .formatFailed).releaseRecord r
    else s.releaseRecord r

/-- The number of STRANDED entries on drive `d`'s windows (R138). -/
def State.strandedCount (s : State) (d : DriveIx) : Nat :=
  ((s.refsOfDrive d).filter fun x => match s.entry? x with
    | some e => decide (e.state = .stranded)
    | none => false).length

/-- The volume record at the fall of the ready line, with its last-removal record (R137, R138). -/
def Volume.fall (stranded removed : Nat) (now : Coarse) (v : Volume) : Volume :=
  { v with
    state := .empty, outcome := .none, present := none, protect := false, changed := false
    lastRemoval := some
      { before := v.state, volumeId := v.present.map Stamp.volumeId, changed := v.changed,
        stranded := stranded, removed := removed, time := now } }

/-- What the part does when the ready line of drive `d` has fallen (R85, R137). The entries change and
the drive's waits end before the freed records are handed on (DESIGN CHOICE, log 14). -/
def State.driveFallen (s : State) (d : DriveIx) : State :=
  let mine := s.driveList d
  let t := s.modEngine d Engine.fall
  let t := { t with bufWait := t.bufWait.filter (· ≠ d) }
  let t := (t.doorBursts d).leaveChannel d
  let t := (t.refsOfDrive d).foldl State.doorEntry t
  let t := { t with pool := { t.pool with stampWaits := t.pool.stampWaits.filter (· ≠ d) } }
  let t := (mine.foldl (State.doorRecord d) t).handBuffers
  let n := t.strandedCount d
  (t.modVolume d (Volume.fall n mine.length t.clock.coarse)).raise .volumeRemoved

/-- The ready line of drive `d` falls. A fall is acted on only from the volume states other than EMPTY
(R137); during a reset only the line changes (R158). -/
def State.readyFalls (d : DriveIx) (s : State) : State :=
  let t := s.modEngine d fun e => { e with ready := false }
  t.perform fun t => if (t.volume d).state = .empty then t else t.driveFallen d

/-! ## Attempts that end without a field (R93, R94, R99) -/

/-- The engine of drive `d` is searching, and not on the way of a recalibration within its operation. -/
def Engine.searches (e : Engine) : Bool := decide (e.state = .searching) && decide (e.motion = .still)

/-- A miss: the attempt is counted by R95, and the miss count is acted on by R94. -/
def State.countMiss (s : State) (d : DriveIx) (r : RecIx) : State :=
  let cause : Cause := if (s.engine d).badId then .idCrc else .notFound
  let t := s.modRecord r fun q => { q with attempts := q.attempts + 1, misses := min 2 (q.misses + 1) }
  match t.record? r with
  | none => s
  | some q =>
    if t.attemptsSpent d r then t.operationFails d r cause
    else if q.misses = 2 ∧ !q.recal then
      (t.modRecord r fun q => { q with misses := 0, recal := true }).modEngine d fun e => e.beginRecal
    else t.modEngine d Engine.beginSearch

/-- A search has seen its second index pulse (R93). -/
def State.searchMissed (d : DriveIx) (s : State) : State :=
  match (s.engine d).current with
  | none => s
  | some r =>
    if (s.engine d).searches ∧ 2 ≤ (s.engine d).searchPulses then s.countMiss d r else s

/-- A verify has seen the second index pulse after the write without its ID field (R99). -/
def State.verifyMissed (d : DriveIx) (s : State) : State :=
  match (s.engine d).current with
  | none => s
  | some r =>
    let e := s.engine d
    if e.state = .verifying ∧ !e.idFound ∧ 2 ≤ e.searchPulses then s.attemptFails d r .verify else s

/-! ## Speed (R88, R89) -/

/-- The bad-period count has reached 3: it returns to 0 with the fault (R89). -/
def State.badPeriods (d : DriveIx) (s : State) : State :=
  if 3 ≤ (s.engine d).bad then (s.modEngine d fun e => { e with bad := 0 }).speedFails d else s

/-- The ticks that are lacking to 36,800 without an index pulse of drive `d` pass, and with them its
fault comes about (R89, log 5). A check that rests has nothing to wait for (log 2). -/
def State.indexLost (d : DriveIx) (s : State) : State :=
  match (s.engine d).lostTimer with
  | none => s
  | some n => s.passTime (36800 - n)

/-- Idleness: at an idle index count of 8 the heads are unloaded (R90). A choice or a recalibration that
falls between the 8th pulse and this step sets the count to 0, and the heads then stay loaded (DESIGN
CHOICE, log 3). -/
def State.unloadHeads (d : DriveIx) (s : State) : State :=
  let e := s.engine d
  if 8 ≤ e.idle ∧ e.current = none ∧ (e.state = .idle ∨ e.state = .held) then
    s.modEngine d fun e => { e with loaded := false }
  else s

/-- What the drive's earlier pulses have made due (log 3): a speed fault, a miss, a verify that did not
find its field, the unloading of idle heads. One pulse can bring the bad-period count to 3 and be the
second pulse of a search or a verify, and no rule orders the two: the SPEED-FAULT comes first, so that
the operation is returned and no attempt is counted (DESIGN CHOICE, log 3). -/
def State.takeDue (d : DriveIx) (s : State) : State :=
  State.unloadHeads d (State.verifyMissed d (State.searchMissed d (State.badPeriods d s)))

/-! ## Index pulses (R88, R90, R93, R99, R127, R128) -/

/-- The interval lies in 15,000..18,400 (R88). -/
def intervalGood (n : Nat) : Bool := decide (15000 ≤ n) && decide (n ≤ 18400)

/-- An index pulse is captured at tick `now` (R88, R89). -/
def Engine.capture (now : Tick) (e : Engine) : Engine :=
  let f := { e with newer := some now, older := e.newer, lostTimer := some 0 }
  match e.newer with
  | none => f
  | some before =>
    let n := since now before
    if intervalGood n then { f with period := n, bad := 0 } else { f with bad := min 3 (e.bad + 1) }

/-- What an index pulse counts for the engine's work: a search or a verify in progress, or idleness
(R90, R93, R99). -/
def Engine.countPulse (e : Engine) : Engine :=
  match e.state with
  | .searching =>
    if e.motion = .still then { e with searchPulses := min 2 (e.searchPulses + 1) } else e
  | .verifying => { e with searchPulses := min 2 (e.searchPulses + 1) }
  | .idle | .held => if e.current = none then { e with idle := min 8 (e.idle + 1) } else e
  | .notReady | .recalibrating | .select | .waitBuffer | .positioning | .waitChannel | .reading
  | .writing | .formatting => e

/-- The index pulse that follows the grant to a FORMAT: the write-protect line is sampled, and the
track begins with the slot time of this moment (R127, R129, R142). -/
def State.beginTrack (s : State) (d : DriveIx) (r : RecIx) : State :=
  if (s.engine d).protect then s.formatFails d r .protect
  else
    (s.modEngine d fun e =>
      { e with gate := true, formatOn := true, formatSlot := e.slotTime }).modVolume d
        fun v => { v with changed := true }

/-- An index pulse of a FORMAT: the track begins, or it is complete (R127, R128). -/
def State.formatPulse (s : State) (d : DriveIx) : State :=
  match (s.engine d).state, (s.engine d).current with
  | .formatting, some r =>
    if (s.engine d).formatOn then s.formatCompletes d r else s.beginTrack d r
  | _, _ => s

/-- An index pulse of a drive whose ready line is high: the capture, the count for the engine's work, and
the beginning or the end of a FORMAT's track, which come before the SPEED-FAULT that the same pulse makes
due (DESIGN CHOICE, log 3). -/
def State.pulse (d : DriveIx) (s : State) : State :=
  if (s.engine d).ready then
    (s.modEngine d fun e => (e.capture s.clock.tick).countPulse).formatPulse d
  else s

/-- `elapsed` ticks pass and drive `d` gives an index pulse (R88). -/
def State.indexPulse (d : DriveIx) (elapsed : Nat) (s : State) : State :=
  ((s.perform (State.takeDue d)).passTime elapsed).perform (State.pulse d)

/-! ## Steps and settles (R86, R87, R90, R92) -/

/-- A step pulse of a seek: the cylinder moves by one toward the target; after the last step come the
settle and, for unloaded heads, the head load (R87, R90). -/
def Engine.seekStep (c : Nat) (e : Engine) : Engine :=
  let c' := if c < e.target then c + 1 else c - 1
  { e with
    cyl := some c'
    wait := if c' = e.target then 1500 + (if e.loaded then 0 else 3500) else e.stepTicks }

/-- A step pulse of a recalibration: outward, until the track-0 line is seen and the settle begins
(R86). A known cylinder is counted down with it (log 21). -/
def Engine.recalStep (track0 : Bool) (e : Engine) : Engine :=
  { e with
    cyl := e.cyl.map (· - 1)
    recalSteps := e.recalSteps + 1
    track0 := track0
    wait := if track0 then 1500 else e.stepTicks }

/-- A step is to be issued: a seek has not reached its target, or a recalibration has not seen track 0
in fewer than 80 steps. -/
def Engine.stepDue (e : Engine) : Bool :=
  match e.motion with
  | .still => false
  | .seeking => e.cyl.isSome && decide (e.cyl ≠ some e.target)
  | .recal => !e.track0 && decide (e.recalSteps < 80)

/-- The engine at a step pulse. -/
def Engine.step (track0 : Bool) (e : Engine) : Engine :=
  match e.motion, e.cyl with
  | .seeking, some c => { e.seekStep c with track0 := track0 }
  | .recal, _ => e.recalStep track0
  | .seeking, none => e
  | .still, _ => e

/-- The ticks that are lacking to the next event of drive `d`'s motion pass, where the engine awaits it,
and the event follows unless what has come about in those ticks has ended the motion (log 5). -/
def State.afterWait (d : DriveIx) (awaits : Engine → Bool) (event : State → State) (s : State) : State :=
  if awaits (s.engine d) then
    let t := s.passTime (s.engine d).wait
    if awaits (t.engine d) then event t else t
  else s

/-- A step pulse of drive `d`, at the end of the step time (R86, R87). -/
def State.stepPulse (d : DriveIx) (track0 : Bool) (s : State) : State :=
  s.afterWait d Engine.stepDue fun t => t.modEngine d (Engine.step track0)

/-- A recalibration has seen track 0. -/
def Engine.atTrack0 (e : Engine) : Bool := decide (e.motion = .recal) && e.track0

/-- A recalibration ends: the cylinder is 0. An engine without an operation stops or is IDLE; within an
operation the engine seeks back to its target (R86, R94). -/
def State.endRecal (s : State) (d : DriveIx) : State :=
  let t := s.modEngine d fun e => { e with cyl := some 0, motion := .still }
  match (s.engine d).state, (s.engine d).current.bind s.record? with
  | .searching, some q => t.modEngine d (Engine.beginSeek q.cylinder q.side)
  | _, _ => t.modEngine d fun e => { e with state := e.restState }

/-- A recalibration that has seen track 0 ends with its settle (R86). -/
def State.recalibrated (d : DriveIx) (s : State) : State :=
  s.afterWait d Engine.atTrack0 fun t => t.endRecal d

/-- A recalibration has made 80 steps without track 0 (R86, R94): the cylinder is unknown, the event is
raised, the last-fault record is filled, any operation is returned, and FAULT is set. The rule gives no
moment after the 80th step: the row acts at once and lets no ticks pass (DESIGN CHOICE, log 33). -/
def State.seekFails (d : DriveIx) (s : State) : State :=
  let e := s.engine d
  if e.motion = .recal ∧ !e.track0 ∧ 80 ≤ e.recalSteps then
    let q := e.current.bind s.record?
    let t := (s.raise .seekFault).noteFault d .seekFault .driveFault q
    let t := if e.current = none then t.endOperation d else t.returnRecord d
    (t.modEngine d fun e => { e with cyl := none }).haltFault d
  else s

/-- A seek has reached its target cylinder. -/
def Engine.atTarget (e : Engine) : Bool := decide (e.motion = .seeking) && decide (e.cyl = some e.target)

/-- The heads of drive `d` are in place: the engine requests the channel, waits for a copy-out that has
not ended, or searches again after a recalibration within its operation (R90, R92, R94). -/
def State.endSeek (s : State) (d : DriveIx) : State :=
  let t := s.modEngine d fun e => { e with loaded := true }
  match (s.engine d).state, (s.engine d).current.bind s.record? with
  | .positioning, some q => if q.kind = .writeback ∧ !q.copied then t else t.requestChannel d
  | .searching, some _ => t.modEngine d Engine.beginSearch
  | _, _ => t

/-- A seek that has reached its target cylinder ends with its settles (R90, R92). -/
def State.positioned (d : DriveIx) (s : State) : State :=
  s.afterWait d Engine.atTarget fun t => t.endSeek d

/-! ## The commands -/

/-- READY_LINE_RISE (R133). -/
def execReadyLineRise (d : DriveIx) (protect : Bool) (s : State) : Host.Outcome State Fault Refusal :=
  .next (s.readyRises d protect)

/-- READY_LINE_FALL (R137). -/
def execReadyLineFall (d : DriveIx) (s : State) : Host.Outcome State Fault Refusal :=
  .next (s.readyFalls d)

/-- INDEX_PULSE (R88). -/
def execIndexPulse (d : DriveIx) (elapsed : Nat) (s : State) : Host.Outcome State Fault Refusal :=
  .next (s.indexPulse d elapsed)

/-- SPEED_FAULT (R89). -/
def execSpeedFault (d : DriveIx) (s : State) : Host.Outcome State Fault Refusal :=
  .next (s.perform (State.badPeriods d))

/-- INDEX_LOST (R89). -/
def execIndexLost (d : DriveIx) (s : State) : Host.Outcome State Fault Refusal :=
  .next (s.perform (State.indexLost d))

/-- HEAD_UNLOAD (R90). -/
def execHeadUnload (d : DriveIx) (s : State) : Host.Outcome State Fault Refusal :=
  .next (s.whileRunning (State.unloadHeads d))

/-- STEP_PULSE (R86, R87). -/
def execStepPulse (d : DriveIx) (track0 : Bool) (s : State) : Host.Outcome State Fault Refusal :=
  .next (s.whileRunning (State.stepPulse d track0))

/-- RECALIBRATION_END (R86). -/
def execRecalibrationEnd (d : DriveIx) (s : State) : Host.Outcome State Fault Refusal :=
  .next (s.perform (State.recalibrated d))

/-- SEEK_FAULT (R86). -/
def execSeekFault (d : DriveIx) (s : State) : Host.Outcome State Fault Refusal :=
  .next (s.perform (State.seekFails d))

/-- POSITIONING_END (R92). -/
def execPositioningEnd (d : DriveIx) (s : State) : Host.Outcome State Fault Refusal :=
  .next (s.perform (State.positioned d))

/-- MISS (R93). -/
def execMiss (d : DriveIx) (s : State) : Host.Outcome State Fault Refusal :=
  .next (s.perform (State.searchMissed d))

/-- VERIFY_MISS (R99). -/
def execVerifyMiss (d : DriveIx) (s : State) : Host.Outcome State Fault Refusal :=
  .next (s.perform (State.verifyMissed d))

end Sys2Proof.Machine
end

