-- ==== Sys2Proof/Machine/DiskWork.lean ====
section
/-! DEFINITION. The disk work of an operation: ID fields, data fields, the write gate, read-back (chapters 5.7 to 5.10 and 7). -/

namespace Sys2Proof.Machine

open Sys2Proof

/-! ## ID fields (R93, R98, R99, R142) -/

/-- The good target of a write-back: the write gate is raised, unless the volume is not ATTACHED or is
protected (R98); the raising sets the changed-since-stamp flag (R142). -/
def State.raiseGate (s : State) (d : DriveIx) (r : RecIx) : State :=
  if s.attached d && !(s.volume d).protect then
    (s.modEngine d fun e => { e with state := .writing, gate := true }).modVolume d
      fun v => { v with changed := true }
  else s.writeFails d r .protect

/-- The good target of a search: the miss count becomes 0, and the engine writes or reads (R93). -/
def State.targetFound (s : State) (d : DriveIx) (r : RecIx) (q : Record) : State :=
  let t := s.modRecord r fun q => { q with misses := 0 }
  if q.kind = .writeback then t.raiseGate d r
  else t.modEngine d fun e => { e with state := .reading }

/-- An ID field of a search (R93): bad, not the target, defective, or the good target. -/
def State.searchField (s : State) (d : DriveIx) (r : RecIx) (q : Record) (f : IdField) : State :=
  if !idGood f then s.modEngine d fun e => { e with badId := true }
  else if !idNamesTarget f q.cylinder q.side (q.sector.getD 0) then s
  else if idDefective f then s.operationFails d r .defective
  else s.targetFound d r q

/-- An ID field of a verify: the same target is found when its CRC checks (R99, log 27). -/
def State.verifyField (s : State) (d : DriveIx) (q : Record) (f : IdField) : State :=
  if idGood f && idNamesTarget f q.cylinder q.side (q.sector.getD 0) then
    s.modEngine d fun e => { e with idFound := true }
  else s

/-- An ID field passes under the heads of drive `d`. -/
def State.idField (d : DriveIx) (f : IdField) (s : State) : State :=
  let e := s.engine d
  match e.current with
  | none => s
  | some r =>
    match s.record? r with
    | none => s
    | some q =>
      if e.searches then s.searchField d r q f
      else if e.state = .verifying then s.verifyField d q f
      else s

/-! ## Reading (R95, R96, R121) -/

/-- No data mark follows the good target ID: NOT-FOUND in READING, VERIFY in VERIFYING (R99, R121). -/
def State.markMissing (d : DriveIx) (s : State) : State :=
  let e := s.engine d
  match e.current with
  | none => s
  | some r =>
    if e.state = .reading then s.attemptFails d r .notFound
    else if e.state = .verifying ∧ e.idFound then s.attemptFails d r .verify
    else s

/-- The bytes of a data field are in the record's buffer, whether its CRC checks or not (R96). -/
def State.takeField (s : State) (d : DriveIx) (q : Record) (data : List Byte) : State :=
  let t := match q.buffer with
    | some b => s.setBuffer b data
    | none => s
  t.modEngine d fun e => { e with dataHeld := true }

/-- A read that checks ends the disk work (R96): a fill requests its delivery, a detached one is freed
(R35), and a stamp read hands its bytes to the Volume Tracker. -/
def State.readDone (s : State) (d : DriveIx) (r : RecIx) (q : Record) (data : List Byte) : State :=
  let t := (s.endOperation d).leaveChannel d
  match q.kind with
  | .fill | .prefetch =>
    if q.owner.isSome then
      t.requestBurst { kind := .delivery, drive := d, record := r, damaged := false }
    else t.freeRecord r
  | .stampRead => (t.freeRecord r).stampVerdict d (some data)
  | .writeback | .format => s

/-- A data field is read in READING (R96). -/
def State.fieldRead (d : DriveIx) (data : List Byte) (crc : BitVec 16) (s : State) : State :=
  let e := s.engine d
  match e.current with
  | none => s
  | some r =>
    match s.record? r with
    | none => s
    | some q =>
      if e.state = .reading then
        let t := s.takeField d q data
        if dataGood data crc then t.readDone d r q data else t.attemptFails d r .dataCrc
      else s

/-! ## Writing (R98, R99, R101) -/

/-- The data field of a write-back has been written: the gate is dropped, and the field is read back
where the binding asks for it (R98). -/
def State.fieldWritten (d : DriveIx) (s : State) : State :=
  let e := s.engine d
  match e.current with
  | none => s
  | some r =>
    match s.record? r with
    | none => s
    | some q =>
      if e.state = .writing then
        let field := writtenField (match q.buffer with
          | some b => s.buffer b
          | none => [])
        let t := { s with diskOut := some (.field d field) }.modEngine d fun e => { e with gate := false }
        if q.verify then
          t.modEngine d fun e => { e with state := .verifying, searchPulses := 0, idFound := false }
        else t.writeCompletes d r
      else s

/-- The write-fault line becomes active while the gate is raised: a write-back or a format fails with
cause WRITE-FAULT (R98, R129). -/
def State.writeFaulted (d : DriveIx) (s : State) : State :=
  let e := s.engine d
  match e.current with
  | none => s
  | some r =>
    if !e.gate then s
    else if e.state = .writing then s.writeFails d r .writeFault
    else if e.state = .formatting then s.formatFails d r .writeFault
    else s

/-- The read-back of a data field whose ID field has been found (R99). -/
def State.fieldVerified (d : DriveIx) (data : List Byte) (crc : BitVec 16) (s : State) : State :=
  let e := s.engine d
  match e.current with
  | none => s
  | some r =>
    if e.state = .verifying ∧ e.idFound then
      if dataGood data crc then s.writeCompletes d r else s.attemptFails d r .verify
    else s

/-! ## The commands -/

/-- ID_FIELD_READ (R93, R99). -/
def execIdFieldRead (d : DriveIx) (f : IdField) (s : State) : Host.Outcome State Fault Refusal :=
  .next ((s.perform (State.takeDue d)).perform (State.idField d f))

/-- DATA_MARK_NOT_FOUND (R121). -/
def execDataMarkNotFound (d : DriveIx) (s : State) : Host.Outcome State Fault Refusal :=
  .next (s.perform (State.markMissing d))

/-- DATA_FIELD_READ (R96). -/
def execDataFieldRead (d : DriveIx) (data : List Byte) (crc : BitVec 16) (s : State) :
    Host.Outcome State Fault Refusal :=
  .next (s.perform (State.fieldRead d (fit256 data) crc))

/-- DATA_FIELD_WRITTEN (R98). -/
def execDataFieldWritten (d : DriveIx) (s : State) : Host.Outcome State Fault Refusal :=
  .next (s.perform (State.fieldWritten d))

/-- WRITE_FAULT (R98, R129). -/
def execWriteFault (d : DriveIx) (s : State) : Host.Outcome State Fault Refusal :=
  .next (s.perform (State.writeFaulted d))

/-- VERIFY_READ (R99). -/
def execVerifyRead (d : DriveIx) (data : List Byte) (crc : BitVec 16) (s : State) :
    Host.Outcome State Fault Refusal :=
  .next (s.perform (State.fieldVerified d (fit256 data) crc))

end Sys2Proof.Machine
end

