-- ==== Sys2Proof/Machine/Supply.lean ====
section
/-! DEFINITION. Supply dips, the causes and the end of a reset, and power (chapter 10). -/

namespace Sys2Proof.Machine

open Sys2Proof

/-! ## Dips (R103, R156, R157) -/

/-- An engine whose operation or recalibration a dip cuts off: a recalibration leaves the cylinder
unknown, and an engine without an operation stops (R103). -/
def Engine.dipped (e : Engine) : Engine :=
  { e with
    cyl := if e.motion = .recal then none else e.cyl
    motion := .still
    gate := false
    state := if e.current.isNone then e.restState else e.state }

/-- DIP acts on the engine of drive `d`: its operation is returned to WAITING (R103). A dip that falls
between the second pulse of a search or a verify and its MISS or VERIFY_MISS returns the record with no
attempt counted for it (DESIGN CHOICE, log 3). -/
def State.dipEngine (s : State) (d : DriveIx) : State := (s.modEngine d Engine.dipped).returnRecord d

/-- The drives in the order in which a dip acts on them: those with an operation in the order of making
of their records, so that records freed by the dip are handed on in that order (R73), then the
others. -/
def State.dipOrder (s : State) : List DriveIx :=
  let busy := s.pool.order.filterMap fun r =>
    allDrives.find? fun d => decide ((s.engine d).current = some r)
  busy ++ allDrives.filter fun d => decide (d ∉ busy)

/-- DIP is set on all four engines (R156), and each stops its work (R103). The channel, its queue and the
buffer wait list are emptied first, so that no engine of the dip is handed what another lets go. A
copy-out that runs on without its record after a ready-line fall (R85, R137) is nobody's operation and
completes its words at a dip too, although the DIP row of R117 stops a running copy-out (DESIGN
CHOICE, log 15). -/
def State.setDip (s : State) : State :=
  s.dipOrder.foldl State.dipEngine
    { s with
      engines := s.engines.map fun e => { e with dip := true }
      chan := { owner := none, queue := [] }
      bufWait := [] }

/-- The supply-low line becomes active (R156, R158). A line that is active already cannot rise (log 2);
in a reset, and without main supply, only the level of the line changes (log 28). -/
def State.supplyFalls (s : State) : State :=
  if s.supplyLow then s
  else
    let t := { s with supplyLow := true }
    t.perform fun t =>
      ({ t with store := { t.store with dipTimer := some 0 } }.raise .supplyDip).setDip

/-- DIP is cleared on an engine (R157). -/
def Engine.undip (e : Engine) : Engine := { e with dip := false }

/-- The supply-low line returns while the dip timer runs: a short dip (R157). -/
def State.supplyReturns (s : State) : State :=
  match s.store.dipTimer with
  | none => s
  | some _ =>
    allDrives.foldl State.resume
      { s with
        supplyLow := false
        store := { s.store with dipTimer := none }
        engines := s.engines.map Engine.undip }

/-! ## The causes of a warm reset (R157, R158) -/

/-- The RESET line becomes active (R158): while a reset is in force it starts no second one, and without
main supply only the level of the line changes (log 28). -/
def State.resetLineActs (s : State) : State :=
  match s.power with
  | .off | .inReset _ _ => { s with resetLine := true }
  | .running => { s.warmReset .resetLine with resetLine := true }

/-- The dip timer reaches 2,000 ticks with the line still active: a long dip (R157). The ticks that are
lacking to 2,000 pass first (log 5). -/
def State.dipRunsOut (s : State) : State :=
  match s.store.dipTimer with
  | none => s
  | some n => (s.passTime (2000 - n)).warmReset .longDip

/-! ## The end of a reset (R158, R160) -/

/-- A drive that is ready at the end of a reset is treated as newly risen (R107, R131). -/
def State.riseIfReady (s : State) (d : DriveIx) : State :=
  if (s.engine d).ready then s.driveRisen d else s

/-- A cycle that was held off is decoded, and its answer is kept beside those before it (R20). -/
def State.heldCycle (s : State) (c : UpCycle) : State :=
  let t := s.upCycle c
  { t with heldAnswers := t.heldAnswers ++ t.answer.toList }

/-- Both lines are inactive and the reset ends: after a power-up the clocks begin at 0 (R1), the ready
drives rise in increasing number, OUTAGE-RECORDED is raised where it is called for, and the held
cycles are decoded and answered, one after another (R20, R158, R160). -/
def State.resetEnds (s : State) : State :=
  match s.power with
  | .off | .running => s
  | .inReset powerUp raised =>
    let t := { s with
      power := .running
      resetLine := false
      supplyLow := false
      clock := if powerUp then { tick := 0, coarse := 0, toCoarse := 0, due := Due.none }
               else s.clock
      engines := s.engines.map Engine.cleared
      heldCycles := []
      heldAnswers := [] }
    let t := (allDrives.foldl State.riseIfReady t).settle
    let t := if raised then t.raise .outageRecorded else t
    s.heldCycles.foldl State.heldCycle t

/-! ## Power (R160) -/

/-- Power is applied (R160): with the store kept valid by the standby supply it is a power-up, and
otherwise a cold start. What the clocks hold until the end of its reset is log 37's. -/
def State.powersUp (standbyKept : Bool) (s : State) : State :=
  let kept := standbyKept && s.store.valid
  let store := if kept then { s.store with cause := .powerUp }
    else { s.store with list := [], overflow := 0, valid := true, cause := .coldStart }
  { { s with store := store, heldCycles := [] }.cleared with
    power := .inReset true (kept && decide (s.store.list ≠ [])) }

/-- The main supply fails (R159): everything but the Outage Store is lost. `cut` names a warm-reset
recording that the failure cuts short; what it had not reached is neither appended nor counted. -/
def State.supplyFails (cut : Option (WarmCause × Nat)) (s : State) : State :=
  let store := match s.power, cut with
    | .running, some (cause, n) => s.recorded cause n
    | _, _ => s.store
  { { s with store := store, heldCycles := [] }.cleared with power := .off }

/-! ## The RESET command (R158) -/

/-- RESET is taken: the warm reset leaves the response buffer holding DONE (R158). -/
def State.linkReset (s : State) : State := (s.takeCommand 0x7F []).warmReset .resetCommand

/-! ## The commands -/

/-- RESET (R158). -/
def execReset (s : State) : Host.Outcome State Fault Refusal := .next (s.whileRunning State.linkReset)

/-- SUPPLY_DIP (R156). -/
def execSupplyDip (s : State) : Host.Outcome State Fault Refusal := .next s.supplyFalls

/-- SHORT_DIP (R157). -/
def execShortDip (s : State) : Host.Outcome State Fault Refusal := .next (s.perform State.supplyReturns)

/-- LONG_DIP (R157). -/
def execLongDip (s : State) : Host.Outcome State Fault Refusal := .next (s.whileRunning State.dipRunsOut)

/-- RESET_LINE (R158). -/
def execResetLine (s : State) : Host.Outcome State Fault Refusal := .next s.resetLineActs

/-- RESET_END (R158). -/
def execResetEnd (s : State) : Host.Outcome State Fault Refusal := .next s.resetEnds

/-- POWER_UP (R160). -/
def execPowerUp (standbyKept : Bool) (s : State) : Host.Outcome State Fault Refusal :=
  .next (s.powersUp standbyKept)

/-- MAIN_SUPPLY_FAILURE (R159). -/
def execMainSupplyFailure (cut : Option (WarmCause × Nat)) (s : State) :
    Host.Outcome State Fault Refusal :=
  .next (s.supplyFails cut)

end Sys2Proof.Machine
end

