-- ==== Sys2Proof/Machine/Settings.lean ====
section
/-! DEFINITION. The link commands on settings, events and the Outage List (chapters 9.1, 10.5, 11.5 to 11.7). -/

namespace Sys2Proof.Machine

open Sys2Proof

/-! ## SET SWEEP (R144, R168) -/

/-- A period as it is stored: 0 stands for 65,536 (R168). -/
def storedPeriod (n : Nat) : Nat := if n = 0 then 65536 else n

/-- The sweep timer at a SET SWEEP (R144). -/
def SweepTimer.set (period : Nat) (enable restart : Bool) (t : SweepTimer) : SweepTimer :=
  let t := { t with next := storedPeriod period }
  match t.enabled, enable with
  | false, false => t
  | false, true => { t with enabled := true, current := t.next, counter := 1 }
  | true, false => { t with enabled := false, counter := 1 }
  | true, true => if restart then { t with current := t.next, counter := 1 } else t

/-- SET SWEEP is taken. A sweep that is due and not yet made is suppressed by a disabling command and
replaced by a fresh period at a restart (R144). -/
def State.linkSetSweep (period : BitVec 16) (enable restart : Bool) (s : State) : State :=
  let t := s.takeCommand 0x40
    (bytes2 period.toNat ++ [byteOf (enable.toNat + 2 * restart.toNat)])
  { t with
    sweep := t.sweep.set period.toNat enable restart
    clock := { t.clock with
      due := { t.clock.due with sweep := t.clock.due.sweep && enable && !restart } } }.respond .done []

/-! ## SET LIMITS (R18, R146, R168) -/

/-- The defer limit as it is stored: 0 as 1, and a value above 32,767 as 32,767 (R18). -/
def storedDeferLimit (n : BitVec 16) : BitVec 16 := BitVec.ofNat 16 (clamp 1 32767 n.toNat)

/-- SET LIMITS is taken (R168). The new limits act from the next advance: what the latest one leaves to
judge by the old limits is judged first (R15, R146, log 3). -/
def State.linkSetLimits (deferLimit ageLimit : BitVec 16) (blank : Byte) (s : State) : State :=
  let t := s.judgeLimits.takeCommand 0x41 (bytes2 deferLimit.toNat ++ bytes2 ageLimit.toNat ++ [blank])
  { t with
    path := { t.path with deferLimit := storedDeferLimit deferLimit, blankByte := blank }
    ageLimit := ageLimit }.respond .done []

/-! ## Events (R170, R171, R172) -/

/-- READ EVENTS is taken: the reply carries the new read tag and the flags (R171). -/
def State.linkReadEvents (s : State) : State :=
  let t := { s.takeCommand 0x50 [] with events := s.events.read }
  t.respond .done t.events.bytes

/-- CLEAR EVENTS is taken: a tag that is not the read tag clears nothing (R172). -/
def State.linkClearEvents (tag : Byte) (mask : BitVec 24) (s : State) : State :=
  let t := s.takeCommand 0x51 (tag :: bytes3 mask.toNat)
  if tag = s.events.readTag then
    { t with events := t.events.clear (flagSet mask) }.respond .done []
  else t.respond .wrongState []

/-- SET ALERT MASK is taken (R170). -/
def State.linkSetAlertMask (mask : BitVec 24) (s : State) : State :=
  let t := s.takeCommand 0x52 (bytes3 mask.toNat)
  { t with events := t.events.setMask (flagSet mask) }.respond .done []

/-! ## CLEAR OUTAGE (R161) -/

/-- CLEAR OUTAGE is taken: the list is empty and the overflow count 0 (R161). -/
def State.linkClearOutage (s : State) : State :=
  let t := s.takeCommand 0x61 []
  { t with store := { t.store with list := [], overflow := 0 } }.respond .done []

/-! ## The commands -/

/-- SET_SWEEP (R144). -/
def execSetSweep (period : BitVec 16) (enable restart : Bool) (s : State) :
    Host.Outcome State Fault Refusal :=
  .next (s.whileRunning (State.linkSetSweep period enable restart))

/-- SET_LIMITS (R168). -/
def execSetLimits (deferLimit ageLimit : BitVec 16) (blank : Byte) (s : State) :
    Host.Outcome State Fault Refusal :=
  .next (s.whileRunning (State.linkSetLimits deferLimit ageLimit blank))

/-- READ_EVENTS (R171). -/
def execReadEvents (s : State) : Host.Outcome State Fault Refusal :=
  .next (s.whileRunning State.linkReadEvents)

/-- CLEAR_EVENTS (R172). -/
def execClearEvents (tag : Byte) (mask : BitVec 24) (s : State) : Host.Outcome State Fault Refusal :=
  .next (s.whileRunning (State.linkClearEvents tag mask))

/-- SET_ALERT_MASK (R170). -/
def execSetAlertMask (mask : BitVec 24) (s : State) : Host.Outcome State Fault Refusal :=
  .next (s.whileRunning (State.linkSetAlertMask mask))

/-- CLEAR_OUTAGE (R161). -/
def execClearOutage (s : State) : Host.Outcome State Fault Refusal :=
  .next (s.whileRunning State.linkClearOutage)

end Sys2Proof.Machine
end

