-- ==== Sys2Proof/Machine/Link.lean ====
section
/-! DEFINITION. Messages on the service link: write messages, their judgement, and read messages (chapter 11.1 to 11.3). -/

namespace Sys2Proof.Machine

open Sys2Proof

/-! ## Reading a message (R164, R165, R166) -/

/-- A value sent in two bytes, high byte first. -/
def word2 (high low : Byte) : BitVec 16 := high ++ low

/-- The binding record in twelve parameter bytes (R166). -/
def bindRecordOf? (bytes : List Byte) : Option BindRecord :=
  match bytes with
  | [p1, p0, count, drive, cylinder, side, sector, sides, options, w1, w0, readAhead] =>
    some { page := word2 p1 p0, count := count, drive := drive, cylinder := cylinder, side := side,
           sector := sector, sides := sides, options := options, writers := word2 w1 w0,
           readAhead := readAhead }
  | _ => none

/-- The parameters of FORMAT in 28 bytes: five, sixteen descriptors, and seven (R165). -/
def formatParamsOf? (bytes : List Byte) : Option FormatParams :=
  match bytes.take 5, (bytes.drop 5).take 16, bytes.drop 21 with
  | [drive, cylinder, side, interleave, fill], descriptors, [flags, v3, v2, v1, v0, sides, lastCyl] =>
    some { drive := drive, cylinder := cylinder, side := side, interleave := interleave, fill := fill,
           descriptors := descriptors, flags := flags, volumeId := v3 ++ v2 ++ v1 ++ v0,
           sides := sides, lastCyl := lastCyl }
  | _, _, _ => none

/-- The length that a command byte has in the table of R165; `none` for a byte that is not in it. -/
def commandLength (command : Byte) : Option Nat :=
  match command.toNat with
  | 0x01 => some 1
  | 0x10 => some 13
  | 0x11 => some 13
  | 0x12 => some 1
  | 0x13 => some 2
  | 0x14 => some 2
  | 0x20 => some 5
  | 0x21 => some 1
  | 0x30 => some 1
  | 0x31 => some 1
  | 0x32 => some 1
  | 0x33 => some 1
  | 0x34 => some 28
  | 0x35 => some 2
  | 0x38 => some 4
  | 0x40 => some 3
  | 0x41 => some 5
  | 0x50 => some 0
  | 0x51 => some 4
  | 0x52 => some 3
  | 0x60 => some 1
  | 0x61 => some 0
  | 0x7F => some 0
  | _ => none

/-- The command that a command byte and its parameters make (R165). -/
def commandOf? (command : Byte) (params : List Byte) : Option Instr :=
  match command.toNat, params with
  | 0x01, [part] => some (.status part)
  | 0x10, window :: rest => (bindRecordOf? rest).map (Instr.bind window)
  | 0x11, window :: rest => (bindRecordOf? rest).map (Instr.stage window)
  | 0x12, [window] => some (.force window)
  | 0x13, [window, options] =>
    some (if options.getLsbD 0 then .releaseDiscard window else .release window)
  | 0x14, [window, part] => some (.windowStates window part)
  | 0x20, [t1, t0, options, d1, d0] =>
    some (.secure (word2 t1 t0) (options.getLsbD 0) (word2 d1 d0))
  | 0x21, [slot] => some (.secureStatus slot)
  | 0x30, [drive] => some (.hold drive)
  | 0x31, [drive] => some (.run drive)
  | 0x32, [drive] => some (.adopt drive)
  | 0x33, [drive] => some (.retry drive)
  | 0x34, rest => (formatParamsOf? rest).map Instr.format
  | 0x35, [drive, part] => some (.readDrive drive part)
  | 0x38, [drive, step, retries, options] =>
    some (.setDrive drive step retries (options.getLsbD 0))
  | 0x40, [p1, p0, options] =>
    some (.setSweep (word2 p1 p0) (options.getLsbD 0) (options.getLsbD 1))
  | 0x41, [d1, d0, a1, a0, blank] => some (.setLimits (word2 d1 d0) (word2 a1 a0) blank)
  | 0x50, [] => some .readEvents
  | 0x51, [tag, m2, m1, m0] => some (.clearEvents tag (m2 ++ m1 ++ m0))
  | 0x52, [m2, m1, m0] => some (.setAlertMask (m2 ++ m1 ++ m0))
  | 0x60, [start] => some (.readOutage start)
  | 0x61, [] => some .clearOutage
  | 0x7F, [] => some .reset
  | _, _ => none

/-- The bytes of a write message that the 840 acknowledges and takes into its command buffer: the command
byte, a length byte of at most 32, and up to that many parameters (R162). -/
def takenBytes (bytes : List Byte) : List Byte :=
  match bytes with
  | [] => []
  | [command] => [command]
  | command :: n :: rest =>
    if 32 < n.toNat then [command] else command :: n :: rest.take n.toNat

/-- The judgement of a write message at its taking, steps 1 to 3 of R164: the command it carries, or the
result code that refuses it. -/
def linkCommand (bytes : List Byte) : Except Result Instr :=
  match takenBytes bytes with
  | command :: n :: params =>
    if params.length < n.toNat then .error .short
    else
      match commandLength command with
      | none => .error .unknownCommand
      | some m =>
        if n.toNat ≠ m then .error .badParam
        else
          match commandOf? command params with
          | some i => .ok i
          | none => .error .badParam
  | _ => .error .short

/-! ## Acting on a message -/

/-- The effect of a link command; the other commands do not come over the link. -/
def State.linkDo (s : State) : Instr → State
  | .status part => s.linkStatus part
  | .bind window record => s.linkBind window record
  | .stage window record => s.linkStage window record
  | .force window => s.linkForce window
  | .release window => s.linkRelease window
  | .releaseDiscard window => s.linkReleaseDiscard window
  | .windowStates window part => s.linkWindowStates window part
  | .secure target stampLast deadline => s.linkSecure target stampLast deadline
  | .secureStatus slot => s.linkSecureStatus slot
  | .hold drive => s.linkHold drive
  | .run drive => s.linkRun drive
  | .adopt drive => s.linkAdopt drive
  | .retry drive => s.linkRetry drive
  | .format params => s.linkFormat params
  | .readDrive drive part => s.linkReadDrive drive part
  | .setDrive drive stepMs retries halt => s.linkSetDrive drive stepMs retries halt
  | .setSweep period enable restart => s.linkSetSweep period enable restart
  | .setLimits deferLimit ageLimit blank => s.linkSetLimits deferLimit ageLimit blank
  | .readEvents => s.linkReadEvents
  | .clearEvents tag mask => s.linkClearEvents tag mask
  | .setAlertMask mask => s.linkSetAlertMask mask
  | .readOutage start => s.linkReadOutage start
  | .clearOutage => s.linkClearOutage
  | .reset => s.linkReset
  | .upstreamCycle _ => s
  | .burstWord => s
  | .coarseClockAdvance => s
  | .deferredRecordExpiry => s
  | .sweep => s
  | .agePromotion => s
  | .secureDeadline => s
  | .linkWriteMessage _ _ => s
  | .swap _ => s
  | .readyLineRise _ _ => s
  | .readyLineFall _ => s
  | .indexPulse _ _ => s
  | .speedFault _ => s
  | .indexLost _ => s
  | .headUnload _ => s
  | .stepPulse _ _ => s
  | .recalibrationEnd _ => s
  | .seekFault _ => s
  | .positioningEnd _ => s
  | .idFieldRead _ _ => s
  | .miss _ => s
  | .dataMarkNotFound _ => s
  | .dataFieldRead _ _ _ => s
  | .dataFieldWritten _ => s
  | .writeFault _ => s
  | .verifyRead _ _ _ => s
  | .verifyMiss _ => s
  | .supplyDip => s
  | .shortDip => s
  | .longDip => s
  | .resetLine => s
  | .resetEnd => s
  | .powerUp _ => s
  | .mainSupplyFailure _ => s

/-- The address byte is that of a write message to this 840: 58h plus the straps in the upper seven bits,
and 0 in the lowest (R162). -/
def State.addressed (s : State) (address : Byte) : Bool :=
  decide (address.toNat = 2 * (0x58 + s.strap.toNat))

/-- A write message is taken (R162, R164): the command buffer holds its bytes as they came. -/
def State.takeMessage (bytes : List Byte) (s : State) : State :=
  let t := match linkCommand bytes with
    | .ok i => s.linkDo i
    | .error r => s.respond r []
  { t with link := { t.link with command := takenBytes bytes } }

/-- A write message arrives; one to another address is ignored (R162). -/
def State.linkMessage (address : Byte) (bytes : List Byte) (s : State) : State :=
  if s.addressed address then (s.takeMessage bytes).perform id else s

/-- What a read message that clocks out `n` bytes is sent: the length m, the response, and FFh beyond it;
nothing where the 840 does not acknowledge its address (R162, R163, log 30). -/
def State.readMessage (s : State) (address : Byte) (n : Nat) : Option (List Byte) :=
  if s.power = .running ∧ address.toNat = 2 * (0x58 + s.strap.toNat) + 1 then
    some (padded n (byteOf s.link.response.length :: s.link.response))
  else none

/-! ## The command -/

/-- LINK_WRITE_MESSAGE (R164). -/
def execLinkWriteMessage (address : Byte) (bytes : List Byte) (s : State) :
    Host.Outcome State Fault Refusal :=
  .next (s.whileRunning (State.linkMessage address bytes))

end Sys2Proof.Machine
end

