-- ==== Sys2Proof/Machine/Idle.lean ====
section
/-! DEFINITION. What the 840 does by itself when no command is waiting: one tick of its clocks, and what has fallen due. -/

namespace Sys2Proof.Machine

open Sys2Proof

/-- The next thing that the engine of drive `d` does by itself once its time has come: a step, the end of
a recalibration or of a positioning, or a seek fault. A step of an idle tick finds the track-0 line at
the level it stands at. The seek fault is judged one step time after the 80th step (DESIGN CHOICE,
log 33). -/
def State.engineDue (s : State) (d : DriveIx) : State :=
  let e := s.engine d
  if e.wait ≠ 0 then s
  else if e.stepDue then State.stepPulse d e.track0 s
  else State.positioned d (State.recalibrated d (State.seekFails d s))

/-- Everything that has fallen due for drive `d` (log 3). -/
def State.driveDue (s : State) (d : DriveIx) : State := (State.takeDue d s).engineDue d

/-- A step with no command waiting (DESIGN CHOICE, log 1): what is due comes about, and one tick passes.
A reset ends once both lines are inactive; without main supply nothing happens. -/
def State.idle (s : State) : State :=
  match s.power with
  | .off => s
  | .inReset _ _ => if s.resetLine || s.supplyLow then s.passTime 1 else s.resetEnds
  | .running =>
    let t := s.judgeAll.settle
    if t.store.dipTimer = some 2000 then t.dipRunsOut
    else ((allDrives.foldl State.driveDue t).settle).passTime 1

end Sys2Proof.Machine
end

