-- ==== Sys2Proof/Machine/Dispatch.lean ====
section
/-! DEFINITION. The dispatch: each command to its meaning. -/

namespace Sys2Proof.Machine

open Sys2Proof

def exec (i : Instr) (s : State) : Host.Outcome State Fault Refusal :=
  match i with
  | .upstreamCycle cycle => Sys2Proof.Machine.execUpstreamCycle cycle s
  | .burstWord => Sys2Proof.Machine.execBurstWord s
  | .coarseClockAdvance => Sys2Proof.Machine.execCoarseClockAdvance s
  | .deferredRecordExpiry => Sys2Proof.Machine.execDeferredRecordExpiry s
  | .sweep => Sys2Proof.Machine.execSweep s
  | .agePromotion => Sys2Proof.Machine.execAgePromotion s
  | .secureDeadline => Sys2Proof.Machine.execSecureDeadline s
  | .linkWriteMessage address bytes => Sys2Proof.Machine.execLinkWriteMessage address bytes s
  | .status part => Sys2Proof.Machine.execStatus part s
  | .bind window record => Sys2Proof.Machine.execBind window record s
  | .stage window record => Sys2Proof.Machine.execStage window record s
  | .swap window => Sys2Proof.Machine.execSwap window s
  | .force window => Sys2Proof.Machine.execForce window s
  | .release window => Sys2Proof.Machine.execRelease window s
  | .releaseDiscard window => Sys2Proof.Machine.execReleaseDiscard window s
  | .windowStates window part => Sys2Proof.Machine.execWindowStates window part s
  | .secure target stampLast deadline => Sys2Proof.Machine.execSecure target stampLast deadline s
  | .secureStatus slot => Sys2Proof.Machine.execSecureStatus slot s
  | .hold drive => Sys2Proof.Machine.execHold drive s
  | .run drive => Sys2Proof.Machine.execRun drive s
  | .adopt drive => Sys2Proof.Machine.execAdopt drive s
  | .retry drive => Sys2Proof.Machine.execRetry drive s
  | .format params => Sys2Proof.Machine.execFormat params s
  | .readDrive drive part => Sys2Proof.Machine.execReadDrive drive part s
  | .setDrive drive stepMs retries halt => Sys2Proof.Machine.execSetDrive drive stepMs retries halt s
  | .setSweep period enable restart => Sys2Proof.Machine.execSetSweep period enable restart s
  | .setLimits deferLimit ageLimit blank => Sys2Proof.Machine.execSetLimits deferLimit ageLimit blank s
  | .readEvents => Sys2Proof.Machine.execReadEvents s
  | .clearEvents tag mask => Sys2Proof.Machine.execClearEvents tag mask s
  | .setAlertMask mask => Sys2Proof.Machine.execSetAlertMask mask s
  | .readOutage start => Sys2Proof.Machine.execReadOutage start s
  | .clearOutage => Sys2Proof.Machine.execClearOutage s
  | .reset => Sys2Proof.Machine.execReset s
  | .readyLineRise drive protect => Sys2Proof.Machine.execReadyLineRise drive protect s
  | .readyLineFall drive => Sys2Proof.Machine.execReadyLineFall drive s
  | .indexPulse drive elapsed => Sys2Proof.Machine.execIndexPulse drive elapsed s
  | .speedFault drive => Sys2Proof.Machine.execSpeedFault drive s
  | .indexLost drive => Sys2Proof.Machine.execIndexLost drive s
  | .headUnload drive => Sys2Proof.Machine.execHeadUnload drive s
  | .stepPulse drive track0 => Sys2Proof.Machine.execStepPulse drive track0 s
  | .recalibrationEnd drive => Sys2Proof.Machine.execRecalibrationEnd drive s
  | .seekFault drive => Sys2Proof.Machine.execSeekFault drive s
  | .positioningEnd drive => Sys2Proof.Machine.execPositioningEnd drive s
  | .idFieldRead drive field => Sys2Proof.Machine.execIdFieldRead drive field s
  | .miss drive => Sys2Proof.Machine.execMiss drive s
  | .dataMarkNotFound drive => Sys2Proof.Machine.execDataMarkNotFound drive s
  | .dataFieldRead drive data crc => Sys2Proof.Machine.execDataFieldRead drive data crc s
  | .dataFieldWritten drive => Sys2Proof.Machine.execDataFieldWritten drive s
  | .writeFault drive => Sys2Proof.Machine.execWriteFault drive s
  | .verifyRead drive data crc => Sys2Proof.Machine.execVerifyRead drive data crc s
  | .verifyMiss drive => Sys2Proof.Machine.execVerifyMiss drive s
  | .supplyDip => Sys2Proof.Machine.execSupplyDip s
  | .shortDip => Sys2Proof.Machine.execShortDip s
  | .longDip => Sys2Proof.Machine.execLongDip s
  | .resetLine => Sys2Proof.Machine.execResetLine s
  | .resetEnd => Sys2Proof.Machine.execResetEnd s
  | .powerUp standbyKept => Sys2Proof.Machine.execPowerUp standbyKept s
  | .mainSupplyFailure cut => Sys2Proof.Machine.execMainSupplyFailure cut s

end Sys2Proof.Machine
end

