-- ==== Sys2Proof/WellFormed.lean ====
section
/-! DEFINITION. Which commands are well formed: the operand lengths that the types leave open. -/

namespace Sys2Proof

/-- An operand that the spec fixes the length or form of has that length or form:
a data field carries 256 bytes (R121), FORMAT carries sixteen descriptors (R165), and the address
byte of a write message has its lowest bit 0 (R162). -/
def Instr.WellFormed : Instr → Bool
  | .dataFieldRead _ data _ => data.length == 256
  | .verifyRead _ data _ => data.length == 256
  | .format p => p.descriptors.length == 16
  | .linkWriteMessage address _ => address.getLsbD 0 == false
  | .upstreamCycle _ => true
  | .burstWord => true
  | .coarseClockAdvance => true
  | .deferredRecordExpiry => true
  | .sweep => true
  | .agePromotion => true
  | .secureDeadline => true
  | .status _ => true
  | .bind _ _ => true
  | .stage _ _ => true
  | .swap _ => true
  | .force _ => true
  | .release _ => true
  | .releaseDiscard _ => true
  | .windowStates _ _ => true
  | .secure _ _ _ => true
  | .secureStatus _ => true
  | .hold _ => true
  | .run _ => true
  | .adopt _ => true
  | .retry _ => true
  | .readDrive _ _ => true
  | .setDrive _ _ _ _ => true
  | .setSweep _ _ _ => true
  | .setLimits _ _ _ => true
  | .readEvents => true
  | .clearEvents _ _ => true
  | .setAlertMask _ => true
  | .readOutage _ => true
  | .clearOutage => true
  | .reset => true
  | .readyLineRise _ _ => true
  | .readyLineFall _ => true
  | .indexPulse _ _ => true
  | .speedFault _ => true
  | .indexLost _ => true
  | .headUnload _ => true
  | .stepPulse _ _ => true
  | .recalibrationEnd _ => true
  | .seekFault _ => true
  | .positioningEnd _ => true
  | .idFieldRead _ _ => true
  | .miss _ => true
  | .dataMarkNotFound _ => true
  | .dataFieldWritten _ => true
  | .writeFault _ => true
  | .verifyMiss _ => true
  | .supplyDip => true
  | .shortDip => true
  | .longDip => true
  | .resetLine => true
  | .resetEnd => true
  | .powerUp _ => true
  | .mainSupplyFailure _ => true

end Sys2Proof
end

