-- ==== Sys2Proof/Safety.lean ====
section
/-! DEFINITION. The terms that statements about the 840 are written in: well-formedness, ranges, agreement of counts, and frames. -/

namespace Sys2Proof.Machine

open Sys2Proof

/-! ## Frames -/

/-- The part of the state that the inner work of the part (records, bursts requested, entries, engines,
swaps and choices) never changes. -/
structure Steady where
  pending     : List Instr
  power       : Power
  resetLine   : Bool
  supplyLow   : Bool
  strap       : BitVec 2
  clock       : Clock
  memory      : Memory
  answer      : Option Reply
  heldCycles  : List UpCycle
  heldAnswers : List Reply
  lastRefusal : Option RefusalRecord
  lastExpiry  : Option ExpiryRecord
  deferLimit  : BitVec 16
  blankByte   : Byte
  lastDiscard : Option DiscardRecord
  buffers     : Vector (List Byte) 4
  sweep       : SweepTimer
  ageLimit    : BitVec 16
  link        : LinkPort
  store       : Store
  diskOut     : Option DiskOut
  deriving DecidableEq, Repr

/-- The steady part of a state. -/
def State.steady (s : State) : Steady :=
  { pending := s.pending, power := s.power, resetLine := s.resetLine, supplyLow := s.supplyLow,
    strap := s.strap, clock := s.clock, memory := s.memory, answer := s.answer,
    heldCycles := s.heldCycles, heldAnswers := s.heldAnswers, lastRefusal := s.path.lastRefusal,
    lastExpiry := s.path.lastExpiry,
    deferLimit := s.path.deferLimit, blankByte := s.path.blankByte, lastDiscard := s.lastDiscard,
    buffers := s.buffers, sweep := s.sweep, ageLimit := s.ageLimit, link := s.link, store := s.store,
    diskOut := s.diskOut }

/-- Nothing is waiting to follow at once: no STAGED window is quiet and no engine has a choice to make
(R31, R76). -/
def State.settled (s : State) : Bool := s.nextSwap?.isNone && s.nextChoice?.isNone

/-- The port's turn has been given to an upstream cycle: a burst that is running takes the next (R19). -/
def State.owing (t : State) : State :=
  { t with bursts := { t.bursts with owed := t.bursts.running.isSome } }

/-- From `s` to `t` the dip timer has run out among the ticks that a command let pass: the warm reset of a
long dip is in force, `raised` saying whether its recording found a dirty entry (R157, R158). -/
def State.longDipTo (s t : State) (raised : Bool) : Prop :=
  s.power = .running ∧ s.store.dipTimer ≠ none ∧ t.power = .inReset false raised ∧
    t.store.cause = .longDip

/-- A flag of the Event Unit is set, and its set-again bit with it. -/
def EventUnit.raised (u : EventUnit) (e : Event) : Bool :=
  u.flags.getLsbD e.number && u.again.getLsbD e.number

/-- The response buffer's bytes for a refused command: the result code alone (R164). -/
def State.refusedWith (s : State) (command : List Byte) (r : Result) : State :=
  { s with link := { command := command, response := [r.code] } }

/-- `n` ticks can pass without an advance of the coarse clock, an index lost or a long dip (R1, R89, R157). -/
def State.calm (s : State) (n : Nat) : Bool :=
  decide (s.clock.toCoarse + n < 10000) && (s.longDipIn? n).isNone &&
    allDrives.all fun d => (s.engine d).lostTimer.all fun t => decide (t + n < 36800)

/-! ## Memory accesses (R2) -/

/-- Memory after an access at a 20-bit address: a word lies at the even address below it, its high byte
first (log 7). -/
def memoryAfter (m : Memory) (addr : Nat) : Access → Memory
  | .readByte | .readWord => m
  | .writeByte v => m.write addr v
  | .writeWord v =>
    (m.write (addr / 2 * 2) (v.extractLsb' 8 8)).write (addr / 2 * 2 + 1) (v.extractLsb' 0 8)

/-- What memory answers to an access at a 20-bit address. -/
def memoryData (m : Memory) (addr : Nat) : Access → Option ReadData
  | .readByte => some (.byte (m.read addr))
  | .readWord => some (.word (m.read (addr / 2 * 2) ++ m.read (addr / 2 * 2 + 1)))
  | .writeByte _ | .writeWord _ => none

/-- The Deferred-Cycle List without the tag's record for sector `x` (R14). -/
def Path.without (p : Path) (tag : Tag) (x : SectorRef) : Path :=
  if (p.deferred[tag]).map DeferRecord.ref = some x then { p with deferred := p.deferred.set tag none }
  else p

/-- The Deferred-Cycle List after a DEFER of the tag on sector `x` (R13). -/
def Path.waiting (p : Path) (tag : Tag) (x : SectorRef) (now : Coarse) : Path :=
  if (p.deferred[tag]).map DeferRecord.ref = some x then p
  else { p with deferred := p.deferred.set tag (some { ref := x, first := now }) }

/-- The tag's record names sector `x` and its age has not reached the defer limit, or there is no such
record (R16). -/
def Path.inTime (p : Path) (tag : Tag) (x : SectorRef) (now : Coarse) : Bool :=
  match p.deferred[tag] with
  | some q => decide (q.ref ≠ x) || decide (since now q.first < p.deferLimit.toNat)
  | none => true

/-- The states in which memory holds the sector's image (R7). -/
def SectorState.isPresent : SectorState → Bool
  | .clean | .dirty | .copying | .writing | .redirty | .stranded | .unwritten => true
  | .absent | .queued | .filling | .failed => false

/-- The states in which the sector is not in memory yet (R7). -/
def SectorState.isAwaited : SectorState → Bool
  | .absent | .queued | .filling => true
  | .clean | .dirty | .copying | .writing | .redirty | .stranded | .unwritten | .failed => false

/-- An upstream cycle that is decoded at once and lies in sector `x` of a current binding: no burst is owed
the turn, and the latest advance has no expiry left to judge. -/
structure State.Lands (s : State) (c : UpCycle) (x : SectorRef) (b : Binding) (e : Entry) : Prop where
  running : s.power = .running
  turn    : s.bursts.owed = false
  judged  : s.clock.due.expiry = false
  place   : s.locate c.addr.toNat = some x
  current : s.binding? x.win = some b
  entry   : s.entry? x = some e

/-- The port's turn before an upstream cycle: `t` is `s` itself, or `s` after one more word of a running burst
that is owed the turn (R19). -/
def State.turnTaken (s t : State) : Prop :=
  (s.bursts.owed = false ∧ t = s) ∨
  (s.bursts.owed = true ∧ s.bursts.running ≠ none ∧ exec .burstWord s = .next t)

/-! ## Well-formed entries and windows (R22, R40) -/

/-- Each field of a sector entry is present exactly in the states its row of R40 names. -/
def Entry.wf (e : Entry) : Bool :=
  decide (e.dirtySince.isSome = e.state.isDirty)
    && decide (e.redirtySince.isSome = decide (e.state = .redirty))
    && decide (e.cause.isSome = (decide (e.state = .failed) || decide (e.state = .unwritten)))
    && (e.state.marked || decide (e.marks = 0))
    && (e.state.isDirty || !e.urgent)
    && (e.state.isPresent || !e.damaged)
    && decide (e.late &&& ~~~e.marks = 0)
    && (decide (e.state = .writing) || decide (e.state = .redirty) || decide (e.late = 0))

/-- A stored binding lies in the ranges of R22, and its run in the disk (R23). -/
def Binding.wf (b : Binding) : Bool :=
  decide (1 ≤ b.count) && decide (b.count ≤ 64) && decide (b.base + 256 * b.count ≤ memorySize)
    && decide (b.cylinder ≤ 76) && decide (b.side ≤ 1) && decide (b.sector ≤ 15)
    && (decide (b.sides = 1) || decide (b.sides = 2)) && decide ((b.diskAddr (b.count - 1)).cylinder ≤ 76)
    && decide (b.readAhead ≤ 7)
    && decide (b.stampBound = decide (b.cylinder = 0 ∧ b.side = 0 ∧ b.sector = 0))

/-- The entries of a binding: one for each sector index, with the disk address of R23, each well formed. -/
def entriesWf (b : Binding) (es : List Entry) : Bool :=
  b.wf && decide (es.map Entry.addr = b.run) && es.all Entry.wf

/-- A well-formed window entry (R21, R22, R26, R40). -/
def Window.wf : Window → Bool
  | .unbound => true
  | .bound b es => entriesWf b es
  | .staged b none es => entriesWf b es
  | .staged b (some n) es => entriesWf b es && n.wf

/-- Every window is well formed. -/
def State.windowsWf (s : State) : Bool := allWindows.all fun w => (s.window w).wf

/-- Bindings of different windows, current or staged, share no memory address and no disk sector (R24). -/
def State.windowsApart (s : State) : Bool :=
  allWindows.all fun v => allWindows.all fun w => decide (v = w) ||
    (s.window v).bindings.all fun b => (s.window w).bindings.all fun c =>
      !b.overlaps c && !b.sharesSector c

/-! ## Secure counts (R148) -/

/-- The number of sector entries that carry the mark of slot `k`. -/
def State.markCount (s : State) (k : SlotIx) : Nat :=
  (s.allRefs.filter fun x => match s.entry? x with
    | some e => e.marks.getLsbD k.val
    | none => false).length

/-- Every ACTIVE slot's remaining count is the number of entries that carry its mark, and no entry carries
the mark of a slot that is not ACTIVE (R148). -/
def State.marksAgree (s : State) : Bool :=
  allSlots.all fun k =>
    if (s.slot k).state = .active then decide ((s.slot k).remaining = s.markCount k)
    else decide (s.markCount k = 0)

/-! ## Ranges -/

/-- The counts and settings of an engine lie in the ranges of R83 and R106, and the engine is NOT-READY
exactly while DOOR is in its hold set (R83). -/
def Engine.inRange (e : Engine) : Bool :=
  decide (15000 ≤ e.period) && decide (e.period ≤ 18400) && decide (3 ≤ e.stepMs)
    && decide (e.stepMs ≤ 15) && decide (1 ≤ e.retries) && decide (e.retries ≤ 8) && decide (e.bad ≤ 3)
    && decide (e.idle ≤ 8) && (decide (e.state = .notReady) == e.door)

/-- The settings of the Memory Path and the sweep timer, the Outage Store's counts, the dip timer, the
response length and the ticks since the latest coarse advance lie in the ranges of R1, R18, R143, R157,
R159 and R163. -/
def State.settingsInRange (s : State) : Bool :=
  decide (1 ≤ s.path.deferLimit.toNat) && decide (s.path.deferLimit.toNat ≤ 32767)
    && decide (1 ≤ s.sweep.current) && decide (s.sweep.current ≤ 65536)
    && decide (1 ≤ s.sweep.next) && decide (s.sweep.next ≤ 65536)
    && decide (1 ≤ s.sweep.counter) && decide (s.sweep.counter ≤ s.sweep.current)
    && (s.sweep.enabled || decide (s.sweep.counter = 1))
    && decide (s.store.list.length ≤ 32) && decide (s.store.overflow ≤ 255)
    && s.store.dipTimer.all (fun n => decide (n ≤ 2000))
    && decide (1 ≤ s.link.response.length) && decide (s.link.response.length ≤ 32)
    && decide (s.clock.toCoarse < 10000)

/-- Every range holds. -/
def State.inRange (s : State) : Bool :=
  s.settingsInRange && allDrives.all fun d => (s.engine d).inRange

/-! ## The pool hands out each thing once -/

/-- No two records hold the same buffer (R108), no entry is twice on the Backlog List (R72), and no drive
twice among the stamp waits (R70). -/
def State.handedOnce (s : State) : Bool :=
  (allRecords.all fun r => allRecords.all fun q => decide (r = q) ||
    (match s.record? r, s.record? q with
     | some a, some b => a.buffer.isNone || decide (a.buffer ≠ b.buffer)
     | _, _ => true))
  && decide s.pool.backlog.Nodup && decide s.pool.stampWaits.Nodup

end Sys2Proof.Machine

namespace Sys2Proof

open Sys2Proof.Machine

/-! ## Which commands may do what -/

/-- The commands by which a sector entry may leave the dirty states (R43): a completed write-back, a
discard, a reset, and a message that may carry one of these. A long dip among the ticks of any command is
such a reset too (`State.longDipTo`). -/
def Instr.mayEndDirty : Instr → Bool
  | .dataFieldWritten _ | .verifyRead _ _ _ | .force _ | .releaseDiscard _ | .linkWriteMessage _ _
  | .reset | .resetLine | .longDip | .powerUp _ | .mainSupplyFailure _ => true
  | .upstreamCycle _ | .burstWord | .coarseClockAdvance | .deferredRecordExpiry | .sweep
  | .agePromotion | .secureDeadline | .status _ | .bind _ _ | .stage _ _ | .swap _ | .release _
  | .windowStates _ _ | .secure _ _ _ | .secureStatus _ | .hold _ | .run _ | .adopt _ | .retry _
  | .format _ | .readDrive _ _ | .setDrive _ _ _ _ | .setSweep _ _ _ | .setLimits _ _ _ | .readEvents
  | .clearEvents _ _ | .setAlertMask _ | .readOutage _ | .clearOutage | .readyLineRise _ _
  | .readyLineFall _ | .indexPulse _ _ | .speedFault _ | .indexLost _ | .headUnload _ | .stepPulse _ _
  | .recalibrationEnd _ | .seekFault _ | .positioningEnd _ | .idFieldRead _ _ | .miss _
  | .dataMarkNotFound _ | .dataFieldRead _ _ _ | .writeFault _ | .verifyMiss _ | .supplyDip | .shortDip
  | .resetEnd => false

/-- The commands that may clear an event flag (R169, R172): CLEAR EVENTS, resets, and a message that may
carry one of these. A long dip among the ticks of any command is such a reset too (`State.longDipTo`). -/
def Instr.mayClearFlags : Instr → Bool
  | .clearEvents _ _ | .linkWriteMessage _ _ | .reset | .resetLine | .longDip | .powerUp _
  | .mainSupplyFailure _ => true
  | .upstreamCycle _ | .burstWord | .coarseClockAdvance | .deferredRecordExpiry | .sweep
  | .agePromotion | .secureDeadline | .status _ | .bind _ _ | .stage _ _ | .swap _ | .force _
  | .release _ | .releaseDiscard _ | .windowStates _ _ | .secure _ _ _ | .secureStatus _ | .hold _
  | .run _ | .adopt _ | .retry _ | .format _ | .readDrive _ _ | .setDrive _ _ _ _ | .setSweep _ _ _
  | .setLimits _ _ _ | .readEvents | .setAlertMask _ | .readOutage _ | .clearOutage
  | .readyLineRise _ _ | .readyLineFall _ | .indexPulse _ _ | .speedFault _ | .indexLost _
  | .headUnload _ | .stepPulse _ _ | .recalibrationEnd _ | .seekFault _ | .positioningEnd _
  | .idFieldRead _ _ | .miss _ | .dataMarkNotFound _ | .dataFieldRead _ _ _ | .dataFieldWritten _
  | .writeFault _ | .verifyRead _ _ _ | .verifyMiss _ | .supplyDip | .shortDip | .resetEnd => false

/-- The commands that may write main memory: an upstream cycle, a word of a burst, and the end of a reset
that has held cycles off (R2, R20, R114). -/
def Instr.mayWriteMemory : Instr → Bool
  | .upstreamCycle _ | .burstWord | .resetEnd => true
  | .coarseClockAdvance | .deferredRecordExpiry | .sweep | .agePromotion | .secureDeadline
  | .linkWriteMessage _ _ | .status _ | .bind _ _ | .stage _ _ | .swap _ | .force _ | .release _
  | .releaseDiscard _ | .windowStates _ _ | .secure _ _ _ | .secureStatus _ | .hold _ | .run _
  | .adopt _ | .retry _ | .format _ | .readDrive _ _ | .setDrive _ _ _ _ | .setSweep _ _ _
  | .setLimits _ _ _ | .readEvents | .clearEvents _ _ | .setAlertMask _ | .readOutage _ | .clearOutage
  | .reset | .readyLineRise _ _ | .readyLineFall _ | .indexPulse _ _ | .speedFault _ | .indexLost _
  | .headUnload _ | .stepPulse _ _ | .recalibrationEnd _ | .seekFault _ | .positioningEnd _
  | .idFieldRead _ _ | .miss _ | .dataMarkNotFound _ | .dataFieldRead _ _ _ | .dataFieldWritten _
  | .writeFault _ | .verifyRead _ _ _ | .verifyMiss _ | .supplyDip | .shortDip | .longDip | .resetLine
  | .powerUp _ | .mainSupplyFailure _ => false

/-! ## Link messages as they are sent (R162, R165, R166) -/

/-- The command byte, length byte and parameter bytes of a link command; other commands are not sent over
the link. Option bits that R165 does not name are sent as 0. -/
def Instr.linkBytes? : Instr → Option (List Byte)
  | .status part => some [0x01, 1, part]
  | .bind window record => some (0x10 :: 13 :: window :: bindRecordBytes record)
  | .stage window record => some (0x11 :: 13 :: window :: bindRecordBytes record)
  | .force window => some [0x12, 1, window]
  | .release window => some [0x13, 2, window, 0]
  | .releaseDiscard window => some [0x13, 2, window, 1]
  | .windowStates window part => some [0x14, 2, window, part]
  | .secure target stampLast deadline =>
    some ([0x20, 5] ++ bytes2 target.toNat ++ [flagByte stampLast] ++ bytes2 deadline.toNat)
  | .secureStatus slot => some [0x21, 1, slot]
  | .hold drive => some [0x30, 1, drive]
  | .run drive => some [0x31, 1, drive]
  | .adopt drive => some [0x32, 1, drive]
  | .retry drive => some [0x33, 1, drive]
  | .format params => some (0x34 :: 28 :: formatParamBytes params)
  | .readDrive drive part => some [0x35, 2, drive, part]
  | .setDrive drive stepMs retries halt => some [0x38, 4, drive, stepMs, retries, flagByte halt]
  | .setSweep period enable restart =>
    some ([0x40, 3] ++ bytes2 period.toNat ++ [byteOf (enable.toNat + 2 * restart.toNat)])
  | .setLimits deferLimit ageLimit blank =>
    some ([0x41, 5] ++ bytes2 deferLimit.toNat ++ bytes2 ageLimit.toNat ++ [blank])
  | .readEvents => some [0x50, 0]
  | .clearEvents tag mask => some ([0x51, 4, tag] ++ bytes3 mask.toNat)
  | .setAlertMask mask => some ([0x52, 3] ++ bytes3 mask.toNat)
  | .readOutage start => some [0x60, 1, start]
  | .clearOutage => some [0x61, 0]
  | .reset => some [0x7F, 0]
  | .upstreamCycle _ | .burstWord | .coarseClockAdvance | .deferredRecordExpiry | .sweep
  | .agePromotion | .secureDeadline | .linkWriteMessage _ _ | .swap _ | .readyLineRise _ _
  | .readyLineFall _ | .indexPulse _ _ | .speedFault _ | .indexLost _ | .headUnload _ | .stepPulse _ _
  | .recalibrationEnd _ | .seekFault _ | .positioningEnd _ | .idFieldRead _ _ | .miss _
  | .dataMarkNotFound _ | .dataFieldRead _ _ _ | .dataFieldWritten _ | .writeFault _
  | .verifyRead _ _ _ | .verifyMiss _ | .supplyDip | .shortDip | .longDip | .resetLine | .resetEnd
  | .powerUp _ | .mainSupplyFailure _ => none

end Sys2Proof
end

