-- ==== Sys2Proof/Certificates/Slice0/Obligations.lean ====
section
/-! DEFINITION. The statements for the provers: what the commands of the 840 do, and what every step keeps. -/

section

open Sys2Proof Sys2Proof.Machine

/-! ## The step and the whole machine -/

/-- A step runs the command at the front of the queue on the state with the queue's rest; with no command
waiting it is one idle step (log 1). Both are the model's. -/
def Obligations.StepRunsFrontCommand : Prop :=
  (∀ (c : Instr) (rest : List Instr) (s : State), s.pending = c :: rest →
    step s = exec c { s with pending := rest }) ∧
  (∀ s : State, s.pending = [] → step s = .next s.idle)

/-- Every command answers a next state, and no command touches the queue of commands that wait. The queue is
the model's (log 1), and so is it that a command completes where it has nothing to do (log 2), in a reset
and without main supply (log 28). -/
def Obligations.CommandsCompleteAndLeaveQueue : Prop :=
  ∀ (c : Instr) (s : State), ∃ t, exec c s = .next t ∧ t.pending = s.pending

/-- The values that the spec gives after a cold start (R20, R38, R82, R107, R118, R131, R143, R146, R148,
R160, R163, R169, R170, R171), no drive being ready (log 8). -/
def Obligations.ResetValues : Prop :=
  (∀ tag : Tag, State.reset.path.deferred[tag] = none) ∧
  State.reset.path.lastRefusal = none ∧ State.reset.path.lastExpiry = none ∧
  State.reset.path.deferLimit = 30 ∧ State.reset.path.blankByte = 0x20 ∧
  (∀ w, State.reset.window w = .unbound) ∧ State.reset.lastDiscard = none ∧
  (∀ r, State.reset.record? r = none) ∧ State.reset.pool.backlog = [] ∧ State.reset.pool.stampWaits = [] ∧
  (∀ d, (State.reset.engine d).state = .notReady ∧ (State.reset.engine d).door = true ∧
    (State.reset.engine d).link = false ∧ (State.reset.engine d).fault = false ∧
    (State.reset.engine d).dip = false ∧ (State.reset.engine d).cyl = none ∧
    (State.reset.engine d).loaded = false ∧ (State.reset.engine d).period = 16667 ∧
    (State.reset.engine d).lastFault = none ∧ (State.reset.engine d).stepMs = 8 ∧
    (State.reset.engine d).retries = 4 ∧ (State.reset.engine d).halt = false) ∧
  State.reset.bufWait = [] ∧ State.reset.chan.owner = none ∧ State.reset.chan.queue = [] ∧
  State.reset.bursts.running = none ∧ State.reset.bursts.queue = [] ∧
  (∀ d, (State.reset.volume d).state = .empty ∧ (State.reset.volume d).outcome = .none ∧
    (State.reset.volume d).present = none ∧ (State.reset.volume d).boundId = none ∧
    (State.reset.volume d).protect = false ∧ (State.reset.volume d).changed = false ∧
    (State.reset.volume d).lastRemoval = none ∧ (State.reset.volume d).lastFormat = none) ∧
  State.reset.sweep.enabled = true ∧ State.reset.sweep.current = 600 ∧ State.reset.sweep.next = 600 ∧
  State.reset.sweep.counter = 1 ∧ State.reset.ageLimit = 1200 ∧
  (∀ k, (State.reset.slot k).state = .free) ∧
  State.reset.events.flags = 0 ∧ State.reset.events.again = 0 ∧ State.reset.events.mask = 0 ∧
  State.reset.events.readTag = 0 ∧ State.reset.alertLow = false ∧
  State.reset.link.response = [0x00] ∧
  State.reset.store.list = [] ∧ State.reset.store.overflow = 0 ∧ State.reset.store.valid = true ∧
  State.reset.store.cause = .coldStart ∧ State.reset.store.dipTimer = none ∧
  State.reset.clock.tick = 0 ∧ State.reset.clock.coarse = 0

/-- What follows a command at once (swaps and Scheduler choices) leaves the steady part of the state, the
alert mask and the read tag alone, clears no event flag, keeps every BOUND window bound as it was, and keeps
every dirty entry dirty; on a settled state it is nothing at all. The engine that makes the next choice is
the lowest that is IDLE with an empty hold set, no operation, a known cylinder and an eligible record on its
list; the record it takes is eligible, no eligible record of the list comes before it by class, cost,
cylinder, side and logical sector, and of equal ones it is nearest the head (R75, R76, R80). The record is
taken by R91: a write-back to a protected volume, and an operation on a side that the volume does not
record, end as failures; a FORMAT positions without a buffer; any other record takes the lowest free buffer
and positions, its fill's entry FILLING or its copy-out requested, or its engine waits for a buffer at the
end of the list. That choices follow all swaps, the lowest drive first and all requests of a command before
any choice, is the model's (log 4). -/
def Obligations.SettleKeepsSteadyPart : Prop :=
  (∀ s : State, s.settle.steady = s.steady ∧
    s.settle.events.flags &&& s.events.flags = s.events.flags ∧
    s.settle.events.mask = s.events.mask ∧ s.settle.events.readTag = s.events.readTag ∧
    (∀ w b es, s.window w = .bound b es →
      ∃ es', s.settle.window w = .bound b es' ∧ es'.length = es.length) ∧
    (∀ x e, s.entry? x = some e → e.state.isDirty →
      ∃ e', s.settle.entry? x = some e' ∧ e'.state.isDirty ∧ e'.addr = e.addr)) ∧
  (∀ s : State, s.settled → s.settle = s) ∧
  (∀ (s : State) (d : DriveIx) (r : RecIx), s.nextChoice? = some (d, r) →
    let key (q : Record) : List Nat := [q.urgency.code, (s.engine d).cost (s.volume d) s.clock.tick q,
      q.cylinder, q.side, q.sector.getD 0]
    (s.nextSwap? = none → s.settleOne = some (s.takeChoice d r)) ∧
    (s.engine d).state = .idle ∧ (s.engine d).door = false ∧ (s.engine d).link = false ∧
    (s.engine d).fault = false ∧ (s.engine d).dip = false ∧ (s.engine d).current = none ∧
    (s.engine d).cyl ≠ none ∧
    (∀ d', d' < d → (s.engine d').mayChoose = true → ∀ r' ∈ s.driveList d', ∀ q',
      s.record? r' = some q' → s.eligible d' r' q' = false) ∧
    ∃ q pre post, s.record? r = some q ∧ q.drive = d ∧ s.eligible d r q = true ∧
      s.driveList d = pre ++ r :: post ∧
      (∀ r' ∈ pre, ∀ q', s.record? r' = some q' → s.eligible d r' q' = true → key q < key q') ∧
      (∀ r' ∈ post, ∀ q', s.record? r' = some q' → s.eligible d r' q' = true → ¬ key q' < key q)) ∧
  (∀ (s : State) (d : DriveIx) (r : RecIx) (q : Record), s.record? r = some q →
    let u := s.takeChoice d r
    let protectedWrite := q.kind = .writeback ∧ (s.volume d).protect = true
    let noSide := q.kind ∈ [Kind.fill, .prefetch, .writeback] ∧ q.side = 1 ∧
      (s.volume d).present.map Stamp.sides = some 1
    (protectedWrite → (u.engine d).current = none ∧
      ∀ x e, q.owner = some x → s.entry? x = some e → e.state.inWriteback →
        u.events.raised .protect ∧ u.entry? x = some { e with
          state := .unwritten, redirtySince := none, cause := some .protect, marks := 0, late := 0 }) ∧
    (¬protectedWrite → noSide → (u.engine d).current = none ∧
      ∀ x e, q.owner = some x → s.entry? x = some e →
        (q.kind = .writeback → e.state.inWriteback → u.events.raised .writeFailed ∧
          u.entry? x = some { e with
            state := .unwritten, redirtySince := none, cause := some .noSide, marks := 0, late := 0 }) ∧
        (q.kind ≠ .writeback → e.state = .queued → u.events.raised .fillFailed ∧
          u.entry? x = some { e with state := .failed, cause := some .noSide })) ∧
    (¬protectedWrite → ¬noSide →
      (u.engine d).current = some r ∧ (u.engine d).dataHeld = false ∧
      (q.kind = .format → (u.engine d).state = .positioning ∧ u.bufWait = s.bufWait ∧
        u.record? r = some { q with phase := .selected }) ∧
      (q.kind ≠ .format → s.freeBuffer? = none → (u.engine d).state = .waitBuffer ∧
        u.bufWait = s.bufWait ++ [d] ∧ u.record? r = some { q with phase := .selected }) ∧
      (∀ b, q.kind ≠ .format → s.freeBuffer? = some b → (u.engine d).state = .positioning ∧
        u.bufWait = s.bufWait ∧
        u.record? r = some { q with phase := .selected, buffer := some b, copied := false } ∧
        (∀ x e, (q.kind = .fill ∨ q.kind = .prefetch) → q.owner = some x → s.entry? x = some e →
          e.state = .queued → u.entry? x = some { e with state := .filling }) ∧
        (∀ x w, q.kind = .writeback → q.owner = some x → s.binding? x.win = some w →
          s.bursts.running = none → s.bursts.queue = [] → s.bursts.behind = [] →
          u.bursts.running = some
            { kind := .copyOut, drive := d, base := 256 * w.page + 256 * x.idx, record := some r,
              served := none, buffer := some b, damaged := false, words := 0, fill := 0 })) ∧
      ((u.engine d).state = .positioning →
        (u.engine d).motion = .seeking ∧ (u.engine d).target = q.cylinder ∧ (u.engine d).side = q.side ∧
        (u.engine d).stepTicks = (s.engine d).stepMs * 100 ∧
        (∀ c, (s.engine d).cyl = some c → c ≠ q.cylinder → (u.engine d).inward = decide (c < q.cylinder)) ∧
        ((s.engine d).cyl = some q.cylinder → (u.engine d).inward = (s.engine d).inward))))

/-! ## The Memory Path -/

/-- A memory address lies in the sector that R3 gives, of a window whose current binding covers it, or
in no current binding. -/
def Obligations.LocateAgreesWithBindings : Prop :=
  ∀ (s : State) (a : Nat), match s.locate a with
    | some x => ∃ b, s.binding? x.win = some b ∧ b.base ≤ a ∧ a < b.base + 256 * b.count ∧
        x.idx = (a - b.base) / 256 ∧ x.idx < b.count
    | none => ∀ w b, s.binding? w = some b → ¬(b.base ≤ a ∧ a < b.base + 256 * b.count)

/-- A cycle whose address lies in no current binding is answered PASS with memory's own answer, performs
its access, and changes no state of the 840 (R2, R3). The byte order of a word is the model's (log 7). Any
cycle that comes while a running burst is owed the port's turn is taken after one more word of the burst
(R19), and one that comes before the expiry of the latest advance has been judged is taken after that
judgement (R15; that the judgement can wait is the model's, log 3). -/
def Obligations.CycleOutsideWindowsPasses : Prop :=
  (∀ (c : UpCycle) (s : State), s.power = .running → s.bursts.owed = false →
    s.clock.due.expiry = false → s.locate c.addr.toNat = none →
    exec (.upstreamCycle c) s = .next (State.owing (State.settle { s with
      answer := some { answer := .pass, data := memoryData s.memory c.addr.toNat c.access }
      memory := memoryAfter s.memory c.addr.toNat c.access }))) ∧
  (∀ (c : UpCycle) (s : State), s.power = .running → s.bursts.owed = true → s.bursts.running ≠ none →
    ∃ t, exec .burstWord s = .next t ∧ t.bursts.owed = false ∧
      exec (.upstreamCycle c) s = exec (.upstreamCycle c) t) ∧
  (∀ (c : UpCycle) (s : State), s.power = .running → s.bursts.owed = false → s.clock.due.expiry = true →
    ∃ t, exec .deferredRecordExpiry s = .next t ∧ t.clock.due.expiry = false ∧
      exec (.upstreamCycle c) s = exec (.upstreamCycle c) t)

/-- A write whose tag is outside the writer set of the window's current binding is answered FAULT: memory
and the sector entry stay as they are, the last-refusal record is filled, WRITE-REFUSED is raised and the
tag's record for the sector is removed (R5); where a running burst is owed the turn, after one more word of
it (R19). -/
def Obligations.WriteOutsideWriterSetRefused : Prop :=
  ∀ (c : UpCycle) (x : SectorRef) (b : Binding) (e : Entry) (s t : State), s.turnTaken t →
    t.Lands c x b e → accessIsWrite c.access = true → b.writers.getLsbD c.tag.val = false →
    exec (.upstreamCycle c) s = .next (State.owing (State.settle { t with
      answer := some { answer := .fault, data := none }
      path := { t.path.without c.tag x with
        lastRefusal := some { tag := c.tag, addr := c.addr, word := accessIsWord c.access, ref := x,
                              time := t.clock.coarse } }
      events := t.events.raise .writeRefused }))

/-- A read of a sector that memory holds is answered PASS with memory's data, in a BOUND and in a STAGED
window, whatever its tag; it changes nothing but the tag's record for the sector (R6, R7, R14). The byte
order of a word read is the model's (log 7). -/
def Obligations.ReadOfPresentSectorPasses : Prop :=
  ∀ (c : UpCycle) (x : SectorRef) (b : Binding) (e : Entry) (s : State), s.Lands c x b e →
    accessIsWrite c.access = false → e.state.isPresent →
    exec (.upstreamCycle c) s = .next (State.owing (State.settle { s with
      answer := some { answer := .pass, data := memoryData s.memory c.addr.toNat c.access }
      path := s.path.without c.tag x }))

/-- A write by a writer to a BOUND window's sector that memory holds and that is not COPYING is answered
PASS: memory takes the data; CLEAN becomes DIRTY, or STRANDED on a drive that is not ATTACHED, with
dirty-since now; WRITING becomes REDIRTY with redirty-since now; every other entry and state stays. Only a
sector that became DIRTY in a DIRECT window on an ATTACHED drive is requested for write-back: a free record
becomes its WRITEBACK of class NORMAL, and with none free, or while a detached record still names its disk
sector, it joins the Backlog List (R7, R8, R9, R69). The byte order of a word written is the model's (log
7). -/
def Obligations.WriteToPresentSectorPasses : Prop :=
  ∀ (c : UpCycle) (x : SectorRef) (b : Binding) (e : Entry) (s : State), s.Lands c x b e →
    accessIsWrite c.access = true → b.writers.getLsbD c.tag.val = true → (s.window x.win).isBound →
    e.state.isPresent → e.state ≠ .copying →
    ∃ u, exec (.upstreamCycle c) s = .next (State.owing (State.settle u)) ∧
      u.answer = some { answer := .pass, data := none } ∧
      u.memory = memoryAfter s.memory c.addr.toNat c.access ∧
      u.path = s.path.without c.tag x ∧
      u.entry? x = some
        (if e.state = .clean then
          { e with
            state := if (s.volume b.drive).state = .attached then .dirty else .stranded
            dirtySince := some s.clock.coarse }
        else if e.state = .writing then
          { e with state := .redirty, redirtySince := some s.clock.coarse }
        else e) ∧
      (∀ y, y ≠ x → u.entry? y = s.entry? y) ∧
      u.engines = s.engines ∧ u.volumes = s.volumes ∧ u.slots = s.slots ∧ u.bursts = s.bursts ∧
      u.chan = s.chan ∧ u.buffers = s.buffers ∧ u.clock = s.clock ∧ u.link = s.link ∧ u.store = s.store ∧
      (¬(e.state = .clean ∧ (s.volume b.drive).state = .attached ∧ b.gathered = false) →
        u.pool = s.pool ∧ u.events = s.events) ∧
      (e.state = .clean → (s.volume b.drive).state = .attached → b.gathered = false →
        s.opOf x = none → x ∉ s.pool.backlog →
        (s.sectorTaken e.addr = false → ∀ r, s.freeRecord? = some r →
          u.events = s.events ∧ u.pool.backlog = s.pool.backlog ∧
          (∀ r', r' ≠ r → u.record? r' = s.record? r') ∧
          ∃ q, u.record? r = some q ∧ q.kind = .writeback ∧ q.urgency = .normal ∧
            q.phase = .waiting ∧ q.owner = some x ∧ q.drive = e.addr.drive ∧
            q.cylinder = e.addr.cylinder ∧ q.side = e.addr.side ∧ q.sector = some e.addr.sector ∧
            q.enqueued = s.clock.coarse ∧ q.attempts = 0 ∧ q.buffer = none) ∧
        ((s.sectorTaken e.addr = true ∨ s.freeRecord? = none) →
          x ∈ u.pool.backlog ∧ u.events.raised .backlog ∧ u.pool.records = s.pool.records))

/-- A cycle for which nothing can be requested is answered DEFER and only the Deferred-Cycle List follows:
a write by a writer to a STAGED window, a read of a STAGED window's sector that is not in memory yet, a
write by a writer to a COPYING sector, and a cycle to an ABSENT sector whose drive is not ATTACHED (R6, R7,
R10, R11, R13), its tag not having waited the defer limit on the sector. -/
def Obligations.DeferredCycleOnlyWaits : Prop :=
  ∀ (c : UpCycle) (x : SectorRef) (b : Binding) (e : Entry) (s : State), s.Lands c x b e →
    (accessIsWrite c.access = true → b.writers.getLsbD c.tag.val = true) →
    s.path.inTime c.tag x s.clock.coarse →
    ((s.window x.win).isStaged = true ∧ (accessIsWrite c.access = true ∨ e.state.isAwaited = true) ∨
      (s.window x.win).isBound = true ∧ accessIsWrite c.access = true ∧ e.state = .copying ∨
      (s.window x.win).isBound = true ∧ e.state = .absent ∧ (s.volume b.drive).state ≠ .attached) →
    exec (.upstreamCycle c) s = .next (State.owing (State.settle { s with
      answer := some { answer := .defer, data := none }
      path := s.path.waiting c.tag x s.clock.coarse }))

/-- A cycle that finds a sector of a BOUND window on an ATTACHED drive ABSENT is answered DEFER. For a
binding that is not fresh a free record becomes a FILL of class DEMAND and the sector QUEUED; with no
record free the youngest WAITING prefetch gives up its record, its entry returning to ABSENT; and with no
prefetch to evict nothing is made (R10, R66, R67, R68). For a fresh binding whose drive's place in the burst
unit is empty a blank fill is requested and the sector becomes FILLING (R11, R113). A cycle that finds a
sector of a BOUND window QUEUED or FILLING is answered DEFER; a PREFETCH record of the sector becomes a FILL
of class DEMAND, and nothing else is requested (R7, R10, R67). -/
def Obligations.AbsentSectorIsRequested : Prop :=
  (∀ (c : UpCycle) (x : SectorRef) (b : Binding) (e : Entry) (s : State), s.Lands c x b e →
    (accessIsWrite c.access = true → b.writers.getLsbD c.tag.val = true) →
    s.path.inTime c.tag x s.clock.coarse → (s.window x.win).isBound → e.state = .absent →
    (s.volume b.drive).state = .attached →
    ∃ u, exec (.upstreamCycle c) s = .next (State.owing (State.settle u)) ∧
      u.answer = some { answer := .defer, data := none } ∧
      u.path = s.path.waiting c.tag x s.clock.coarse ∧
      u.memory = s.memory ∧ u.engines = s.engines ∧ u.events = s.events ∧
      (∀ y, y ≠ x → s.evictable? = none → u.entry? y = s.entry? y) ∧
      (b.fresh = false → s.sectorTaken e.addr = false →
        (∀ r, (s.freeRecord? = some r ∨ (s.freeRecord? = none ∧ s.evictable? = some r)) →
          u.entry? x = some { e with state := .queued } ∧ u.bursts = s.bursts ∧
          (∀ r', r' ≠ r → u.record? r' = s.record? r') ∧
          ∃ q, u.record? r = some q ∧ q.kind = .fill ∧ q.urgency = .demand ∧ q.phase = .waiting ∧
            q.owner = some x ∧ q.drive = e.addr.drive ∧ q.cylinder = e.addr.cylinder ∧
            q.side = e.addr.side ∧ q.sector = some e.addr.sector ∧ q.buffer = none) ∧
        (∀ r q y f, s.freeRecord? = none → s.evictable? = some r → s.record? r = some q →
          q.owner = some y → y ≠ x → s.entry? y = some f → f.state = .queued →
          u.entry? y = some (Entry.new f.addr)) ∧
        (s.freeRecord? = none → s.evictable? = none →
          u.entry? x = some e ∧ u.pool = s.pool ∧ u.bursts = s.bursts)) ∧
      (b.fresh = true → s.placeHeld b.drive = false → s.pendingBehind b.drive = false →
        u.entry? x = some { e with state := .filling } ∧ u.pool = s.pool ∧
        ∃ v : Burst, v.kind = .blankFill ∧ v.drive = b.drive ∧ v.base = b.base + 256 * x.idx ∧
          v.served = some x ∧ v.words = 0 ∧
          (s.bursts.running.isSome → u.bursts.queue = s.bursts.queue ++ [v] ∧
            u.bursts.running = s.bursts.running) ∧
          (s.bursts.running = none → s.bursts.queue = [] →
            u.bursts.running = some v ∧ u.bursts.queue = []))) ∧
  (∀ (s : State) (r : RecIx), s.evictable? = some r →
    (∃ q, s.record? r = some q ∧ q.kind = .prefetch ∧ q.phase = .waiting) ∧
    ∃ older younger, s.pool.order = older ++ r :: younger ∧
      ∀ r' ∈ younger, ∀ q', s.record? r' = some q' → ¬(q'.kind = .prefetch ∧ q'.phase = .waiting)) ∧
  (∀ (c : UpCycle) (x : SectorRef) (b : Binding) (e : Entry) (s : State), s.Lands c x b e →
    (accessIsWrite c.access = true → b.writers.getLsbD c.tag.val = true) →
    s.path.inTime c.tag x s.clock.coarse → (s.window x.win).isBound →
    (e.state = .queued ∨ e.state = .filling) →
    (∀ r q, s.opOf x = some r → s.record? r = some q → q.kind = .prefetch →
      exec (.upstreamCycle c) s = .next (State.owing (State.settle { s with
        answer := some { answer := .defer, data := none }
        path := s.path.waiting c.tag x s.clock.coarse
        pool := { s.pool with
          records := s.pool.records.set r (some { q with kind := .fill, urgency := .demand }) } }))) ∧
    ((∀ r q, s.opOf x = some r → s.record? r = some q → q.kind ≠ .prefetch) →
      exec (.upstreamCycle c) s = .next (State.owing (State.settle { s with
        answer := some { answer := .defer, data := none }
        path := s.path.waiting c.tag x s.clock.coarse }))))

/-- A cycle that would be deferred, whose tag has waited the defer limit on the sector, is answered FAULT:
the tag's record is removed, the last-expiry record is filled and DEFER-EXPIRED is raised, and nothing is
requested (R16). A read of a FAILED sector, and a write by a writer to one in a BOUND window, is answered
FAULT and removes the tag's record for the sector (R7, R14). -/
def Obligations.OverdueAndFailedCyclesFault : Prop :=
  ∀ (c : UpCycle) (x : SectorRef) (b : Binding) (e : Entry) (s : State), s.Lands c x b e →
    (accessIsWrite c.access = true → b.writers.getLsbD c.tag.val = true) →
    (∀ q, s.path.deferred[c.tag] = some q → q.ref = x →
      s.path.deferLimit.toNat ≤ since s.clock.coarse q.first →
      answerOf (s.window x.win).isStaged (accessIsWrite c.access) e.state = .defer →
      exec (.upstreamCycle c) s = .next (State.owing (State.settle { s with
        answer := some { answer := .fault, data := allOnes c.access }
        path := { s.path with
          deferred := s.path.deferred.set c.tag none
          lastExpiry := some { tag := c.tag, addr := c.addr, write := accessIsWrite c.access, ref := x,
                               first := q.first, time := s.clock.coarse, code := e.code } }
        events := s.events.raise .deferExpired }))) ∧
    (e.state = .failed → (accessIsWrite c.access = false ∨ (s.window x.win).isBound) →
      exec (.upstreamCycle c) s = .next (State.owing (State.settle { s with
        answer := some { answer := .fault, data := allOnes c.access }
        path := s.path.without c.tag x })))

/-- A word of a running burst before its last. A delivery writes the two bytes of its buffer's word into
the sector image, a blank fill two copies of the blank fill byte as it stood at its first word, and a
copy-out puts the image's two bytes into its buffer; no other byte of memory changes. The first word of a
copy-out makes its DIRTY entry COPYING (R11, R18, R50, R114). -/
def Obligations.BurstWordMovesOneWord : Prop :=
  ∀ (v : Burst) (s : State), s.power = .running → s.bursts.running = some v → v.words < 127 →
    Memory.wf s.memory = true → v.base % 256 = 0 → v.base + 256 ≤ memorySize →
    ∃ u, exec .burstWord s = .next (State.settle u) ∧
      u.pool = s.pool ∧ u.engines = s.engines ∧ u.events = s.events ∧
      (∃ w, u.bursts.running = some w ∧ w.words = v.words + 1 ∧ w.kind = v.kind ∧ w.base = v.base) ∧
      (∀ a, a < memorySize → a ≠ v.base + 2 * v.words → a ≠ v.base + 2 * v.words + 1 →
        u.readByte a = s.readByte a) ∧
      (∀ i, v.kind = .delivery → v.buffer = some i →
        u.readByte (v.base + 2 * v.words) = (s.buffer i).getD (2 * v.words) 0 ∧
        u.readByte (v.base + 2 * v.words + 1) = (s.buffer i).getD (2 * v.words + 1) 0) ∧
      (v.kind = .blankFill →
        u.readByte (v.base + 2 * v.words) = (if v.words = 0 then s.path.blankByte else v.fill) ∧
        u.readByte (v.base + 2 * v.words + 1) = (if v.words = 0 then s.path.blankByte else v.fill)) ∧
      (∀ i, v.kind = .copyOut → v.buffer = some i → u.memory = s.memory ∧
        ((s.buffer i).length = 256 →
          (u.buffer i).getD (2 * v.words) 0 = s.readByte (v.base + 2 * v.words) ∧
          (u.buffer i).getD (2 * v.words + 1) 0 = s.readByte (v.base + 2 * v.words + 1))) ∧
      (∀ x e, s.entry? x = some e →
        u.entry? x = some
          (if v.kind = .copyOut ∧ v.words = 0 ∧ e.state = .dirty ∧
              (v.record.bind s.record?).bind Record.owner = some x
           then { e with state := .copying } else e))

/-- The last word of a burst. It moves its two bytes as every word does, and no other byte of memory changes;
the burst is over, and the burst at the head of the queue starts (R113, R114). A delivery makes its FILLING
entry CLEAN, with the damaged flag as the burst carries it, and frees its record and buffer (R47): the record
goes to the longest stamp wait, or else to the entry nearest the head of the Backlog List whose disk sector
has no other record, as an URGENT write-back, and is free otherwise (R73); the buffer goes to the engine that
has waited longest (R109); and a delivery of a FILL in a BOUND window on an ATTACHED drive reads ahead, with
nine records free and nothing waiting, by PREFETCH records of class BACKGROUND for ABSENT sectors among the
next indices (R74). A delivery without its record, or of a detached one, changes no entry (R35, R117). A
copy-out makes its COPYING entry WRITING, and an engine whose heads are in place requests the channel (R50,
R92). A blank fill makes its FILLING entry DIRTY with dirty-since now, or STRANDED on a drive that is not
ATTACHED, and requests the write-back of the DIRTY one, of class URGENT in a STAGED window and NORMAL in a
DIRECT one, and none in a BOUND GATHERED one (R12). That the place, the record and the buffer are handed on
in this order is the model's (log 22). -/
def Obligations.LastWordOfBurst : Prop :=
  ∀ (v : Burst) (s : State), s.power = .running → s.bursts.running = some v → v.words = 127 →
    Memory.wf s.memory = true → v.base % 256 = 0 → v.base + 256 ≤ memorySize →
    ∃ u, exec .burstWord s = .next (State.settle u) ∧
      (∀ a, a < memorySize → a ≠ v.base + 254 → a ≠ v.base + 255 → u.readByte a = s.readByte a) ∧
      (∀ i, v.kind = .delivery → v.buffer = some i →
        u.readByte (v.base + 254) = (s.buffer i).getD 254 0 ∧
        u.readByte (v.base + 255) = (s.buffer i).getD 255 0) ∧
      (v.kind = .blankFill → u.readByte (v.base + 254) = v.fill ∧ u.readByte (v.base + 255) = v.fill) ∧
      (∀ i, v.kind = .copyOut → v.buffer = some i → u.memory = s.memory ∧
        ((s.buffer i).length = 256 →
          (u.buffer i).getD 254 0 = s.readByte (v.base + 254) ∧
          (u.buffer i).getD 255 0 = s.readByte (v.base + 255))) ∧
      (s.bursts.behind = [] →
        (s.bursts.queue = [] → s.bufWait = [] → u.bursts.running = none) ∧
        (∀ w rest, s.bursts.queue = w :: rest → u.bursts.running = some w)) ∧
      -- a delivery
      (v.kind = .delivery → s.bufWait = [] →
        (∀ r q, v.record = some r → s.record? r = some q → q.owner = none) → u.windows = s.windows) ∧
      (∀ r q x e, v.kind = .delivery → v.record = some r → s.record? r = some q → q.owner = some x →
        s.entry? x = some e →
        (e.state = .filling → u.entry? x = some { e with
          state := .clean, dirtySince := none, redirtySince := none, damaged := v.damaged, cause := none
          marks := 0, late := 0, urgent := false }) ∧
        ((∀ d, (s.engine d).current ≠ some r) →
          (∀ d rest, s.pool.stampWaits = d :: rest → u.pool.stampWaits = rest ∧
            ∃ p, u.record? r = some p ∧ p.kind = .stampRead ∧ p.urgency = .urgent ∧ p.phase = .waiting ∧
              p.drive = d ∧ p.cylinder = 0 ∧ p.side = 0 ∧ p.sector = some 0 ∧ p.owner = none) ∧
          (∀ before y after f, s.pool.stampWaits = [] → s.pool.backlog = before ++ y :: after →
            (∀ z ∈ before, ∀ g, s.entry? z = some g →
              ∃ r' q', r' ≠ r ∧ s.record? r' = some q' ∧ q'.names g.addr = true) →
            s.entry? y = some f →
            (∀ r' q', r' ≠ r → s.record? r' = some q' → q'.names f.addr = false) →
            y ∉ u.pool.backlog ∧ ∃ p, u.record? r = some p ∧ p.kind = .writeback ∧
              p.urgency = .urgent ∧ p.phase = .waiting ∧ p.owner = some y ∧ p.drive = f.addr.drive ∧
              p.cylinder = f.addr.cylinder ∧ p.side = f.addr.side ∧ p.sector = some f.addr.sector ∧
              p.enqueued = s.clock.coarse)) ∧
        (s.pool.stampWaits = [] → s.pool.backlog = [] → s.bufWait = [] →
          (q.kind = .prefetch → u.record? r = none ∧ ∀ r', r' ≠ r → u.record? r' = s.record? r') ∧
          (∀ b, q.kind = .fill → s.binding? x.win = some b →
            (∀ r' q', u.record? r' = some q' → (r' ≠ r ∧ s.record? r' = some q') ∨
              (8 ≤ s.freeCount ∧ b.fresh = false ∧ (s.volume b.drive).state = .attached ∧
                (s.window x.win).isBound = true ∧ q'.kind = .prefetch ∧ q'.urgency = .background ∧
                q'.phase = .waiting ∧ ∃ j f, x.idx < j ∧ j ≤ x.idx + b.readAhead ∧
                  q'.owner = some ⟨x.win, j⟩ ∧ s.entry? ⟨x.win, j⟩ = some f ∧ f.state = .absent)) ∧
            (∀ f, 1 ≤ b.readAhead → 8 ≤ s.freeCount → b.fresh = false →
              (s.volume b.drive).state = .attached → (s.window x.win).isBound = true →
              s.entry? ⟨x.win, x.idx + 1⟩ = some f → f.state = .absent →
              (∀ r' q', r' ≠ r → s.record? r' = some q' → q'.names f.addr = false) →
              u.entry? ⟨x.win, x.idx + 1⟩ = some { f with state := .queued } ∧
              ∃ r' p, u.record? r' = some p ∧ p.kind = .prefetch ∧ p.urgency = .background ∧
                p.phase = .waiting ∧ p.owner = some ⟨x.win, x.idx + 1⟩))) ∧
        (∀ i d r' q' rest, v.buffer = some i → q.buffer = some i → s.bursts.queue = [] →
          s.bursts.behind = [] → (∀ p p', p ≠ r → s.record? p = some p' → p'.buffer ≠ some i) →
          (∀ j, j ≠ i → s.bufferFree j = false) → s.bufWait = d :: rest →
          (s.engine d).state = .waitBuffer → (s.engine d).current = some r' → r' ≠ r →
          s.record? r' = some q' →
          u.record? r' = some { q' with buffer := some i, copied := false } ∧
          (u.engine d).state = .positioning ∧ u.bufWait = rest)) ∧
      -- a copy-out
      (∀ r q x e, v.kind = .copyOut → v.record = some r → s.record? r = some q → q.owner = some x →
        q.kind = .writeback → s.entry? x = some e →
        (e.state = .copying → u.entry? x = some { e with state := .writing, late := 0 }) ∧
        (let inPlace := (s.engine v.drive).current = some r ∧ (s.engine v.drive).state = .positioning ∧
            (s.engine v.drive).motion = .seeking ∧
            (s.engine v.drive).cyl = some (s.engine v.drive).target ∧ (s.engine v.drive).wait = 0
         (¬inPlace → u.engines = s.engines ∧ u.chan = s.chan ∧
            u.record? r = some { q with copied := true }) ∧
         (inPlace → s.chan.owner = none → s.chan.queue = [] → u.chan.owner = some v.drive ∧
            (u.engine v.drive).state = .searching ∧
            u.record? r = some { q with copied := true, phase := .inEngine }) ∧
         (inPlace → ¬(s.chan.owner = none ∧ s.chan.queue = []) →
            u.chan = { s.chan with queue := s.chan.queue ++ [v.drive] } ∧
            (u.engine v.drive).state = .waitChannel ∧ u.record? r = some { q with copied := true }))) ∧
      -- a blank fill
      (∀ x e b, v.kind = .blankFill → v.served = some x → s.entry? x = some e →
        s.binding? x.win = some b → e.state = .filling →
        u.entry? x = some { e with
          state := if (s.volume b.drive).state = .attached then .dirty else .stranded
          dirtySince := some s.clock.coarse } ∧
        (((s.volume b.drive).state ≠ .attached ∨
            ((s.window x.win).isStaged = false ∧ b.gathered = true)) → u.pool = s.pool) ∧
        ((s.volume b.drive).state = .attached → ((s.window x.win).isStaged = true ∨ b.gathered = false) →
          s.opOf x = none → x ∉ s.pool.backlog →
          (∀ r, s.sectorTaken e.addr = false → s.freeRecord? = some r → ∃ p, u.record? r = some p ∧
            p.kind = .writeback ∧ p.phase = .waiting ∧ p.owner = some x ∧ p.drive = e.addr.drive ∧
            p.cylinder = e.addr.cylinder ∧ p.side = e.addr.side ∧ p.sector = some e.addr.sector ∧
            p.urgency = if (s.window x.win).isStaged = true then .urgent else .normal) ∧
          ((s.sectorTaken e.addr = true ∨ s.freeRecord? = none) →
            x ∈ u.pool.backlog ∧ u.events.raised .backlog)))

/-! ## The coarse clock and its judgements -/

/-- An advance of the coarse clock adds 1 to the coarse count and brings the tick count to the next
multiple of 10,000 since the advance before (log 5). While the part runs, the expiry of records, age
promotion and secure deadlines become due (log 3), and the sweep timer counts or ends its period, a sweep
left over from the advance before being made first (R143); in a reset only the clocks advance (R1), and
without main supply nothing does (logs 10 and 28). Every command that lets n ticks pass, such as an index
pulse after n ticks, advances the coarse clock at every 10,000th of them (R1), whether or not a long dip
comes among them; with no advance, no lost index and no long dip among them the ticks do nothing else. An
advance before which the dip timer reaches 2,000 finds the warm reset in force (R157, R158). That the clocks
advance in a power-up reset as in a warm one is the model's (log 37). -/
def Obligations.CoarseClockAdvances : Prop :=
  (∀ s : State, ∃ t, exec .coarseClockAdvance s = .next t ∧
    (s.power = .off → t = s) ∧
    (s.power ≠ .off → t.clock.coarse = s.clock.coarse + 1 ∧
      t.clock.tick = s.clock.tick + BitVec.ofNat 16 (10000 - s.clock.toCoarse) ∧
      t.clock.toCoarse = s.clock.toCoarse - 10000 ∧ t.memory = s.memory) ∧
    (s.power ≠ .off → s.power ≠ .running → t.clock.due = s.clock.due ∧ t.sweep = s.sweep ∧
      t.windows = s.windows ∧ t.path = s.path ∧ t.slots = s.slots) ∧
    (∀ k, s.longDipIn? (10000 - s.clock.toCoarse) = some k →
      (∃ raised, s.longDipTo t raised) ∧ t.clock.due = Due.none) ∧
    (s.power = .running → s.longDipIn? (10000 - s.clock.toCoarse) = none →
      t.clock.due.expiry = true ∧ t.clock.due.promote = true ∧
      t.clock.due.deadline = true ∧ (s.clock.due.sweep = true → t.events.raised .sweep) ∧
      let timer : SweepTimer := if s.clock.due.sweep then
        { s.sweep with current := s.sweep.next, counter := 1 } else s.sweep
      (s.sweep.enabled = false → t.sweep = timer ∧ t.clock.due.sweep = false) ∧
      (s.sweep.enabled = true → timer.counter < timer.current →
        t.sweep = { timer with counter := timer.counter + 1 } ∧ t.clock.due.sweep = false) ∧
      (s.sweep.enabled = true → ¬timer.counter < timer.current →
        t.sweep = timer ∧ t.clock.due.sweep = true))) ∧
  (∀ (s : State) (d : DriveIx) (n : Nat), s.power ≠ .off → ∃ t, exec (.indexPulse d n) s = .next t ∧
    t.clock.tick = s.clock.tick + BitVec.ofNat 16 n ∧
    t.clock.coarse = s.clock.coarse + BitVec.ofNat 16 ((s.clock.toCoarse + n) / 10000) ∧
    t.clock.toCoarse = (s.clock.toCoarse + n) % 10000) ∧
  (∀ (s : State) (n : Nat), s.power ≠ .off → (s.passTime n).memory = s.memory ∧
    (s.longDipIn? n = none → (s.passTime n).power = s.power) ∧
    (s.passTime n).clock.tick = s.clock.tick + BitVec.ofNat 16 n ∧
    (s.passTime n).clock.coarse = s.clock.coarse + BitVec.ofNat 16 ((s.clock.toCoarse + n) / 10000) ∧
    (s.passTime n).clock.toCoarse = (s.clock.toCoarse + n) % 10000 ∧
    (s.calm n = true → s.passTime n = { s with
      clock := { s.clock with
        tick := s.clock.tick + BitVec.ofNat 16 n, toCoarse := s.clock.toCoarse + n }
      store := { s.store with dipTimer := s.store.dipTimer.map fun t => min (t + n) 2000 }
      engines := s.engines.map (Engine.elapse n) }))

/-- The expiry judgement of an advance removes every Deferred-Cycle record whose age is twice the defer
limit or more, and changes nothing else (R15). It is made once for each advance, when its step comes (log
3). -/
def Obligations.DeferredRecordsExpire : Prop :=
  ∀ s : State, s.power = .running →
    (s.clock.due.expiry = true → exec .deferredRecordExpiry s = .next { s with
      path := { s.path with
        deferred := s.path.deferred.map fun o => o.filter fun q =>
          decide (since s.clock.coarse q.first < 2 * s.path.deferLimit.toNat) }
      clock := { s.clock with due := { s.clock.due with expiry := false } } }) ∧
    (s.clock.due.expiry = false → exec .deferredRecordExpiry s = .next s)

/-- A period end raises SWEEP, loads the next period and sets the counter to 1. It changes no entry, makes
new records only as WRITEBACKs of class NORMAL, and leaves every DIRTY entry of a GATHERED window on an
ATTACHED drive with a record or on the Backlog List (R143, R145). That the judgement of an advance is due
until its step is made is the model's (log 3). -/
def Obligations.SweepRequestsGatheredChanges : Prop :=
  ∀ s : State, s.power = .running →
    (s.clock.due.sweep = false → exec .sweep s = .next (State.settle s)) ∧
    (s.clock.due.sweep = true → ∃ u, exec .sweep s = .next (State.settle u) ∧
      u.events.raised .sweep ∧
      u.sweep = { s.sweep with current := s.sweep.next, counter := 1 } ∧
      u.clock = { s.clock with due := { s.clock.due with sweep := false } } ∧
      u.windows = s.windows ∧ u.memory = s.memory ∧ u.engines = s.engines ∧ u.path = s.path ∧
      u.slots = s.slots ∧ u.bursts = s.bursts ∧
      (∀ r q, u.record? r = some q → s.record? r = some q ∨
        (s.record? r = none ∧ q.kind = .writeback ∧ q.urgency = .normal ∧ q.phase = .waiting)) ∧
      (∀ x e b, s.entry? x = some e → s.binding? x.win = some b → e.state = .dirty →
        b.gathered = true → (s.volume b.drive).state = .attached →
        (u.opOf x).isSome ∨ x ∈ u.pool.backlog))

/-- Age promotion sets the urgent flag of every dirty entry whose age has reached the age limit, a limit of
0 promoting none, and changes no other field of any entry; an entry promoted that has a WRITEBACK record has
it raised to URGENT, and a DIRTY one is left with a record or on the Backlog List (R146, R147). That the
judgement of an advance is due until its step is made is the model's (log 3). -/
def Obligations.AgePromotionMakesUrgent : Prop :=
  ∀ s : State, s.power = .running →
    (s.clock.due.promote = false → exec .agePromotion s = .next (State.settle s)) ∧
    (s.clock.due.promote = true → ∃ u, exec .agePromotion s = .next (State.settle u) ∧
      u.memory = s.memory ∧ u.engines = s.engines ∧ u.slots = s.slots ∧ u.path = s.path ∧
      (∀ x, u.entry? x = (s.entry? x).map fun e =>
        if s.ageLimit ≠ 0 ∧ e.state.isDirty ∧ s.ageLimit.toNat ≤ e.age s.clock.coarse then
          { e with urgent := true } else e) ∧
      (∀ x e r q, s.ageLimit ≠ 0 → s.entry? x = some e → e.state.isDirty → e.urgent = false →
        s.ageLimit.toNat ≤ e.age s.clock.coarse → s.opOf x = some r → s.record? r = some q →
        q.kind = .writeback → u.record? r = some { q with urgency := .urgent }) ∧
      (∀ x e, s.ageLimit ≠ 0 → s.entry? x = some e → e.state = .dirty → e.urgent = false →
        s.ageLimit.toNat ≤ e.age s.clock.coarse → (u.opOf x).isSome ∨ x ∈ u.pool.backlog))

/-- The deadline judgement makes every ACTIVE slot whose elapsed time has reached its deadline DONE-LATE
now, its counts frozen, raises SECURE-LATE for it, and removes its mark from every entry, which keeps its
state and its urgent flag; other slots and marks stay (R153). That the judgement of an advance is due until
its step is made is the model's (log 3). -/
def Obligations.SecureDeadlinesPass : Prop :=
  ∀ s : State, s.power = .running →
    (s.clock.due.deadline = false → exec .secureDeadline s = .next (State.settle s)) ∧
    (s.clock.due.deadline = true → ∃ u, exec .secureDeadline s = .next (State.settle u) ∧
      u.pool = s.pool ∧ u.engines = s.engines ∧ u.memory = s.memory ∧
      (∀ k, u.slot k =
        if (s.slot k).state = .active ∧ (s.slot k).deadline ≠ 0 ∧
            (s.slot k).deadline.toNat ≤ since s.clock.coarse (s.slot k).start
        then { s.slot k with state := .doneLate, ended := some s.clock.coarse } else s.slot k) ∧
      (∀ x e, s.entry? x = some e → ∃ e', u.entry? x = some e' ∧ e'.state = e.state ∧
        e'.urgent = e.urgent ∧ e'.addr = e.addr ∧ e'.dirtySince = e.dirtySince ∧
        ∀ k : SlotIx, e'.marks.getLsbD k.val =
          (e.marks.getLsbD k.val && !((s.slot k).state == .active && (s.slot k).deadline != 0 &&
            decide ((s.slot k).deadline.toNat ≤ since s.clock.coarse (s.slot k).start)))) ∧
      (∀ k, (u.slot k).state = .doneLate → (s.slot k).state = .active →
        u.events.raised .secureLate))

/-! ## Reports and settings on the service link -/

/-- STATUS, WINDOW STATES and READ DRIVE change nothing but the command buffer and the response: DONE and
the reply data, or BAD-PARAM for a part, window or drive that there is none of; the data of every part has
the length its row of R167 gives, and STATUS 1 is laid out as there. That a set flag is carried as 1 is the
model's (log 39). -/
def Obligations.ReportsChangeOnlyTheLink : Prop :=
  ∀ s : State, s.power = .running →
    (∀ part, exec (.status part) s = .next { s with link :=
      { command := [0x01, 1, part]
        response := ((s.statusData? part.toNat).map (List.cons 0x00)).getD [0x01] } }) ∧
    (∀ window part, exec (.windowStates window part) s = .next { s with link :=
      { command := [0x14, 2, window, part]
        response := (((windowOf window).bind fun w => (s.window w).data? part.toNat).map
          (List.cons 0x00)).getD [0x01] } }) ∧
    (∀ drive part, exec (.readDrive drive part) s = .next { s with link :=
      { command := [0x35, 2, drive, part]
        response := (((driveOf drive).bind fun d => s.driveData? d part.toNat).map
          (List.cons 0x00)).getD [0x01] } }) ∧
    (∀ part, (s.statusData? part).map List.length = [25, 12, 10, 13, 7][part]?) ∧
    (∀ w part, ((s.window w).data? part).map List.length = [26, 17, 17, 17, 17][part]?) ∧
    (∀ d part, (s.driveData? d part).map List.length = [20, 16, 12, 12, 8][part]?) ∧
    s.statusData? 1 = some [
      if s.sweep.enabled then 1 else 0,
      BitVec.ofNat 8 (s.sweep.current / 256), BitVec.ofNat 8 s.sweep.current,
      BitVec.ofNat 8 (s.sweep.next / 256), BitVec.ofNat 8 s.sweep.next,
      BitVec.ofNat 8 (s.sweep.counter / 256), BitVec.ofNat 8 s.sweep.counter,
      BitVec.ofNat 8 (s.ageLimit.toNat / 256), BitVec.ofNat 8 s.ageLimit.toNat,
      BitVec.ofNat 8 (s.path.deferLimit.toNat / 256), BitVec.ofNat 8 s.path.deferLimit.toNat,
      s.path.blankByte]

/-- READ OUTAGE answers the number of entries, the overflow count, the last reset cause and up to five
entries from its starting position, or BAD-PARAM for a position outside 0..31, and changes nothing in the
store; CLEAR OUTAGE empties the list and sets the overflow count to 0, and nothing else (R161). -/
def Obligations.OutageListReadAndCleared : Prop :=
  ∀ s : State, s.power = .running →
    (∀ start : Byte, start.toNat < 32 → exec (.readOutage start) s = .next { s with link :=
      { command := [0x60, 1, start]
        response := [0x00, BitVec.ofNat 8 s.store.list.length, BitVec.ofNat 8 s.store.overflow,
            BitVec.ofNat 8 s.store.cause.code] ++
          ((s.store.list.drop start.toNat).take 5).flatMap fun o =>
            [BitVec.ofNat 8 o.addr.drive.val, BitVec.ofNat 8 o.addr.cylinder, BitVec.ofNat 8 o.addr.side,
              BitVec.ofNat 8 o.addr.sector, BitVec.ofNat 8 o.win.val] } }) ∧
    (∀ start : Byte, 32 ≤ start.toNat → exec (.readOutage start) s = .next { s with link :=
      { command := [0x60, 1, start], response := [0x01] } }) ∧
    exec .clearOutage s = .next { s with
      store := { s.store with list := [], overflow := 0 }
      link := { command := [0x61, 0], response := [0x00] } }

/-- READ EVENTS: the read tag increases by 1, from 255 to 0, every set-again bit is cleared, and the reply
carries the new tag and the flags, which stay as they are; an event raised afterwards has its set-again
bit set; a reset sets the tag to 0 (R171). -/
def Obligations.ReadEventsAdvancesTag : Prop :=
  (∀ s : State, s.power = .running → exec .readEvents s = .next { s with
    events := { s.events with readTag := s.events.readTag + 1, again := 0 }
    link := { command := [0x50, 0]
              response := [0x00, s.events.readTag + 1,
                BitVec.ofNat 8 (s.events.flags.toNat / 65536), BitVec.ofNat 8 (s.events.flags.toNat / 256),
                BitVec.ofNat 8 s.events.flags.toNat] } }) ∧
  (∀ (u : EventUnit) (e : Event), (u.raise e).raised e) ∧
  (∀ s : State, s.cleared.events.readTag = 0)

/-- CLEAR EVENTS with the read tag is answered DONE and clears each flag that is in its mask and whose
set-again bit is clear, and nothing else; with another tag it is answered WRONG-STATE and clears nothing
(R172). -/
def Obligations.ClearEventsSparesSetAgain : Prop :=
  ∀ (tag : Byte) (mask : BitVec 24) (s : State), s.power = .running →
    (tag = s.events.readTag → ∃ flags, exec (.clearEvents tag mask) s = .next { s with
        events := { s.events with flags := flags }
        link := { command := [0x51, 4, tag, BitVec.ofNat 8 (mask.toNat / 65536),
                    BitVec.ofNat 8 (mask.toNat / 256), BitVec.ofNat 8 mask.toNat]
                  response := [0x00] } } ∧
      ∀ n, n < 22 → flags.getLsbD n =
        (s.events.flags.getLsbD n && !(mask.getLsbD n && !s.events.again.getLsbD n))) ∧
    (tag ≠ s.events.readTag → exec (.clearEvents tag mask) s = .next { s with
        link := { command := [0x51, 4, tag, BitVec.ofNat 8 (mask.toNat / 65536),
                    BitVec.ofNat 8 (mask.toNat / 256), BitVec.ofNat 8 mask.toNat]
                  response := [0x02] } })

/-- SET DRIVE stores its three values, the step time clamped to 3..15 and the retry count to 1..8, or is
refused for a drive outside 0..3 (R106). SET LIMITS stores its three, the defer limit clamped to
1..32,767 (R18), after what the latest advance leaves to judge by the old limits has been judged: a new limit
acts from the next advance (R15, R146; that the judgements can wait is the model's, log 3). SET ALERT MASK
replaces the mask, bits 22 and 23 not being kept, and ALERT is low exactly while a flag that is set is in the
mask (R170). The spare bits of the options byte in the command buffer are the model's (log 8). -/
def Obligations.SettingsAreStored : Prop :=
  ∀ s : State, s.power = .running →
    (∀ (drive stepMs retries : Byte) (halt : Bool) (d : DriveIx), drive.toNat = d.val →
      exec (.setDrive drive stepMs retries halt) s = .next { s with
        engines := s.engines.set d { s.engine d with
          stepMs := if stepMs.toNat < 3 then 3 else if 15 < stepMs.toNat then 15 else stepMs.toNat
          retries := if retries.toNat = 0 then 1 else if 8 < retries.toNat then 8 else retries.toNat
          halt := halt }
        link := { command := [0x38, 4, drive, stepMs, retries, if halt then 1 else 0]
                  response := [0x00] } }) ∧
    (∀ (drive stepMs retries : Byte) (halt : Bool), 3 < drive.toNat →
      exec (.setDrive drive stepMs retries halt) s =
        .next (s.refusedWith [0x38, 4, drive, stepMs, retries, if halt then 1 else 0] .badParam)) ∧
    (∀ (deferLimit ageLimit : BitVec 16) (blank : Byte),
      (s.clock.due.promote = false → s.clock.due.expiry = false → ∃ stored : BitVec 16,
        stored.toNat = (if deferLimit.toNat = 0 then 1
          else if 32767 < deferLimit.toNat then 32767 else deferLimit.toNat) ∧
        ∃ command, exec (.setLimits deferLimit ageLimit blank) s = .next { s with
          path := { s.path with deferLimit := stored, blankByte := blank }
          ageLimit := ageLimit
          link := { command := command, response := [0x00] } }) ∧
      (s.clock.due.promote = true ∨ s.clock.due.expiry = true → ∃ a v,
        exec .agePromotion s = .next a ∧ exec .deferredRecordExpiry a = .next v ∧
        v.clock.due.promote = false ∧ v.clock.due.expiry = false ∧ v.power = .running ∧
        exec (.setLimits deferLimit ageLimit blank) s = exec (.setLimits deferLimit ageLimit blank) v)) ∧
    (∀ mask : BitVec 24, ∃ t, exec (.setAlertMask mask) s = .next t ∧
      (∃ command, t = { s with
        events := { s.events with mask := t.events.mask }
        link := { command := command, response := [0x00] } }) ∧
      (∀ n, n < 22 → t.events.mask.getLsbD n = mask.getLsbD n) ∧
      (t.alertLow = true ↔ ∃ n, n < 22 ∧ s.events.flags.getLsbD n = true ∧ mask.getLsbD n = true))

/-- SET SWEEP stores its period as the next period, 0 as 65,536, and acts on the timer by the table of R144;
no sweep takes place, and a sweep that was due and not made stands only where the timer runs on. That the
judgement of an advance is due until its step is made is the model's (log 3). -/
def Obligations.SetSweepActsByTable : Prop :=
  ∀ (period : BitVec 16) (enable restart : Bool) (s : State), s.power = .running →
    ∃ command, exec (.setSweep period enable restart) s = .next { s with
      sweep :=
        let next := if period.toNat = 0 then 65536 else period.toNat
        if s.sweep.enabled = false then
          if enable = false then { s.sweep with next := next }
          else { enabled := true, current := next, next := next, counter := 1 }
        else if enable = false then { s.sweep with enabled := false, next := next, counter := 1 }
        else if restart = false then { s.sweep with next := next }
        else { s.sweep with current := next, next := next, counter := 1 }
      clock := { s.clock with due := { s.clock.due with
        sweep := s.clock.due.sweep && enable && !restart } }
      link := { command := command, response := [0x00] } }

/-! ## Windows -/

/-- BIND. A binding record is accepted exactly when its fields are in range and its run stays on the disk,
and is stored with its read-ahead clamped to 7 (R22, R23). An accepted BIND makes its UNBOUND window BOUND
with one new ABSENT entry for each sector of the run, gives an ATTACHED drive without a bound id the
present one, and changes nothing else (R25, R26, R27); a refused one changes nothing. -/
def Obligations.BindMakesWindowBound : Prop :=
  (∀ r : BindRecord, match bindingOf? r with
    | some b => b.wf = true ∧ b.page = r.page.toNat ∧ b.count = r.count.toNat ∧
        b.drive.val = r.drive.toNat ∧ b.cylinder = r.cylinder.toNat ∧ b.side = r.side.toNat ∧
        b.sector = r.sector.toNat ∧ b.sides = r.sides.toNat ∧ b.gathered = r.options.getLsbD 0 ∧
        b.fresh = r.options.getLsbD 1 ∧ b.deliver = r.options.getLsbD 2 ∧
        b.verify = r.options.getLsbD 3 ∧ b.writers = r.writers ∧
        b.readAhead = min r.readAhead.toNat 7
    | none => ¬(1 ≤ r.count.toNat ∧ r.count.toNat ≤ 64 ∧
        256 * r.page.toNat + 256 * r.count.toNat ≤ 1048576 ∧ r.drive.toNat ≤ 3 ∧
        r.cylinder.toNat ≤ 76 ∧ r.side.toNat ≤ 1 ∧ r.sector.toNat ≤ 15 ∧
        ((r.sides.toNat = 1 ∧ r.cylinder.toNat + (r.sector.toNat + r.count.toNat - 1) / 16 ≤ 76) ∨
         (r.sides.toNat = 2 ∧ (16 * (2 * r.cylinder.toNat + r.side.toNat) + r.sector.toNat +
            r.count.toNat - 1) / 16 / 2 ≤ 76)))) ∧
  (∀ (window : Byte) (r : BindRecord) (s : State), s.power = .running →
    (∀ (w : WinIx) (b : Binding), window.toNat = w.val → s.window w = .unbound →
      bindingOf? r = some b → s.conflicts w b = false →
      exec (.bind window r) s = .next (State.settle { s with
        windows := s.windows.set w
          (.bound b ((List.range b.count).map fun i => Entry.new (b.diskAddr i)))
        volumes := s.volumes.set b.drive
          (if (s.volume b.drive).state = .attached ∧ (s.volume b.drive).boundId = none then
            { s.volume b.drive with boundId := (s.volume b.drive).present.map Stamp.volumeId }
          else s.volume b.drive)
        link := { command := 0x10 :: 13 :: window :: bindRecordBytes r, response := [0x00] } })) ∧
    (15 < window.toNat → exec (.bind window r) s =
      .next (State.settle (s.refusedWith (0x10 :: 13 :: window :: bindRecordBytes r) .badParam))) ∧
    (∀ w : WinIx, window.toNat = w.val → s.window w ≠ .unbound → exec (.bind window r) s =
      .next (State.settle (s.refusedWith (0x10 :: 13 :: window :: bindRecordBytes r) .wrongState))) ∧
    (∀ w : WinIx, window.toNat = w.val → s.window w = .unbound → bindingOf? r = none →
      exec (.bind window r) s =
      .next (State.settle (s.refusedWith (0x10 :: 13 :: window :: bindRecordBytes r) .badParam))) ∧
    (∀ (w : WinIx) (b : Binding), window.toNat = w.val → s.window w = .unbound →
      bindingOf? r = some b → s.conflicts w b = true → exec (.bind window r) s =
      .next (State.settle (s.refusedWith (0x10 :: 13 :: window :: bindRecordBytes r) .conflict))))

/-- An accepted STAGE, or an ordinary RELEASE with the empty binding, puts the new staged binding in place
of the one a STAGED window has, and changes nothing else; a BOUND window enters STAGED, keeping every dirty
entry as it is and providing each DIRTY one with an URGENT write-back or a place on the Backlog List; its
WAITING fills and prefetches and its waiting blank fills are cancelled, their entries returning to ABSENT.
Refusals change nothing (R28, R29, R36). The options byte of RELEASE in the command buffer is the model's
(log 8). -/
def Obligations.StageAndReleaseStartTheDrain : Prop :=
  ∀ (window : Byte) (r : BindRecord) (s : State), s.power = .running →
    (∀ (w : WinIx) (b n : Binding) (old : Option Binding) (es : List Entry), window.toNat = w.val →
      s.window w = .staged b old es →
      (bindingOf? r = some n → s.conflicts w n = false →
        exec (.stage window r) s = .next (State.settle { s with
          windows := s.windows.set w (.staged b (some n) es)
          link := { command := 0x11 :: 13 :: window :: bindRecordBytes r, response := [0x00] } })) ∧
      exec (.release window) s = .next (State.settle { s with
        windows := s.windows.set w (.staged b none es)
        link := { command := [0x13, 2, window, 0], response := [0x00] } })) ∧
    (∀ (w : WinIx) (b : Binding) (es : List Entry), window.toNat = w.val → s.window w = .bound b es →
      ∀ (c : Instr) (next : Option Binding),
        (c = .release window ∧ next = none ∨ ∃ n, c = .stage window r ∧ next = some n ∧
          bindingOf? r = some n ∧ s.conflicts w n = false) →
        ∃ u es', exec c s = .next (State.settle u) ∧ u.window w = .staged b next es' ∧
          es'.length = es.length ∧ u.link.response = [0x00] ∧ u.memory = s.memory ∧
          (∀ i e, es[i]? = some e → e.state.isDirty → es'[i]? = some e ∧
            (e.state = .dirty → (u.opOf ⟨w, i⟩).isSome ∨ ⟨w, i⟩ ∈ u.pool.backlog) ∧
            (∀ r q, e.state = .dirty → s.opOf ⟨w, i⟩ = some r → s.record? r = some q →
              q.kind = .writeback → ⟨w, i⟩ ∉ s.pool.backlog → ∃ q', u.record? r = some q' ∧
                q'.kind = .writeback ∧ q'.urgency = .urgent ∧ q'.owner = some ⟨w, i⟩) ∧
            (∀ r q, e.state = .dirty → s.opOf ⟨w, i⟩ = none → u.opOf ⟨w, i⟩ = some r →
              u.record? r = some q → q.kind = .writeback ∧ q.urgency = .urgent)) ∧
          (∀ i e r q, es[i]? = some e → e.state = .queued → s.opOf ⟨w, i⟩ = some r →
            s.record? r = some q → (q.kind = .fill ∨ q.kind = .prefetch) → q.phase = .waiting →
            es'[i]? = some (Entry.new e.addr) ∧
            (r ∈ s.pool.order → ∀ q', u.record? r = some q' →
              q'.kind = .stampRead ∨ q'.kind = .writeback)) ∧
          (∀ i e v, es[i]? = some e → e.state = .filling → s.bursts.running ≠ none →
            v ∈ s.bursts.queue → v.kind = .blankFill → v.served = some ⟨w, i⟩ →
            es'[i]? = some (Entry.new e.addr) ∧
            ∀ v' ∈ u.bursts.queue, v'.kind = .blankFill → v'.served ≠ some ⟨w, i⟩)) ∧
    (15 < window.toNat →
      exec (.stage window r) s =
        .next (State.settle (s.refusedWith (0x11 :: 13 :: window :: bindRecordBytes r) .badParam)) ∧
      exec (.release window) s = .next (State.settle (s.refusedWith [0x13, 2, window, 0] .badParam))) ∧
    (∀ w : WinIx, window.toNat = w.val → s.window w = .unbound →
      exec (.stage window r) s =
        .next (State.settle (s.refusedWith (0x11 :: 13 :: window :: bindRecordBytes r) .wrongState)) ∧
      exec (.release window) s = .next (State.settle (s.refusedWith [0x13, 2, window, 0] .wrongState))) ∧
    (∀ w : WinIx, window.toNat = w.val → s.window w ≠ .unbound →
      (bindingOf? r = none → exec (.stage window r) s =
        .next (State.settle (s.refusedWith (0x11 :: 13 :: window :: bindRecordBytes r) .badParam))) ∧
      (∀ n, bindingOf? r = some n → s.conflicts w n = true → exec (.stage window r) s =
        .next (State.settle (s.refusedWith (0x11 :: 13 :: window :: bindRecordBytes r) .conflict))))

/-- FORCE is refused with BAD-PARAM for a window number outside 0..15 and with WRONG-STATE for a window
that is UNBOUND or BOUND, and then changes nothing; to a STAGED window it is answered DONE (R33). -/
def Obligations.ForceNeedsStagedWindow : Prop :=
  ∀ (window : Byte) (s : State), s.power = .running →
    (15 < window.toNat → exec (.force window) s =
      .next (State.settle (s.refusedWith [0x12, 1, window] .badParam))) ∧
    (∀ w : WinIx, window.toNat = w.val → (s.window w).isStaged = false → exec (.force window) s =
      .next (State.settle (s.refusedWith [0x12, 1, window] .wrongState))) ∧
    (∀ w : WinIx, window.toNat = w.val → (s.window w).isStaged = true →
      ∃ t, exec (.force window) s = .next t ∧
        t.link = { command := [0x12, 1, window], response := [0x00] })

/-- The swap of a quiet STAGED window: its entries are destroyed, its staged binding becomes current with
one new ABSENT entry for each sector, or leaves it UNBOUND if it is the empty one, its Deferred-Cycle
records and its places on the Backlog List are removed, and other windows stay (R14, R26, R32). A window
that is not quiet, or not STAGED, is not swapped (R31); that the row then changes nothing, and that it makes
one swap by itself, is the model's (logs 2 and 4). -/
def Obligations.SwapReplacesBinding : Prop :=
  ∀ (w : WinIx) (s : State), s.power = .running →
    ((s.window w).quiet = false → exec (.swap w) s = .next (State.settle s)) ∧
    (∀ b next es, s.window w = .staged b next es → (∀ e ∈ es, e.state.isQuiet) →
      ∃ u, exec (.swap w) s = .next (State.settle u) ∧
        u.windows = s.windows.set w (match next with
          | some n => .bound n ((List.range n.count).map fun i => Entry.new (n.diskAddr i))
          | none => .unbound) ∧
        (∀ tag : Tag, u.path.deferred[tag] =
          (s.path.deferred[tag]).filter fun q => decide (q.ref.win ≠ w)) ∧
        u.pool.backlog = s.pool.backlog.filter (fun x => decide (x.win ≠ w)) ∧
        u.pool.records = s.pool.records ∧ u.memory = s.memory ∧ u.engines = s.engines ∧
        u.slots = s.slots ∧ u.lastDiscard = s.lastDiscard ∧ u.bursts = s.bursts ∧
        (∀ d, (u.volume d).present = (s.volume d).present))

/-- An accepted FORCE makes the staged binding current, and a RELEASE with the discard option leaves the
window UNBOUND: the entries are given up. When n > 0 of them were dirty, the last-discard record takes the
window, n, the drive and the time, and DISCARDED is raised; with none dirty the record stays. The dirty
entries of every other window stay as they are (R34, R37). The secure marks of the dirty entries are counted
as failures of their ACTIVE slots, and a slot left without marks ends DONE-FAILED (R34, R152); a record of
the window that goes on is detached (R35). A RELEASE with the discard option is refused for a window number
outside 0..15 and for an UNBOUND window, and then changes nothing (R37). The order inside the moment is the
model's (log 16), and so is the options byte of RELEASE in the command buffer (log 8). -/
def Obligations.ForceAndDiscardGiveUpEntries : Prop :=
  (∀ (window : Byte) (s : State), s.power = .running →
    (15 < window.toNat → exec (.releaseDiscard window) s =
      .next (State.settle (s.refusedWith [0x13, 2, window, 1] .badParam))) ∧
    (∀ w : WinIx, window.toNat = w.val → s.window w = .unbound → exec (.releaseDiscard window) s =
      .next (State.settle (s.refusedWith [0x13, 2, window, 1] .wrongState)))) ∧
  ∀ (window : Byte) (w : WinIx) (c : Instr) (next : Option Binding) (b : Binding) (s : State),
    s.power = .running → window.toNat = w.val → s.binding? w = some b →
    ((∃ es, c = .force window ∧ s.window w = .staged b next es) ∨
      (c = .releaseDiscard window ∧ next = none)) →
    ∃ u, exec c s = .next (State.settle u) ∧ u.link.response = [0x00] ∧ u.memory = s.memory ∧
      u.window w = (match next with
        | some n => .bound n ((List.range n.count).map fun i => Entry.new (n.diskAddr i))
        | none => .unbound) ∧
      (∀ tag : Tag, u.path.deferred[tag] =
        (s.path.deferred[tag]).filter fun q => decide (q.ref.win ≠ w)) ∧
      (∀ x, x ∈ u.pool.backlog → x.win ≠ w) ∧
      (∀ x e, x.win ≠ w → s.entry? x = some e → e.state.isDirty → u.entry? x = some e) ∧
      (∀ k, (s.slot k).state = .active →
        let m := (s.window w).entries.countP fun e => e.state.isDirty && e.marks.getLsbD k.val
        m ≤ (s.slot k).remaining →
        (u.slot k).remaining = (s.slot k).remaining - m ∧ (u.slot k).failed = (s.slot k).failed + m ∧
        (u.slot k).taken = (s.slot k).taken ∧
        (m < (s.slot k).remaining ∨ m = 0 → (u.slot k).state = .active) ∧
        (0 < m → m = (s.slot k).remaining → (u.slot k).state = .doneFailed ∧
          (u.slot k).ended = some s.clock.coarse ∧ u.events.raised .secureDone)) ∧
      (∀ r q y, r ∈ s.pool.order → s.record? r = some q → q.owner = some y → y.win = w →
        s.endsAtForce r = false → ∃ q', u.record? r = some q' ∧ q'.kind = q.kind ∧ q'.owner = none) ∧
      (s.dirtyCount w = 0 → u.lastDiscard = s.lastDiscard) ∧
      (0 < s.dirtyCount w → u.events.raised .discarded ∧
        u.lastDiscard = some { win := w, count := s.dirtyCount w, drive := b.drive,
                               time := s.clock.coarse })

/-! ## Secure slots -/

/-- An accepted SECURE answers the number of the lowest FREE slot, which takes the request, and puts the
slot's mark and the urgent flag on every entry of the target's windows that is DIRTY, COPYING, WRITING,
REDIRTY or STRANDED; UNWRITTEN entries are counted as failures; no other entry changes. With no entry to
mark the slot is DONE at once and SECURE-DONE is raised. An empty target, and a request that finds no FREE
slot, is refused (R149, R150, R152). -/
def Obligations.SecureMarksTheTarget : Prop :=
  ∀ (target : BitVec 16) (last : Bool) (deadline : BitVec 16) (s : State), s.power = .running →
    (∀ k, s.judgeSecure target last = .ok k → ∃ u,
      exec (.secure target last deadline) s = .next (State.settle u) ∧
      (s.slot k).state = .free ∧ (∀ j, (s.slot j).state = .free → k ≤ j) ∧
      u.link.response = [0x00, BitVec.ofNat 8 k.val] ∧ u.memory = s.memory ∧ u.engines = s.engines ∧
      (∀ j, j ≠ k → u.slot j = s.slot j) ∧
      (∀ x e, s.entry? x = some e → ∃ e', u.entry? x = some e' ∧ e'.state = e.state ∧
        e'.addr = e.addr ∧ e'.dirtySince = e.dirtySince ∧
        if target.getLsbD x.win.val && e.state.marked then
          e'.urgent = true ∧ e'.marks = e.marks ||| BitVec.twoPow 4 k.val
        else e' = e) ∧
      (u.slot k).target = target ∧ (u.slot k).stampLast = last ∧ (u.slot k).deadline = deadline ∧
      (u.slot k).start = s.clock.coarse ∧
      (u.slot k).remaining = ((s.targetRefs target).filterMap s.entry?).countP (fun e => e.state.marked) ∧
      (u.slot k).failed =
        ((s.targetRefs target).filterMap s.entry?).countP (fun e => decide (e.state = .unwritten)) ∧
      (u.slot k).taken = (u.slot k).remaining + (u.slot k).failed ∧
      (0 < (u.slot k).remaining → (u.slot k).state = .active ∧ (u.slot k).ended = none) ∧
      ((u.slot k).remaining = 0 → u.events.raised .secureDone ∧
        (u.slot k).ended = some s.clock.coarse ∧
        (u.slot k).state = if (u.slot k).failed = 0 then .doneOk else .doneFailed)) ∧
    (target = 0 → ∃ command, exec (.secure target last deadline) s =
      .next (State.settle (s.refusedWith command .badParam))) ∧
    (target ≠ 0 → last = false → (∀ k, (s.slot k).state ≠ .free) → ∃ command,
      exec (.secure target last deadline) s = .next (State.settle (s.refusedWith command .noRoom)))

/-- SECURE STATUS answers the slot's fields, and a slot found DONE then becomes FREE; reading a FREE or an
ACTIVE slot changes nothing but the response, and a slot number outside 0..3 is refused with BAD-PARAM
(R155). The end time of an ACTIVE slot is sent as FFh bytes (the model's choice, log 19). That a
set stamp-last flag is sent as 1 is the model's too (log 39). -/
def Obligations.SecureStatusFreesDoneSlot : Prop :=
  ∀ (slot : Byte) (s : State), s.power = .running →
    (3 < slot.toNat → exec (.secureStatus slot) s = .next (s.refusedWith [0x21, 1, slot] .badParam)) ∧
    (∀ k : SlotIx, slot.toNat = k.val →
      ((s.slot k).state = .free → exec (.secureStatus slot) s = .next { s with
        link := { command := [0x21, 1, slot], response := 0x00 :: List.replicate 16 0 } }) ∧
      ((s.slot k).state = .active → exec (.secureStatus slot) s = .next { s with
        link := { command := [0x21, 1, slot], response := 0x00 :: (s.slot k).bytes } }) ∧
      ((s.slot k).state.isDone → exec (.secureStatus slot) s = .next { s with
        slots := s.slots.set k Slot.reset
        link := { command := [0x21, 1, slot], response := 0x00 :: (s.slot k).bytes } }) ∧
      ((s.slot k).bytes).length = 16)

/-! ## Drives: holds, volumes, formats -/

/-- HOLD sets LINK. An engine that is IDLE or HELD stops; one that prepares (WAIT-BUFFER, POSITIONING,
WAIT-CHANNEL) has its record returned to WAITING with its attempts, enqueue time and recalibrated flag
kept, its miss count 0 and its buffer freed, and a write-back's entry back in DIRTY; one in its disk work
or recalibrating goes on (R54, R84, R102). RUN clears LINK and FAULT, and an engine whose hold set is then
empty recalibrates if its cylinder is unknown and is IDLE otherwise (R84, R86). A drive outside 0..3 is
refused. That the first step of a recalibration comes one step time after it begins is the model's (log
36). -/
def Obligations.HoldStopsAndRunResumes : Prop :=
  ∀ (drive : Byte) (s : State), s.power = .running →
    (3 < drive.toNat →
      exec (.hold drive) s = .next (State.settle (s.refusedWith [0x30, 1, drive] .badParam)) ∧
      exec (.run drive) s = .next (State.settle (s.refusedWith [0x31, 1, drive] .badParam))) ∧
    ∀ d : DriveIx, drive.toNat = d.val →
      ((s.engine d).state = .idle ∨ (s.engine d).state = .held →
        exec (.hold drive) s = .next (State.settle { s with
          engines := s.engines.set d { s.engine d with
            link := true, state := if (s.engine d).door then .notReady else .held }
          link := { command := [0x30, 1, drive], response := [0x00] } })) ∧
      ((s.engine d).state ∈ [EngineState.notReady, .recalibrating, .select, .searching, .reading, .writing,
          .verifying, .formatting] →
        exec (.hold drive) s = .next (State.settle { s with
          engines := s.engines.set d { s.engine d with link := true }
          link := { command := [0x30, 1, drive], response := [0x00] } })) ∧
      (∀ r q, (s.engine d).state ∈ [EngineState.waitBuffer, .positioning, .waitChannel] →
        (s.engine d).current = some r → s.record? r = some q → q.detached = false →
        (∀ d', d' ≠ d → (s.engine d').current ≠ some r) →
        ∃ u, exec (.hold drive) s = .next (State.settle u) ∧
          (u.engine d).link = true ∧ (u.engine d).current = none ∧
          (u.engine d).state = (if (s.engine d).door then .notReady else .held) ∧
          u.link.response = [0x00] ∧ u.memory = s.memory ∧
          (∃ q', u.record? r = some q' ∧ q'.kind = q.kind ∧ q'.owner = q.owner ∧ q'.phase = .waiting ∧
            q'.misses = 0 ∧ q'.buffer = none ∧ q'.attempts = q.attempts ∧ q'.recal = q.recal ∧
            q'.enqueued = q.enqueued) ∧
          (∀ x e, q.kind = .writeback → q.owner = some x → s.entry? x = some e → e.state.inWriteback →
            u.entry? x = some { e with state := .dirty, redirtySince := none, late := 0 })) ∧
      exec (.run drive) s = .next (State.settle { s with
        engines := s.engines.set d
          (let f := { s.engine d with link := false, fault := false }
           if f.door = false ∧ f.dip = false ∧ (f.state = .held ∨ f.state = .notReady) then
             if f.cyl = none then
               { f with state := .recalibrating, motion := .recal, inward := false
                        stepTicks := f.stepMs * 100, recalSteps := 0
                        wait := if f.track0 then 1500 else f.stepMs * 100, idle := 0 }
             else { f with state := .idle }
           else f)
        link := { command := [0x31, 1, drive], response := [0x00] } })

/-- ADOPT is refused with BAD-PARAM for a drive outside 0..3 and with WRONG-STATE for a drive that is not in
MISMATCH, and then changes nothing. An accepted ADOPT sets the bound volume id to the present one; the
drive is ATTACHED with its write-protect line sampled; STRANDED entries of its windows become DIRTY with
their write-backs provided for, and CLEAN ones ABSENT; other entries and the changed-since-stamp flag stay;
VOLUME-ARRIVED is raised (R139). -/
def Obligations.AdoptTakesPresentVolume : Prop :=
  ∀ (drive : Byte) (s : State), s.power = .running →
    (3 < drive.toNat → exec (.adopt drive) s =
      .next (State.settle (s.refusedWith [0x32, 1, drive] .badParam))) ∧
    ∀ d : DriveIx, drive.toNat = d.val →
      ((s.volume d).state ≠ .mismatch → exec (.adopt drive) s =
        .next (State.settle (s.refusedWith [0x32, 1, drive] .wrongState))) ∧
      ((s.volume d).state = .mismatch → ∃ u, exec (.adopt drive) s = .next (State.settle u) ∧
        u.link = { command := [0x32, 1, drive], response := [0x00] } ∧ u.memory = s.memory ∧
        u.engines = s.engines ∧
        u.volumes = s.volumes.set d { s.volume d with
          state := .attached
          protect := (s.engine d).protect
          boundId := match (s.volume d).present with
            | some p => some p.volumeId
            | none => none } ∧
        u.events.raised .volumeArrived ∧
        (∀ x e b, s.entry? x = some e → s.binding? x.win = some b →
          u.entry? x = some
            (if b.drive ≠ d then e
             else if e.state = .stranded then { e with state := .dirty }
             else if e.state = .clean then Entry.new e.addr
             else e)) ∧
        (∀ x e b, s.entry? x = some e → s.binding? x.win = some b → b.drive = d → e.state = .stranded →
          ((s.window x.win).isStaged ∨ e.urgent ∨ e.marks ≠ 0 ∨ b.gathered = false) →
          (u.opOf x).isSome ∨ x ∈ u.pool.backlog))

/-- RETRY: of the entries of the windows whose current binding names the drive, UNWRITTEN ones become DIRTY,
or STRANDED if the drive is not ATTACHED, with the failure cause dropped, and on an ATTACHED drive have
their write-backs provided for; FAILED ones become ABSENT; every other entry stays. FAULT is cleared
(R51, R59, R84). A drive outside 0..3 is refused. -/
def Obligations.RetryRevivesFailures : Prop :=
  ∀ (drive : Byte) (s : State), s.power = .running →
    (3 < drive.toNat → exec (.retry drive) s =
      .next (State.settle (s.refusedWith [0x33, 1, drive] .badParam))) ∧
    ∀ d : DriveIx, drive.toNat = d.val →
      ∃ u, exec (.retry drive) s = .next (State.settle u) ∧
        u.link = { command := [0x33, 1, drive], response := [0x00] } ∧ u.memory = s.memory ∧
        u.volumes = s.volumes ∧ (u.engine d).fault = false ∧ (u.engine d).link = (s.engine d).link ∧
        (∀ d', d' ≠ d → u.engine d' = s.engine d') ∧
        (∀ x e b, s.entry? x = some e → s.binding? x.win = some b →
          u.entry? x = some
            (if b.drive ≠ d then e
             else if e.state = .unwritten then
              { e with
                state := if (s.volume d).state = .attached then .dirty else .stranded
                cause := none }
             else if e.state = .failed then Entry.new e.addr
             else e)) ∧
        (∀ x e b, s.entry? x = some e → s.binding? x.win = some b → b.drive = d →
          e.state = .unwritten → (s.volume d).state = .attached →
          (u.opOf x).isSome ∨ x ∈ u.pool.backlog)

/-- FORMAT is judged in the order of R125: parameters, the volume state, current and staged bindings and
the pool's FORMAT records, then the pool's room. An accepted one takes the lowest free record, or with none
free the record of the youngest WAITING prefetch, whose entry returns to ABSENT (R68), as a WAITING FORMAT
record of class URGENT for its track side, with its parameters, and changes nothing else outside the pool
and the link (R71, R125). -/
def Obligations.FormatIsJudgedAndQueued : Prop :=
  ∀ (p : FormatParams) (s : State), s.power = .running → ∃ command,
    ((3 < p.drive.toNat ∨ formatParamsGood p = false) →
      exec (.format p) s = .next (State.settle (s.refusedWith command .badParam))) ∧
    (∀ d : DriveIx, p.drive.toNat = d.val → formatParamsGood p = true →
      ((s.volume d).state = .empty →
        exec (.format p) s = .next (State.settle (s.refusedWith command .wrongState))) ∧
      ((s.volume d).state ≠ .empty → (s.formatClaimed d p ∨ s.formatQueued d p) →
        exec (.format p) s = .next (State.settle (s.refusedWith command .conflict))) ∧
      ((s.volume d).state ≠ .empty → s.formatClaimed d p = false → s.formatQueued d p = false →
        (s.freeRecord? = none → s.evictable? = none →
          exec (.format p) s = .next (State.settle (s.refusedWith command .noRoom))) ∧
        (∀ r, (s.freeRecord? = some r ∨ (s.freeRecord? = none ∧ s.evictable? = some r)) →
          ∃ u, exec (.format p) s = .next (State.settle u) ∧
          u.link = { command := command, response := [0x00] } ∧
          (s.freeRecord? = some r → u.windows = s.windows) ∧
          (∀ q y f, s.freeRecord? = none → s.record? r = some q → q.owner = some y →
            s.entry? y = some f → u.entry? y = some (if f.state = .queued ∨ f.state = .filling then
              Entry.new f.addr else f) ∧ ∀ z, z ≠ y → u.entry? z = s.entry? z) ∧
          u.volumes = s.volumes ∧ u.engines = s.engines ∧ u.events = s.events ∧ u.memory = s.memory ∧
          (∀ r', r' ≠ r → u.record? r' = s.record? r') ∧
          ∃ q, u.record? r = some q ∧ q.kind = .format ∧ q.urgency = .urgent ∧ q.phase = .waiting ∧
            q.drive = d ∧ q.cylinder = p.cylinder.toNat ∧ q.side = p.side.toNat ∧ q.sector = none ∧
            q.owner = none ∧ q.buffer = none ∧ q.format = some p))) ∧
    (formatParamsGood p = true → p.cylinder.toNat ≤ 76 ∧ p.side.toNat ≤ 1 ∧
      p.interleave.toNat ∈ [1, 3, 5, 7] ∧ (∀ x ∈ p.descriptors, x = 0 ∨ x = 1) ∧
      (p.cylinder = 0 → p.side = 0 → p.descriptors.getD 0 0 = 0 ∧ p.volumeId ≠ 0 ∧
        (p.sides = 1 ∨ p.sides = 2) ∧ p.lastCyl.toNat ≤ 76))

/-- The rise of a drive's ready line clears DOOR and forgets the cylinder, the captures and the bad-period
count; the period is 16,667 and the index-lost check begins; the engine recalibrates, or is HELD while
another hold stands. The volume is READING-STAMP with no stamp values, its bound id, its changed flag and
its records kept, and a stamp read of class URGENT is requested: it takes the lowest free record, or with none
free the record of the youngest WAITING prefetch, whose entry returns to ABSENT, or else the drive becomes a
stamp wait (R68, R70, R85, R133). During a reset (R158) or without main supply (log 28) only the line
changes. That a rise of a line that is high already does nothing is the model's (log 2), and so is the level
of the write-protect line as an operand (log 13). -/
def Obligations.ReadyRiseStartsStampRead : Prop :=
  ∀ (d : DriveIx) (protect : Bool) (s : State),
    ((s.engine d).ready = true → exec (.readyLineRise d protect) s = .next s) ∧
    ((s.engine d).ready = false → s.power ≠ .running → exec (.readyLineRise d protect) s = .next { s with
      engines := s.engines.set d { s.engine d with ready := true, protect := protect } }) ∧
    ((s.engine d).ready = false → s.power = .running →
      ∃ u, exec (.readyLineRise d protect) s = .next (State.settle u) ∧
        u.memory = s.memory ∧ u.events = s.events ∧
        u.volumes = s.volumes.set d { s.volume d with
          state := .readingStamp, outcome := .none, present := none, protect := false } ∧
        (∀ d', d' ≠ d → u.engine d' = s.engine d') ∧
        (u.engine d).ready = true ∧ (u.engine d).protect = protect ∧ (u.engine d).door = false ∧
        (u.engine d).link = (s.engine d).link ∧ (u.engine d).fault = (s.engine d).fault ∧
        (u.engine d).dip = (s.engine d).dip ∧ (u.engine d).cyl = none ∧
        (u.engine d).period = 16667 ∧ (u.engine d).newer = none ∧ (u.engine d).older = none ∧
        (u.engine d).bad = 0 ∧ (u.engine d).lostTimer = some 0 ∧
        (u.engine d).state =
          (if (s.engine d).link ∨ (s.engine d).fault ∨ (s.engine d).dip then .held else .recalibrating) ∧
        (∀ r, (s.freeRecord? = some r ∨ (s.freeRecord? = none ∧ s.evictable? = some r)) →
          ∃ q, u.record? r = some q ∧ q.kind = .stampRead ∧ q.urgency = .urgent ∧
            q.phase = .waiting ∧ q.drive = d ∧ q.cylinder = 0 ∧ q.side = 0 ∧ q.sector = some 0 ∧
            q.owner = none) ∧
        (∀ r q y f, s.freeRecord? = none → s.evictable? = some r → s.record? r = some q →
          q.owner = some y → s.entry? y = some f → f.state = .queued →
          u.entry? y = some (Entry.new f.addr)) ∧
        (s.freeRecord? = none → s.evictable? = none → d ∈ u.pool.stampWaits))

/-- The fall of a drive's ready line from a state other than EMPTY drops the gate and the head-load line,
sets DOOR and leaves the engine NOT-READY without a record; the volume is EMPTY with its bound id kept and
its last-removal record filled; DIRTY, COPYING, WRITING and REDIRTY entries of its windows become STRANDED
and leave the Backlog List, QUEUED entries and FILLING ones with a record become ABSENT, and the others
stay; VOLUME-REMOVED is raised (R57, R85, R137, R138). During a reset (R158) or without main supply (log 28)
only the line changes. The order inside the moment is the model's (log 14). -/
def Obligations.ReadyFallStrandsChanges : Prop :=
  ∀ (d : DriveIx) (s : State),
    (s.power ≠ .running → exec (.readyLineFall d) s = .next { s with
      engines := s.engines.set d { s.engine d with ready := false } }) ∧
    (s.power = .running → (s.volume d).state = .empty →
      exec (.readyLineFall d) s = .next (State.settle { s with
        engines := s.engines.set d { s.engine d with ready := false } })) ∧
    (s.power = .running → (s.volume d).state ≠ .empty →
      ∃ u, exec (.readyLineFall d) s = .next (State.settle u) ∧
        u.memory = s.memory ∧ u.events.raised .volumeRemoved ∧
        (u.volume d).state = .empty ∧ (u.volume d).outcome = .none ∧ (u.volume d).present = none ∧
        (u.volume d).protect = false ∧ (u.volume d).changed = false ∧
        (u.volume d).boundId = (s.volume d).boundId ∧
        (∃ q, (u.volume d).lastRemoval = some q ∧ q.before = (s.volume d).state ∧
          q.changed = (s.volume d).changed ∧ q.time = s.clock.coarse ∧
          q.removed = (s.driveList d).length ∧
          q.volumeId = match (s.volume d).present with
            | some p => some p.volumeId
            | none => none) ∧
        u.engine d = { s.engine d with
          ready := false, state := .notReady, door := true, gate := false, loaded := false
          motion := .still, cyl := none, newer := none, older := none, bad := 0, lostTimer := none
          current := none, formatOn := false, idFound := false } ∧
        (∀ x e b, s.entry? x = some e → s.binding? x.win = some b → b.drive = d →
          (e.state.inWriteback → x ∉ u.pool.backlog) ∧
          u.entry? x = some
            (if e.state.inWriteback then { e with state := .stranded, redirtySince := none, late := 0 }
             else if e.state = .queued ∨ (e.state = .filling ∧ (s.opOf x).isSome) then Entry.new e.addr
             else e)))

/-! ## Drives: index pulses, steps, faults -/

/-- An index pulse of a ready drive captures the tick count; an interval since the capture before of
15,000..18,400 ticks becomes the period and clears the bad-period count, another leaves the period and
counts; the index-lost check begins afresh (R88, R89). When 36,800 ticks have passed with no index pulse,
SPEED-FAULT and DRIVE-HALTED are raised, FAULT is set and the last-fault record is filled, though a pulse
follows (R89). A drive that is not ready captures nothing. That the ticks before the pulse come with it is
the model's (log 5), and so is it that what the earlier pulses have made due comes about first (log 3). -/
def Obligations.IndexPulseMeasuresPeriod : Prop :=
  ∀ (d : DriveIx) (elapsed : Nat) (s : State), s.power = .running →
    ∃ t, exec (.indexPulse d elapsed) s = .next t ∧ t.memory = s.memory ∧
      t.clock.tick = s.clock.tick + BitVec.ofNat 16 elapsed ∧
      (∀ k, s.longDipIn? elapsed = some k → (∃ raised, s.longDipTo t raised) ∧
        (t.engine d).newer = none ∧ (t.engine d).ready = (s.engine d).ready) ∧
      (s.longDipIn? elapsed = none →
        ((s.engine d).ready = false → (t.engine d).newer = (s.engine d).newer ∧
          (t.engine d).period = (s.engine d).period) ∧
        (∀ n, (s.engine d).lostTimer = some n → 36800 ≤ n + elapsed →
          t.events.raised .speedFault ∧ t.events.raised .driveHalted ∧ (t.engine d).fault = true ∧
          ∃ q, (t.engine d).lastFault = some q ∧ q.fault = .speedFault ∧ q.outcome = .driveFault) ∧
        ((s.engine d).ready = true →
          (t.engine d).newer = some (s.clock.tick + BitVec.ofNat 16 elapsed) ∧
          (t.engine d).older = (s.engine d).newer ∧ (t.engine d).lostTimer = some 0 ∧
          ((s.engine d).newer = none → (t.engine d).period = (s.engine d).period) ∧
          (∀ before, (s.engine d).newer = some before →
            let n := since (s.clock.tick + BitVec.ofNat 16 elapsed) before
            (15000 ≤ n ∧ n ≤ 18400 → (t.engine d).period = n ∧ (t.engine d).bad = 0) ∧
            (¬(15000 ≤ n ∧ n ≤ 18400) → (t.engine d).period = (s.engine d).period ∧
              ((s.engine d).bad < 3 → (t.engine d).bad = (s.engine d).bad + 1)))))

/-- The index pulses of a FORMAT that has been granted the channel, the ticks before the pulse having passed
(log 5). At the first the write-protect line is sampled: an active line fails the format with cause
PROTECTED; otherwise the gate is raised, the track is laid out with the slot time of the period then in
force, and the changed-since-stamp flag is set. At the next the track side stands on the disk, the gate is
dropped, FORMAT-DONE is raised and the last-format record filled; a format of cylinder 0, side 0 gives the
drive its stamp values and attaches it with the changed flag clear (R127 to R130, R141, R142). The track side
is an index gap of 64 bytes, of whatever content (log 34), and 16 slots: slot j begins j slot times and 64
byte times after the index pulse (a byte time is eight fifths of a tick), holds the 315 bytes of its sync
runs, its ID field with the logical sector of slot j and the flag of descriptor j, its ID gap and its data
field, and is followed by filler up to the next slot, or after slot 15 up to the index pulse (R119, R127).
The slot time is taken after the capture at that index (log 24). That the marks stand as plain bytes is the
model's (log 38). -/
def Obligations.FormatWritesTrackBetweenIndexes : Prop :=
  (∀ (d : DriveIx) (r : RecIx) (q : Record) (p : FormatParams) (elapsed : Nat) (s : State),
    s.power = .running → s.settled → (s.engine d).bad < 3 → (s.engine d).state = .formatting →
    (s.engine d).current = some r →
    let t := s.passTime elapsed
    (t.engine d).ready = true → (t.engine d).state = .formatting → (t.engine d).current = some r →
    t.record? r = some q → q.format = some p → q.kind = .format →
    ∃ u, exec (.indexPulse d elapsed) s = .next (State.settle u) ∧ u.memory = s.memory ∧
      ((t.engine d).formatOn = false → (t.engine d).protect = false →
        (u.engine d).gate = true ∧ (u.engine d).formatOn = true ∧
        (u.engine d).formatSlot = (u.engine d).period / 16 ∧ (u.engine d).state = .formatting ∧
        (u.engine d).current = some r ∧ (u.volume d).changed = true ∧ u.pool = t.pool ∧
        u.events = t.events) ∧
      ((t.engine d).formatOn = false → (t.engine d).protect = true →
        (u.engine d).gate = false ∧ (u.engine d).current = none ∧ u.events.raised .formatFailed ∧
        (u.volume d).lastFormat = some
          { cause := some .protect, cylinder := q.cylinder, side := q.side,
            interleave := p.interleave, time := t.clock.coarse }) ∧
      ((t.engine d).formatOn = true →
        u.diskOut = some (.track d q.cylinder q.side (formatTrack p (t.engine d).formatSlot)) ∧
        (u.engine d).gate = false ∧ (u.engine d).current = none ∧ u.events.raised .formatDone ∧
        (u.volume d).lastFormat = some
          { cause := none, cylinder := q.cylinder, side := q.side,
            interleave := p.interleave, time := t.clock.coarse } ∧
        (isStampTrack p = false → (u.volume d).changed = true ∧
          (u.volume d).state = (t.volume d).state) ∧
        (isStampTrack p = true → (u.volume d).changed = false ∧ (u.volume d).state = .attached ∧
          (u.volume d).outcome = .valid ∧ d ∉ u.pool.stampWaits ∧
          (u.volume d).present = some
            { volumeId := p.volumeId, interleave := p.interleave, sides := p.sides, flags := p.flags,
              lastCyl := p.lastCyl }))) ∧
  (∀ (p : FormatParams) (S : Nat), (formatTrack p S).indexGap.length = 64 ∧
    (formatTrack p S).slots.length = 16 ∧
    ∀ j, j < 16 → ∃ sector id data, (formatTrack p S).slots[j]? = some
        { start := 5 * (j * S) + 64 * 8
          bytes := List.replicate 12 0x00 ++
            (id ++ [(crc id).extractLsb' 8 8, (crc id).extractLsb' 0 8]) ++
            List.replicate 24 0x3C ++ List.replicate 12 0x00 ++
            ((0xC9 :: data) ++ [(crc (0xC9 :: data)).extractLsb' 8 8,
              (crc (0xC9 :: data)).extractLsb' 0 8])
          filler := 0x3C
          gapEnd := if j = 15 then none else some (5 * ((j + 1) * S) + 64 * 8) } ∧
      id = [0xC6, p.cylinder, p.side, BitVec.ofNat 8 sector, 0x01,
        if (p.descriptors.getD j 0).getLsbD 0 then 1 else 0] ∧
      (p.interleave.toNat ∈ [1, 3, 5, 7] → sector < 16 ∧ sector * p.interleave.toNat % 16 = j) ∧
      data.length = 256 ∧
      data = (if p.cylinder = 0 ∧ p.side = 0 ∧ j = 0 then
          [0x4B, 0x50, 0x01, p.flags, p.volumeId.extractLsb' 24 8, p.volumeId.extractLsb' 16 8,
            p.volumeId.extractLsb' 8 8, p.volumeId.extractLsb' 0 8, p.interleave, p.sides, p.lastCyl] ++
            List.replicate 245 p.fill
        else List.replicate 256 p.fill))

/-- The three faults of a drive: three bad periods in a row, an index lost for 36,800 ticks, and 80 steps of
a recalibration without track 0. Each raises its event and DRIVE-HALTED, sets FAULT, fills the last-fault
record and leaves the engine without an operation (R84, R86, R89, R105); where the condition does not hold
nothing happens (log 2). The ticks lacking to 36,800 pass at the step, and what else they bring comes about
with them (log 5): where the dip timer reaches 2,000 before the index is lost, the warm reset of the long dip
stands in place of the fault (R157). The moment of the seek fault is the model's (log 33). -/
def Obligations.DriveFaultsHaltTheDrive : Prop :=
  ∀ (d : DriveIx) (s : State), s.power = .running →
    ((s.engine d).bad < 3 → exec (.speedFault d) s = .next (State.settle s)) ∧
    ((s.engine d).lostTimer = none → exec (.indexLost d) s = .next (State.settle s)) ∧
    (¬((s.engine d).motion = .recal ∧ (s.engine d).track0 = false ∧ 80 ≤ (s.engine d).recalSteps) →
      exec (.seekFault d) s = .next (State.settle s)) ∧
    (∀ n k, (s.engine d).lostTimer = some n → s.longDipIn? (36800 - n) = some k →
      ∃ u, exec (.indexLost d) s = .next (State.settle u) ∧ (∃ raised, s.longDipTo u raised) ∧
        u.clock.tick = s.clock.tick + BitVec.ofNat 16 (36800 - n) ∧ u.events = EventUnit.reset ∧
        (u.engine d).fault = false ∧ u.memory = s.memory) ∧
    (∀ (c : Instr) (cause : Cause) (event : Event),
      ((c = .speedFault d ∧ 3 ≤ (s.engine d).bad ∧ cause = .speedFault ∧ event = .speedFault) ∨
        (c = .indexLost d ∧ (∃ n, (s.engine d).lostTimer = some n ∧ s.longDipIn? (36800 - n) = none) ∧
          cause = .speedFault ∧ event = .speedFault) ∨
        (c = .seekFault d ∧ (s.engine d).motion = .recal ∧ (s.engine d).track0 = false ∧
          80 ≤ (s.engine d).recalSteps ∧ cause = .seekFault ∧ event = .seekFault)) →
      ∃ u, exec c s = .next (State.settle u) ∧ u.memory = s.memory ∧
        u.events.raised event ∧ u.events.raised .driveHalted ∧ (u.engine d).fault = true ∧
        (∃ q, (u.engine d).lastFault = some q ∧ q.fault = cause ∧ q.outcome = .driveFault ∧
          q.time = u.clock.coarse) ∧
        ((c = .indexLost d → ∃ n, (s.engine d).lostTimer = some n ∧ n ≤ 36800 ∧
            s.clock.toCoarse + (36800 - n) < 10000 ∧
            ∀ d' m, d' ≠ d → (s.engine d').lostTimer = some m → m < n) →
          u.clock.coarse = s.clock.coarse ∧
          (∃ q, (u.engine d).lastFault = some q ∧
            q.kind = ((s.engine d).current.bind s.record?).map Record.kind) ∧
          ((∀ r, (s.engine d).current = some r → s.record? r ≠ none) → (u.engine d).current = none)) ∧
        (c = .speedFault d → (u.engine d).bad = 0) ∧
        (∀ n, c = .indexLost d → (s.engine d).lostTimer = some n → (u.engine d).lostTimer = none ∧
          u.clock.tick = s.clock.tick + BitVec.ofNat 16 (36800 - n)) ∧
        (c = .seekFault d → (u.engine d).cyl = none))

/-- HEAD_UNLOAD unloads the heads of an engine that is IDLE, or HELD with no record, at an idle index count
of 8 (R90). A step of a seek moves the cylinder by one toward the target and, at the target, begins the
settle and the head load; a step of a recalibration counts, and begins the settle when track 0 is seen
(R86, R87). The ticks that were lacking to the step pass first, and a step that is not due any more after
them is not made (log 5). Where no step and no unloading is due nothing happens (log 2). The level of the
track-0 line comes with the step (log 13), and a known cylinder is counted down by a recalibration (log
21). -/
def Obligations.HeadsUnloadAndStep : Prop :=
  ∀ (d : DriveIx) (track0 : Bool) (s : State), s.power = .running →
    (8 ≤ (s.engine d).idle → (s.engine d).current = none →
      ((s.engine d).state = .idle ∨ (s.engine d).state = .held) →
      exec (.headUnload d) s = .next { s with
        engines := s.engines.set d { s.engine d with loaded := false } }) ∧
    ((s.engine d).idle < 8 → exec (.headUnload d) s = .next s) ∧
    let due (e : Engine) : Prop :=
      (e.motion = .seeking ∧ e.cyl ≠ none ∧ e.cyl ≠ some e.target) ∨
      (e.motion = .recal ∧ e.track0 = false ∧ e.recalSteps < 80)
    let v := s.passTime (s.engine d).wait
    let f := v.engine d
    (¬due (s.engine d) → exec (.stepPulse d track0) s = .next s) ∧
    (due (s.engine d) → ¬due f → exec (.stepPulse d track0) s = .next v) ∧
    (∀ c, due (s.engine d) → f.motion = .seeking → f.cyl = some c → c ≠ f.target →
      let c' := if c < f.target then c + 1 else c - 1
      exec (.stepPulse d track0) s = .next { v with
        engines := v.engines.set d { f with
          cyl := some c', track0 := track0
          wait := if c' = f.target then 1500 + (if f.loaded then 0 else 3500) else f.stepTicks } }) ∧
    (due (s.engine d) → f.motion = .recal → f.track0 = false → f.recalSteps < 80 →
      exec (.stepPulse d track0) s = .next { v with
        engines := v.engines.set d { f with
          cyl := f.cyl.map (· - 1), recalSteps := f.recalSteps + 1, track0 := track0
          wait := if track0 then 1500 else f.stepTicks } })

/-- A recalibration that has seen track 0 ends with the cylinder 0: an engine without an operation stops or
is IDLE, and within an operation it seeks back to the target, with the side-select line at the target's side
(R86, R87, R94). Positioning ends when the heads are in place: the engine requests the channel, is granted a
free one with its record IN-ENGINE and begins its search or its wait for the index, or joins the queue; a
write-back whose copy-out has not ended waits on (R92, R111). The ticks lacking to the end of the settles
pass first, and an end that is not due any more after them does not come about (log 5). Where none is due
nothing happens (log 2). -/
def Obligations.RecalibrationAndPositioningEnd : Prop :=
  ∀ (d : DriveIx) (s : State), s.power = .running →
    let v := s.passTime (s.engine d).wait
    let f := v.engine d
    let homed (e : Engine) : Prop := e.motion = .recal ∧ e.track0 = true
    let arrived (e : Engine) : Prop := e.motion = .seeking ∧ e.cyl = some e.target
    (¬homed (s.engine d) → exec (.recalibrationEnd d) s = .next (State.settle s)) ∧
    (homed (s.engine d) → ¬homed f → exec (.recalibrationEnd d) s = .next (State.settle v)) ∧
    (homed (s.engine d) → homed f → f.state = .recalibrating →
      exec (.recalibrationEnd d) s = .next (State.settle { v with
        engines := v.engines.set d { f with
          cyl := some 0, motion := .still
          state := if f.door then .notReady
            else if f.link ∨ f.fault ∨ f.dip then .held else .idle } })) ∧
    (∀ r q, homed (s.engine d) → homed f → f.state = .searching → f.current = some r →
      v.record? r = some q →
      ∃ u, exec (.recalibrationEnd d) s = .next (State.settle u) ∧ u.pool = v.pool ∧
        u.memory = s.memory ∧ (u.engine d).cyl = some 0 ∧ (u.engine d).motion = .seeking ∧
        (u.engine d).target = q.cylinder ∧ (u.engine d).side = q.side ∧
        (u.engine d).state = .searching ∧ (u.engine d).current = some r ∧
        (u.engine d).inward = (decide (0 < q.cylinder) || f.inward)) ∧
    (¬arrived (s.engine d) → exec (.positioningEnd d) s = .next (State.settle s)) ∧
    (arrived (s.engine d) → ¬arrived f → exec (.positioningEnd d) s = .next (State.settle v)) ∧
    (∀ r q, arrived (s.engine d) → arrived f → f.state = .searching → f.current = some r →
      v.record? r = some q →
      exec (.positioningEnd d) s = .next (State.settle { v with
        engines := v.engines.set d { f with
          loaded := true, motion := .still, searchPulses := 0, badId := false, idFound := false } })) ∧
    (∀ r q, arrived (s.engine d) → arrived f → f.state = .positioning → f.current = some r →
      v.record? r = some q →
      ∃ u, exec (.positioningEnd d) s = .next (State.settle u) ∧ u.memory = s.memory ∧
        u.clock = v.clock ∧ (u.engine d).loaded = true ∧ (u.engine d).current = some r ∧
        (q.kind = .writeback → q.copied = false →
          (u.engine d).state = .positioning ∧ u.chan = v.chan ∧ u.pool = v.pool) ∧
        ((q.kind ≠ .writeback ∨ q.copied = true) → v.chan.owner = none → v.chan.queue = [] →
          u.chan.owner = some d ∧ u.record? r = some { q with phase := .inEngine } ∧
          (u.engine d).state = if q.kind = .format then .formatting else .searching) ∧
        ((q.kind ≠ .writeback ∨ q.copied = true) → ¬(v.chan.owner = none ∧ v.chan.queue = []) →
          u.chan.owner = v.chan.owner ∧ u.chan.queue = v.chan.queue ++ [d] ∧
          (u.engine d).state = .waitChannel ∧ u.pool = v.pool))

/-! ## Disk work -/

/-- An ID field passing under a searching engine's heads: with a bad CRC it is noted and passed over; one
that checks and is not the target is passed over; the target with the defective flag ends the operation as a
failure: a write-back leaves its entry UNWRITTEN, a fill without data leaves its entry FAILED, each with
cause DEFECTIVE, and a stamp read leaves the volume UNKNOWN with its stamp unreadable; the good target ends
the search with the miss count 0, in READING, or in WRITING with the gate raised on an ATTACHED drive that is
not protected (R93, R97, R98, R134, R142). In VERIFYING the target ID field is found when its CRC checks, and
any other ID field is passed over (R99); what a defective flag does there is the model's (log 27). -/
def Obligations.SearchJudgesIdFields : Prop :=
  ∀ (d : DriveIx) (r : RecIx) (q : Record) (f : IdField) (s : State),
    s.power = .running → s.settled → (s.engine d).bad < 3 → (s.engine d).searchPulses < 2 →
    (s.engine d).current = some r → s.record? r = some q →
    let isTarget := f.cylinder.toNat = q.cylinder ∧ f.side.toNat = q.side ∧
      f.sector.toNat = q.sector.getD 0 ∧ f.size = 1
    ((s.engine d).state = .searching → (s.engine d).motion = .still →
      (idGood f = false → exec (.idFieldRead d f) s = .next (State.settle { s with
        engines := s.engines.set d { s.engine d with badId := true } })) ∧
      (idGood f = true → ¬isTarget → exec (.idFieldRead d f) s = .next (State.settle s)) ∧
      (idGood f = true → isTarget →
        (f.flags.getLsbD 0 = true → q.kind = .writeback → ∀ x e, q.owner = some x →
          s.entry? x = some e → e.state.inWriteback →
          ∃ u, exec (.idFieldRead d f) s = .next (State.settle u) ∧ u.memory = s.memory ∧
            u.entry? x = some { e with
              state := .unwritten, redirtySince := none, cause := some .defective, marks := 0
              late := 0 } ∧
            u.events.raised .writeFailed ∧ (u.engine d).current = none ∧
            (u.engine d).fault = (s.engine d).fault) ∧
        (f.flags.getLsbD 0 = true → (q.kind = .fill ∨ q.kind = .prefetch) →
          (s.engine d).dataHeld = false → ∀ x e, q.owner = some x → s.entry? x = some e →
          e.state = .filling →
          ∃ u, exec (.idFieldRead d f) s = .next (State.settle u) ∧ u.memory = s.memory ∧
            u.entry? x = some { e with state := .failed, cause := some .defective } ∧
            u.events.raised .fillFailed ∧ (u.engine d).current = none ∧
            (u.engine d).fault = (s.engine d).fault ∧
            ∃ g, (u.engine d).lastFault = some g ∧ g.fault = .defective ∧ g.outcome = .failed) ∧
        (f.flags.getLsbD 0 = true → q.kind = .stampRead →
          ∃ u, exec (.idFieldRead d f) s = .next (State.settle u) ∧ u.memory = s.memory ∧
            (u.volume d).state = .unknown ∧ (u.volume d).outcome = .unreadable ∧
            (u.volume d).present = none ∧ u.events.raised .volumeUnknown ∧
            (u.engine d).current = none ∧
            ∃ g, (u.engine d).lastFault = some g ∧ g.fault = .defective ∧
              g.outcome = .stampUnreadable) ∧
        (f.flags.getLsbD 0 = false → q.kind ≠ .writeback →
          exec (.idFieldRead d f) s = .next (State.settle { s with
            pool := { s.pool with records := s.pool.records.set r (some { q with misses := 0 }) }
            engines := s.engines.set d { s.engine d with state := .reading } })) ∧
        (f.flags.getLsbD 0 = false → q.kind = .writeback → (s.volume d).state = .attached →
          (s.volume d).protect = false →
          exec (.idFieldRead d f) s = .next (State.settle { s with
            pool := { s.pool with records := s.pool.records.set r (some { q with misses := 0 }) }
            engines := s.engines.set d { s.engine d with state := .writing, gate := true }
            volumes := s.volumes.set d { s.volume d with changed := true } })))) ∧
    ((s.engine d).state = .verifying →
      (idGood f = true → isTarget → exec (.idFieldRead d f) s = .next (State.settle { s with
        engines := s.engines.set d { s.engine d with idFound := true } })) ∧
      (¬(idGood f = true ∧ isTarget) → exec (.idFieldRead d f) s = .next (State.settle s)))

/-- A failed attempt with attempts left: a search's second index (MISS) adds 1 to the attempt and miss
counts and searches again, or recalibrates once at the second miss; a data mark that is missing in READING or
in VERIFYING, and a verify that does not find its field, add 1 to the attempt count and search again (R93,
R94, R95, R99, R121). One that spends the attempts ends the operation: a write-back's entry is UNWRITTEN with
the attempt's cause and WRITE-FAILED is raised; a fill's without data is FAILED with that cause and
FILL-FAILED is raised; a fill's with data held is delivered damaged under DELIVER, DAMAGED-DELIVERED being
raised, and is FAILED with cause DATA-CRC under FAULT; a stamp read leaves the volume UNKNOWN with its stamp
unreadable (R48, R55, R97, R100, R134). A row whose condition does not hold changes nothing (log 2), and a
miss is due until its step is made (log 3). -/
def Obligations.FailedAttemptsAreCounted : Prop :=
  ∀ (d : DriveIx) (r : RecIx) (q : Record) (s : State), s.power = .running →
    (s.engine d).current = some r → s.record? r = some q →
    let again (misses : Nat) : Record := { q with attempts := q.attempts + 1, misses := misses }
    let searchAgain : Engine := { s.engine d with
      state := .searching, motion := .still, searchPulses := 0, badId := false, idFound := false
      gate := false }
    let missed := (s.engine d).state = .searching ∧ (s.engine d).motion = .still ∧
      2 ≤ (s.engine d).searchPulses
    ((s.engine d).state = .searching → (s.engine d).searchPulses < 2 →
      exec (.miss d) s = .next (State.settle s)) ∧
    (missed → q.attempts + 1 < (s.engine d).retries → ∃ u, exec (.miss d) s = .next (State.settle u) ∧
      u.memory = s.memory ∧ u.events = s.events ∧ u.windows = s.windows ∧ u.chan = s.chan ∧
      (u.engine d).state = .searching ∧
      (if 1 ≤ q.misses ∧ q.recal = false then
        u.record? r = some { again 0 with recal := true } ∧
        (u.engine d).motion = .recal ∧ (u.engine d).recalSteps = 0
      else
        u.record? r = some (again (min 2 (q.misses + 1))) ∧
        (u.engine d).motion = .still ∧ (u.engine d).searchPulses = 0)) ∧
    (∀ c : Instr, ((c = .verifyMiss d ∧ (s.engine d).state = .verifying ∧ (s.engine d).idFound = false ∧
        2 ≤ (s.engine d).searchPulses) ∨
        (c = .dataMarkNotFound d ∧ (s.engine d).state = .verifying ∧ (s.engine d).idFound = true) ∨
        (c = .dataMarkNotFound d ∧ (s.engine d).state = .reading)) →
      q.attempts + 1 < (s.engine d).retries → exec c s = .next (State.settle { s with
        pool := { s.pool with records := s.pool.records.set r (some (again q.misses)) }
        engines := s.engines.set d searchAgain })) ∧
    (∀ (c : Instr) (cause : Cause) (misses : Nat), (s.engine d).retries ≤ q.attempts + 1 →
      ((c = .miss d ∧ missed ∧ cause = (if (s.engine d).badId then .idCrc else .notFound) ∧
          misses = min 2 (q.misses + 1)) ∨
        (c = .verifyMiss d ∧ (s.engine d).state = .verifying ∧ (s.engine d).idFound = false ∧
          2 ≤ (s.engine d).searchPulses ∧ cause = .verify ∧ misses = q.misses) ∨
        (c = .dataMarkNotFound d ∧ (s.engine d).state = .verifying ∧ (s.engine d).idFound = true ∧
          cause = .verify ∧ misses = q.misses) ∨
        (c = .dataMarkNotFound d ∧ (s.engine d).state = .reading ∧ cause = .notFound ∧
          misses = q.misses)) →
      (q.kind = .stampRead → ∃ u, exec c s = .next (State.settle u) ∧ u.memory = s.memory ∧
        (u.engine d).current = none ∧ (u.volume d).state = .unknown ∧
        (u.volume d).outcome = .unreadable ∧ (u.volume d).present = none ∧
        u.events.raised .volumeUnknown) ∧
      (∀ x e, q.owner = some x → s.entry? x = some e →
        (q.kind = .writeback → e.state.inWriteback →
          ∃ u, exec c s = .next (State.settle u) ∧ u.memory = s.memory ∧ (u.engine d).current = none ∧
            u.events.raised .writeFailed ∧ u.entry? x = some { e with
              state := .unwritten, redirtySince := none, cause := some cause, marks := 0, late := 0 } ∧
            (u.engine d).fault = ((s.engine d).fault || (s.engine d).halt) ∧
            ((s.engine d).halt = true → u.events.raised .driveHalted)) ∧
        ((q.kind = .fill ∨ q.kind = .prefetch) → e.state = .filling →
          ∃ u, exec c s = .next (State.settle u) ∧ u.memory = s.memory ∧ (u.engine d).current = none ∧
            ((s.engine d).dataHeld = false → u.events.raised .fillFailed ∧
              u.entry? x = some { e with state := .failed, cause := some cause }) ∧
            (∀ b, (s.engine d).dataHeld = true → s.binding? x.win = some b →
              (b.deliver = false → u.events.raised .fillFailed ∧
                u.entry? x = some { e with state := .failed, cause := some .dataCrc }) ∧
              (b.deliver = true → u.events.raised .damagedDelivered ∧ u.entry? x = some e ∧
                (∃ g, (u.engine d).lastFault = some g ∧ g.fault = .dataCrc ∧
                  g.outcome = .damagedDelivered) ∧
                ((∀ d', d' ≠ d → (s.engine d').current ≠ some r) →
                  u.record? r = some (again misses)) ∧
                (s.placeHeld d = false → s.pendingBehind d = false → s.bursts.running = none →
                  s.bursts.queue = [] → ∃ v, u.bursts.running = some v ∧ v.kind = .delivery ∧
                    v.drive = d ∧ v.record = some r ∧ v.buffer = q.buffer ∧ v.damaged = true ∧
                    v.words = 0))))))

/-- A data field read in READING replaces the bytes of the record's buffer and sets the data-held flag. When
it checks the disk work is over: a fill's record stays IN-ENGINE with its delivery requested, and a stamp
read's bytes bring the verdict of R134. When it does not check the attempt fails and the engine searches
again; with the attempts spent a fill is delivered damaged under DELIVER, DAMAGED-DELIVERED being raised, its
entry is FAILED with cause DATA-CRC and FILL-FAILED is raised under FAULT, and a stamp read leaves the volume
UNKNOWN with its stamp unreadable (R48, R95, R96, R97, R134). -/
def Obligations.DataFieldIsReadAndJudged : Prop :=
  ∀ (d : DriveIx) (r : RecIx) (q : Record) (data : List Byte) (recorded : BitVec 16) (s : State),
    s.power = .running → (s.engine d).state = .reading → (s.engine d).current = some r →
    s.record? r = some q → data.length = 256 →
    (dataGood data recorded = true → (q.kind = .fill ∨ q.kind = .prefetch) → q.phase = .inEngine →
      ∀ x i e, q.owner = some x → q.buffer = some i → s.entry? x = some e →
      ∃ u, exec (.dataFieldRead d data recorded) s = .next (State.settle u) ∧ u.memory = s.memory ∧
        u.buffer i = data ∧ (u.engine d).dataHeld = true ∧ (u.engine d).current = none ∧
        u.record? r = some q ∧ u.entry? x = some e ∧ u.events = s.events ∧
        (s.placeHeld d = false → s.pendingBehind d = false → s.bursts.running = none →
          s.bursts.queue = [] → ∃ v, u.bursts.running = some v ∧ v.kind = .delivery ∧ v.drive = d ∧
            v.record = some r ∧ v.buffer = some i ∧ v.damaged = false ∧ v.words = 0)) ∧
    (dataGood data recorded = true → q.kind = .stampRead →
      ∃ u, exec (.dataFieldRead d data recorded) s = .next (State.settle u) ∧ u.memory = s.memory ∧
        (u.engine d).current = none ∧
        (stampOf? data = none → (u.volume d).state = .unknown ∧ (u.volume d).outcome = .invalid ∧
          (u.volume d).present = none ∧ u.events.raised .volumeUnknown) ∧
        (∀ p, stampOf? data = some p → (u.volume d).outcome = .valid ∧ (u.volume d).present = some p ∧
          (((s.volume d).boundId = none ∨ (s.volume d).boundId = some p.volumeId) →
            (u.volume d).state = .attached ∧ (u.volume d).protect = (s.engine d).protect ∧
            u.events.raised .volumeArrived) ∧
          ((∀ id, (s.volume d).boundId = some id → id ≠ p.volumeId) → (s.volume d).boundId ≠ none →
            (u.volume d).state = .mismatch ∧ u.events.raised .volumeMismatch))) ∧
    (dataGood data recorded = false → q.attempts + 1 < (s.engine d).retries → ∀ i, q.buffer = some i →
      exec (.dataFieldRead d data recorded) s = .next (State.settle { s with
        buffers := s.buffers.set i data
        pool := { s.pool with
          records := s.pool.records.set r (some { q with attempts := q.attempts + 1 }) }
        engines := s.engines.set d { s.engine d with
          dataHeld := true, state := .searching, motion := .still, searchPulses := 0, badId := false
          idFound := false, gate := false } })) ∧
    (dataGood data recorded = false → (s.engine d).retries ≤ q.attempts + 1 →
      (q.kind = .stampRead → ∃ u, exec (.dataFieldRead d data recorded) s = .next (State.settle u) ∧
        u.memory = s.memory ∧ (u.engine d).current = none ∧ (u.volume d).state = .unknown ∧
        (u.volume d).outcome = .unreadable ∧ (u.volume d).present = none ∧
        u.events.raised .volumeUnknown) ∧
      (∀ x i e b, (q.kind = .fill ∨ q.kind = .prefetch) → q.owner = some x → q.buffer = some i →
        s.entry? x = some e → e.state = .filling → s.binding? x.win = some b →
        ∃ u, exec (.dataFieldRead d data recorded) s = .next (State.settle u) ∧ u.memory = s.memory ∧
          (u.engine d).current = none ∧ u.buffer i = data ∧
          (b.deliver = false → u.events.raised .fillFailed ∧
            u.entry? x = some { e with state := .failed, cause := some .dataCrc } ∧
            ∃ g, (u.engine d).lastFault = some g ∧ g.fault = .dataCrc ∧ g.outcome = .failed) ∧
          (b.deliver = true → u.events.raised .damagedDelivered ∧ u.entry? x = some e ∧
            (∃ g, (u.engine d).lastFault = some g ∧ g.fault = .dataCrc ∧
              g.outcome = .damagedDelivered) ∧
            (s.placeHeld d = false → s.pendingBehind d = false → s.bursts.running = none →
              s.bursts.queue = [] → ∃ v, u.bursts.running = some v ∧ v.kind = .delivery ∧
                v.drive = d ∧ v.record = some r ∧ v.buffer = some i ∧ v.damaged = true ∧
                v.words = 0))))

/-- The end of a write-back's data field drops the gate, twelve zero bytes, the data field of the record's
buffer and a filler byte standing on the disk, and goes on to VERIFYING where the record asks for it.
Without it, or when the field read back checks, the write-back completes: a WRITING entry becomes CLEAN and
a REDIRTY one DIRTY again with its redirty-since as dirty-since, and the changed-since-stamp flag is set, or
cleared for the stamp sector (R52, R53, R98, R99, R101, R121). A field read back that does not check fails
the attempt; with the attempts spent the entry is UNWRITTEN with cause VERIFY, WRITE-FAILED is raised, and
under HALT FAULT is set (R95, R100). The write-fault line with the gate raised leaves a write-back's entry
UNWRITTEN and raises WRITE-FAILED, and fails a FORMAT with cause WRITE-FAULT without touching the last-fault
record; DRIVE-HALTED is raised and FAULT set (R98, R129). With the gate dropped it does nothing (log 2).
That the data mark stands as a plain byte is the model's (log 38). -/
def Obligations.WriteBackEndsOnDisk : Prop :=
  (∀ (d : DriveIx) (r : RecIx) (q : Record) (i : BufIx) (x : SectorRef) (e : Entry) (s : State),
    s.power = .running → (s.engine d).current = some r → s.record? r = some q → q.buffer = some i →
    q.kind = .writeback → q.owner = some x → s.entry? x = some e →
    let onDisk : DiskOut := .field d (List.replicate 12 0x00 ++ (0xC9 :: s.buffer i) ++
      [(crc (0xC9 :: s.buffer i)).extractLsb' 8 8, (crc (0xC9 :: s.buffer i)).extractLsb' 0 8] ++ [0x3C])
    ((s.engine d).state = .writing → q.verify = true →
      exec (.dataFieldWritten d) s = .next (State.settle { s with
        diskOut := some onDisk
        engines := s.engines.set d { s.engine d with
          gate := false, state := .verifying, searchPulses := 0, idFound := false } })) ∧
    (∀ (c : Instr) (data : List Byte) (recorded : BitVec 16),
      ((c = .dataFieldWritten d ∧ (s.engine d).state = .writing ∧ q.verify = false) ∨
        (c = .verifyRead d data recorded ∧ (s.engine d).state = .verifying ∧
          (s.engine d).idFound = true ∧ data.length = 256 ∧ dataGood data recorded = true)) →
      ∃ u, exec c s = .next (State.settle u) ∧ u.memory = s.memory ∧ (u.engine d).current = none ∧
        (u.engine d).gate = false ∧
        (c = .dataFieldWritten d → u.diskOut = some onDisk) ∧
        (c = .verifyRead d data recorded → u.diskOut = s.diskOut) ∧
        (u.volume d).changed = (decide (q.drive ≠ d ∨ q.cylinder ≠ 0 ∨ q.side ≠ 0 ∨ q.sector ≠ some 0)) ∧
        (e.state = .writing → u.entry? x = some { e with
          state := .clean, dirtySince := none, redirtySince := none, damaged := false, cause := none
          marks := 0, late := 0, urgent := false }) ∧
        (e.state = .redirty → u.entry? x = some { e with
          state := .dirty, dirtySince := e.redirtySince, redirtySince := none, damaged := false
          marks := e.marks &&& e.late, late := 0 })) ∧
    (∀ (data : List Byte) (recorded : BitVec 16), (s.engine d).state = .verifying →
      (s.engine d).idFound = true → data.length = 256 → dataGood data recorded = false →
      (q.attempts + 1 < (s.engine d).retries →
        exec (.verifyRead d data recorded) s = .next (State.settle { s with
          pool := { s.pool with
            records := s.pool.records.set r (some { q with attempts := q.attempts + 1 }) }
          engines := s.engines.set d { s.engine d with
            state := .searching, motion := .still, searchPulses := 0, badId := false, idFound := false
            gate := false } })) ∧
      ((s.engine d).retries ≤ q.attempts + 1 → e.state.inWriteback →
        ∃ u, exec (.verifyRead d data recorded) s = .next (State.settle u) ∧ u.memory = s.memory ∧
          (u.engine d).current = none ∧ u.diskOut = s.diskOut ∧ u.events.raised .writeFailed ∧
          u.entry? x = some { e with
            state := .unwritten, redirtySince := none, cause := some .verify, marks := 0, late := 0 } ∧
          (u.engine d).fault = ((s.engine d).fault || (s.engine d).halt) ∧
          ((s.engine d).halt = true → u.events.raised .driveHalted))) ∧
    ((s.engine d).state = .writing → (s.engine d).gate = true → e.state.inWriteback →
      ∃ u, exec (.writeFault d) s = .next (State.settle u) ∧ u.memory = s.memory ∧
        (u.engine d).gate = false ∧ (u.engine d).current = none ∧ (u.engine d).fault = true ∧
        u.events.raised .writeFailed ∧ u.events.raised .driveHalted ∧
        u.entry? x = some { e with
          state := .unwritten, redirtySince := none, cause := some .writeFault, marks := 0, late := 0 })) ∧
  (∀ (d : DriveIx) (r : RecIx) (q : Record) (p : FormatParams) (s : State), s.power = .running →
    (s.engine d).current = some r → s.record? r = some q → q.kind = .format → q.format = some p →
    (s.engine d).state = .formatting → (s.engine d).gate = true →
    ∃ u, exec (.writeFault d) s = .next (State.settle u) ∧ u.memory = s.memory ∧
      (s.bufWait = [] → u.windows = s.windows) ∧ u.diskOut = s.diskOut ∧ (u.engine d).gate = false ∧
      (u.engine d).current = none ∧ (u.engine d).fault = true ∧ u.events.raised .formatFailed ∧
      u.events.raised .driveHalted ∧ (u.engine d).lastFault = (s.engine d).lastFault ∧
      (u.volume d).lastFormat = some
        { cause := some .writeFault, cylinder := q.cylinder, side := q.side,
          interleave := p.interleave, time := s.clock.coarse }) ∧
  (∀ (d : DriveIx) (s : State), s.power = .running → (s.engine d).gate = false →
    exec (.writeFault d) s = .next (State.settle s))

/-! ## Supply, resets, power -/

/-- The rise of the supply-low line outside a reset starts the dip timer, raises SUPPLY-DIP and sets DIP on
every engine, which drops its gate and stops moving (R103, R156); in a reset it does none of this (R158).
The return of the line while the timer runs ends the dip: DIP is cleared, no event is raised, and an engine
whose hold set is then empty recalibrates if its cylinder is unknown and is IDLE otherwise (R84, R157). That
the line alone changes in a reset or without main supply, and that both lines are inactive after a reset, is
the model's (logs 2, 12 and 28). So is it that the first step of a recalibration comes one step time
after it begins (log 36). -/
def Obligations.DipsStopAndResume : Prop :=
  ∀ s : State,
    (s.supplyLow = true → exec .supplyDip s = .next s) ∧
    (s.supplyLow = false → s.power ≠ .running →
      exec .supplyDip s = .next { s with supplyLow := true }) ∧
    (s.supplyLow = false → s.power = .running → ∃ t, exec .supplyDip s = .next t ∧
      t.supplyLow = true ∧ t.store = { s.store with dipTimer := some 0 } ∧ t.memory = s.memory ∧
      t.clock = s.clock ∧ t.events.raised .supplyDip ∧
      (∀ d, (t.engine d).dip = true ∧ (t.engine d).gate = false ∧ (t.engine d).motion = .still ∧
        (t.engine d).door = (s.engine d).door ∧ (t.engine d).link = (s.engine d).link ∧
        (t.engine d).fault = (s.engine d).fault ∧ (t.engine d).loaded = (s.engine d).loaded)) ∧
    (s.power = .running → s.store.dipTimer = none → exec .shortDip s = .next (State.settle s)) ∧
    (∀ n, s.power = .running → s.store.dipTimer = some n →
      ∃ u, exec .shortDip s = .next (State.settle u) ∧ u.supplyLow = false ∧
        u.store = { s.store with dipTimer := none } ∧ u.events = s.events ∧ u.pool = s.pool ∧
        u.windows = s.windows ∧ u.memory = s.memory ∧
        (∀ d, u.engine d =
          (let f := { s.engine d with dip := false }
           if f.door = false ∧ f.link = false ∧ f.fault = false ∧
              (f.state = .held ∨ f.state = .notReady) then
             if f.cyl = none then
               { f with state := .recalibrating, motion := .recal, inward := false,
                        stepTicks := f.stepMs * 100, recalSteps := 0,
                        wait := if f.track0 then 1500 else f.stepMs * 100, idle := 0 }
             else { f with state := .idle }
           else f)))

/-- A warm reset, by the RESET command, the RESET line or a long dip, first appends every dirty entry to the
Outage List in increasing window number and sector index while the list holds fewer than 32, counts the
others in the overflow up to 255, and notes its cause; then it clears every block. Main memory is not
written. While a reset is in force a second cause starts no second one (R38, R158, R159, R160). What the
spec does not list among the cleared (the coarse count, the lines) stands, and so does the command buffer
but for the bytes of a RESET command (log 35); the ticks lacking to a long dip pass at its step, with the
advances of the coarse clock among them (R1, log 5). In whatever command more ticks pass than the dip timer
lacks to 2,000, the warm reset comes after those ticks, and the rest of them pass in it (R157). -/
def Obligations.WarmResetRecordsDirtyEntries : Prop :=
  (∀ (s : State) (p raised : Bool), s.power = .inReset p raised →
    exec .reset s = .next s ∧ exec .longDip s = .next s ∧
    exec .resetLine s = .next { s with resetLine := true }) ∧
  (∀ (s : State) (c : Instr) (cause : ResetCause), s.power = .running →
    s.store.list.length ≤ 32 → s.store.overflow ≤ 255 →
    ((c = .reset ∧ cause = .resetCommand) ∨ (c = .resetLine ∧ cause = .resetLine) ∨
      (c = .longDip ∧ cause = .longDip ∧ s.store.dipTimer ≠ none)) →
    let lost : List OutageEntry := s.allRefs.filterMap fun x => match s.entry? x with
      | some e => if e.state.isDirty then some { addr := e.addr, win := x.win } else none
      | none => none
    ∃ t, exec c s = .next t ∧
      t.store.list = s.store.list ++ lost.take (32 - s.store.list.length) ∧
      t.store.overflow = min 255 (s.store.overflow + (lost.length - (32 - s.store.list.length))) ∧
      t.store.cause = cause ∧ t.store.valid = s.store.valid ∧ t.store.dipTimer = none ∧
      t.power = .inReset false (decide (lost ≠ [])) ∧ t.memory = s.memory ∧
      (c ≠ .longDip → t.clock.coarse = s.clock.coarse) ∧
      (∀ n, c = .longDip → s.store.dipTimer = some n → t.clock.coarse =
        s.clock.coarse + BitVec.ofNat 16 ((s.clock.toCoarse + (2000 - n)) / 10000)) ∧
      t.resetLine = (decide (c = .resetLine) || s.resetLine) ∧
      (∀ w, t.window w = .unbound) ∧ (∀ r, t.record? r = none) ∧ t.pool = Pool.reset ∧
      t.path = Path.reset ∧ t.lastDiscard = none ∧ t.bursts = BurstUnit.reset ∧
      t.chan.owner = none ∧ t.chan.queue = [] ∧ t.bufWait = [] ∧
      (∀ d, t.volume d = Volume.reset) ∧ (∀ k, t.slot k = Slot.reset) ∧ t.sweep = SweepTimer.reset ∧
      t.ageLimit = 1200 ∧ t.events = EventUnit.reset ∧ t.link.response = [0x00] ∧
      (∀ d, (t.engine d).gate = false ∧ (t.engine d).current = none ∧ (t.engine d).cyl = none ∧
        (t.engine d).dip = false ∧ (t.engine d).stepMs = 8 ∧ (t.engine d).retries = 4 ∧
        (t.engine d).halt = false ∧ (t.engine d).lastFault = none ∧
        (t.engine d).ready = (s.engine d).ready) ∧
      (c ≠ .reset → t.link.command = s.link.command)) ∧
  (∀ (s : State) (n k : Nat), s.longDipIn? n = some k → (∃ raised, s.longDipTo (s.passTime n) raised) ∧
    s.passTime n = ((s.passTime k).warmReset .longDip).passTime (n - k) ∧
    (s.passTime n).events = EventUnit.reset ∧ (s.passTime n).pool = Pool.reset ∧
    (∀ w, (s.passTime n).window w = .unbound) ∧ (s.passTime n).supplyLow = s.supplyLow ∧
    (s.calm k = true → (s.passTime n).power = .inReset false (decide (s.dirtyRefs ≠ [])) ∧
      (s.passTime n).store = { s.recorded .longDip s.dirtyRefs.length with dipTimer := none }))

/-- The end of a reset: the part runs, both clocks begin at 0 after a power-up and stand otherwise, every
ready drive is treated as newly risen, and OUTAGE-RECORDED is raised where it is called for (R1, R107,
R158). Power applied begins a power-up reset, the Outage Store being kept when it is found valid and emptied
at a cold start (R160). At a failure of the main supply the store is kept, with what a recording it cuts
short had reached (R159). The cycles held off by the reset are decoded at its end and answered PASS, each
with memory's own answer, since every window is UNBOUND (R20); their order is the model's (log 9). The
operands, the phases that allow a power-up, that RESET_END does nothing outside a reset, and memory's being
kept are the model's (logs 2, 6, 10, 11, 12). -/
def Obligations.ResetEndsAndPowerComesAndGoes : Prop :=
  (∀ (s : State), (s.power = .running ∨ s.power = .off) → exec .resetEnd s = .next s) ∧
  (∀ (s : State) (p raised : Bool), s.power = .inReset p raised → s.heldCycles = [] →
    (∀ w, s.window w = .unbound) → ∃ t, exec .resetEnd s = .next t ∧ t.power = .running ∧
      t.resetLine = false ∧ t.supplyLow = false ∧ t.memory = s.memory ∧ t.store = s.store ∧
      t.clock.coarse = (if p then 0 else s.clock.coarse) ∧
      t.clock.tick = (if p then 0 else s.clock.tick) ∧
      (raised = true → t.events.raised .outageRecorded) ∧
      (raised = false → t.events = s.events) ∧
      (∀ d, (s.engine d).ready = true → (t.engine d).state = .recalibrating ∧
        (t.engine d).door = false ∧ (t.volume d).state = .readingStamp) ∧
      (∀ d, (s.engine d).ready = false → (t.engine d).state = .notReady ∧
        (t.engine d).door = true ∧ t.volume d = s.volume d)) ∧
  (∀ (s : State) (p raised : Bool), s.power = .inReset p raised → (∀ w, s.window w = .unbound) →
    s.bursts = BurstUnit.reset → ∃ t, exec .resetEnd s = .next t ∧ t.power = .running ∧
      t.heldCycles = [] ∧
      (t.memory, t.heldAnswers) = s.heldCycles.foldl (fun (m, answers) c =>
        (memoryAfter m c.addr.toNat c.access, answers ++
          [{ answer := .pass, data := memoryData m c.addr.toNat c.access }])) (s.memory, []) ∧
      (s.heldCycles ≠ [] → t.answer = t.heldAnswers.getLast?)) ∧
  (∀ (s : State) (kept : Bool), ∃ t, exec (.powerUp kept) s = .next t ∧ t.memory = s.memory ∧
    (∀ w, t.window w = .unbound) ∧ t.pool = Pool.reset ∧ t.events = EventUnit.reset ∧
    t.link.response = [0x00] ∧ t.store.valid = true ∧
    (kept = true → s.store.valid = true → t.store.list = s.store.list ∧
      t.store.overflow = s.store.overflow ∧ t.store.cause = .powerUp ∧
      t.power = .inReset true (decide (s.store.list ≠ []))) ∧
    (kept = false ∨ s.store.valid = false → t.store.list = [] ∧ t.store.overflow = 0 ∧
      t.store.cause = .coldStart ∧ t.power = .inReset true false)) ∧
  (∀ s : State, ∃ t, exec (.mainSupplyFailure none) s = .next t ∧ t.power = .off ∧
    t.store = { s.store with dipTimer := none } ∧ (∀ w, t.window w = .unbound) ∧
    t.pool = Pool.reset ∧ t.events = EventUnit.reset) ∧
  (∀ (s : State) (cause : WarmCause) (n : Nat), s.power = .running → s.store.list.length ≤ 32 →
    ∃ t, exec (.mainSupplyFailure (some (cause, n))) s = .next t ∧ t.power = .off ∧
      t.store.list = s.store.list ++ (((s.allRefs.filterMap fun x => match s.entry? x with
        | some e => if e.state.isDirty then some { addr := e.addr, win := x.win } else none
        | none => none).take n).take (32 - s.store.list.length)))

/-! ## Messages on the service link -/

/-- A write message to another address is ignored. One to this 840 that ended before its command byte, its
length byte or its nth parameter byte, or whose length byte is above 32, is SHORT; a command byte that is
not in the table is UNKNOWN-COMMAND; a length that is not the command's is BAD-PARAM; each of these has no
effect beyond its response. A message that carries a command has the command's effect and response, and what
follows at once, its bytes standing in the command buffer (R162, R163, R164). That the command buffer keeps
the bytes as they came is the model's (log 8). -/
def Obligations.LinkMessagesAreJudged : Prop :=
  ∀ (address : Byte) (bytes : List Byte) (s : State), s.power = .running →
    (address.toNat ≠ 2 * (0x58 + s.strap.toNat) →
      exec (.linkWriteMessage address bytes) s = .next s) ∧
    (address.toNat = 2 * (0x58 + s.strap.toNat) →
      (∀ c, bytes = [] ∨ bytes = [c] → exec (.linkWriteMessage address bytes) s =
        .next (State.settle (s.refusedWith bytes .short))) ∧
      (∀ c n rest, bytes = c :: n :: rest →
        (32 < n.toNat → exec (.linkWriteMessage address bytes) s =
          .next (State.settle (s.refusedWith [c] .short))) ∧
        (n.toNat ≤ 32 → rest.length < n.toNat → exec (.linkWriteMessage address bytes) s =
          .next (State.settle (s.refusedWith bytes .short))) ∧
        (n.toNat ≤ 32 → n.toNat ≤ rest.length → commandLength c = none →
          exec (.linkWriteMessage address bytes) s =
          .next (State.settle (s.refusedWith (c :: n :: rest.take n.toNat) .unknownCommand))) ∧
        (∀ m, n.toNat ≤ 32 → n.toNat ≤ rest.length → commandLength c = some m → n.toNat ≠ m →
          exec (.linkWriteMessage address bytes) s =
          .next (State.settle (s.refusedWith (c :: n :: rest.take n.toNat) .badParam)))) ∧
      (∀ i, linkCommand bytes = .ok i → ∃ u,
        (exec i s = .next u ∨ exec i s = .next (State.settle u)) ∧
        exec (.linkWriteMessage address bytes) s =
          .next (State.settle { u with link := { u.link with command := takenBytes bytes } })))

/-- Every link command is read back from the bytes it is sent as: command byte, length byte, parameters,
with every operand at every value (R162, R164, R165, R166). Option bits that no rule names are sent as 0 by
`linkBytes?`, and a command read with any of them set is the same command (R164). -/
def Obligations.LinkCommandsReadBack : Prop :=
  (∀ (i : Instr) (bytes : List Byte), i.WellFormed = true → i.linkBytes? = some bytes →
    linkCommand bytes = .ok i) ∧
  (∀ (window options drive step retries t1 t0 d1 d0 : Byte),
    linkCommand [0x13, 2, window, options] =
      .ok (if options.getLsbD 0 then .releaseDiscard window else .release window) ∧
    linkCommand [0x20, 5, t1, t0, options, d1, d0] =
      .ok (.secure (t1 ++ t0) (options.getLsbD 0) (d1 ++ d0)) ∧
    linkCommand [0x38, 4, drive, step, retries, options] =
      .ok (.setDrive drive step retries (options.getLsbD 0)) ∧
    linkCommand [0x40, 3, t1, t0, options] =
      .ok (.setSweep (t1 ++ t0) (options.getLsbD 0) (options.getLsbD 1)))

/-! ## What every step keeps -/

/-- Main memory keeps its canonical form: addresses rising and inside the 20-bit space, and no entry equal
to what an unlisted address reads as. The form is the model's (log 6). -/
def Obligations.MemoryStaysCanonical : Prop :=
  Memory.wf State.reset.memory = true ∧
  ∀ s t : State, Memory.wf s.memory = true → step s = .next t → Memory.wf t.memory = true

/-- Every window stays well formed: its bindings in range, one entry for each sector of its current
binding's run with that sector's disk address, and each field of an entry present exactly in the states
that have it (R21, R22, R23, R26, R40); and bindings of different windows share no memory address and no
disk sector (R24). -/
def Obligations.WindowsStayWellFormed : Prop :=
  (State.reset.windowsWf = true ∧ State.reset.windowsApart = true) ∧
  ∀ s t : State, s.windowsWf = true → s.windowsApart = true → step s = .next t →
    t.windowsWf = true ∧ t.windowsApart = true

/-- A dirty entry stays in its place and in the dirty states through every command but a completed
write-back, a FORCE or discard-release, a reset or the loss of supply, and a message that may carry one of
these (R43). Where a command lets ticks pass among which the dip timer runs out, the warm reset of the long
dip is in force instead, and its recording has found a dirty entry (R157, R159). -/
def Obligations.DirtyEntriesAreNeverLost : Prop :=
  ∀ (c : Instr) (s t : State) (x : SectorRef) (e : Entry), c.mayEndDirty = false →
    exec c s = .next t → s.entry? x = some e → e.state.isDirty = true →
    (∃ e', t.entry? x = some e' ∧ e'.state.isDirty = true ∧ e'.addr = e.addr) ∨ s.longDipTo t true

/-- For every ACTIVE secure slot the remaining count equals the number of sector entries that carry its
mark, and no entry carries the mark of any other slot, through every step (R148). -/
def Obligations.SecureCountsStayRight : Prop :=
  (State.reset.windowsWf = true ∧ State.reset.marksAgree = true) ∧
  ∀ s t : State, s.windowsWf = true → s.marksAgree = true → step s = .next t → t.marksAgree = true

/-- The settings, periods, counts and lengths of the part stay in the ranges the spec gives them, an engine is
NOT-READY exactly while DOOR is in its hold set, and fewer than 10,000 ticks have passed since the latest
advance of the coarse clock (R1, R18, R83, R88, R106, R143, R157, R159, R163). -/
def Obligations.RangesAreKept : Prop :=
  State.reset.inRange = true ∧
  ∀ s t : State, s.inRange = true → step s = .next t → t.inRange = true

/-- No two records hold the same buffer, no entry stands twice on the Backlog List and no drive twice among
the stamp waits, through every step (R70, R72, R108). -/
def Obligations.PoolHandsOutOnce : Prop :=
  State.reset.handedOnce = true ∧
  ∀ s t : State, s.handedOnce = true → step s = .next t → t.handedOnce = true

/-- Two frames over all commands. Only an upstream cycle, a burst word and the end of a reset write main
memory (R2, R20, R114; that power applied and the main supply's failure do not is the model's, logs 6 and
11). Only CLEAR EVENTS, a reset, the loss or return of supply and a message that may
carry one of these clear an event flag (R169, R172), a long dip that comes among the ticks of a command
being such a reset (R157). -/
def Obligations.CommandsLeaveMemoryAndFlags : Prop :=
  (∀ (c : Instr) (s t : State), c.mayWriteMemory = false → exec c s = .next t → t.memory = s.memory) ∧
  (∀ (c : Instr) (s t : State) (n : Nat), c.mayClearFlags = false → exec c s = .next t →
    s.events.flags.getLsbD n = true →
    t.events.flags.getLsbD n = true ∨ ∃ raised, s.longDipTo t raised)

/-- Every computed cost lies between 0 and 136,250 ticks, for an engine with settings and period in range and
its heads on a known cylinder of the disk (R77 to R79, R81). -/
def Obligations.CostIsBounded : Prop :=
  ∀ (e : Engine) (v : Volume) (now : Tick) (q : Record) (c : Nat), e.inRange = true →
    e.cyl = some c → c ≤ 76 → q.cylinder ≤ 76 →
    15000 ≤ e.period ∧ e.period ≤ 18400 ∧ e.cost v now q ≤ 136250

end
end

