-- ==== Sys2Proof/Laws/State.lean ====
section
/-! SUPPORT. The fields of the state after each of its updates, and indexed access after an indexed update. -/

namespace Sys2Proof.Machine

open Sys2Proof

/-! ## setEngine -/

@[simp] theorem State.setEngine_pending (s : State) (d : DriveIx) (e : Engine) : (s.setEngine d e).pending = s.pending := rfl
@[simp] theorem State.setEngine_power (s : State) (d : DriveIx) (e : Engine) : (s.setEngine d e).power = s.power := rfl
@[simp] theorem State.setEngine_resetLine (s : State) (d : DriveIx) (e : Engine) : (s.setEngine d e).resetLine = s.resetLine := rfl
@[simp] theorem State.setEngine_supplyLow (s : State) (d : DriveIx) (e : Engine) : (s.setEngine d e).supplyLow = s.supplyLow := rfl
@[simp] theorem State.setEngine_strap (s : State) (d : DriveIx) (e : Engine) : (s.setEngine d e).strap = s.strap := rfl
@[simp] theorem State.setEngine_clock (s : State) (d : DriveIx) (e : Engine) : (s.setEngine d e).clock = s.clock := rfl
@[simp] theorem State.setEngine_memory (s : State) (d : DriveIx) (e : Engine) : (s.setEngine d e).memory = s.memory := rfl
@[simp] theorem State.setEngine_answer (s : State) (d : DriveIx) (e : Engine) : (s.setEngine d e).answer = s.answer := rfl
@[simp] theorem State.setEngine_heldCycles (s : State) (d : DriveIx) (e : Engine) : (s.setEngine d e).heldCycles = s.heldCycles := rfl
@[simp] theorem State.setEngine_heldAnswers (s : State) (d : DriveIx) (e : Engine) : (s.setEngine d e).heldAnswers = s.heldAnswers := rfl
@[simp] theorem State.setEngine_path (s : State) (d : DriveIx) (e : Engine) : (s.setEngine d e).path = s.path := rfl
@[simp] theorem State.setEngine_windows (s : State) (d : DriveIx) (e : Engine) : (s.setEngine d e).windows = s.windows := rfl
@[simp] theorem State.setEngine_lastDiscard (s : State) (d : DriveIx) (e : Engine) : (s.setEngine d e).lastDiscard = s.lastDiscard := rfl
@[simp] theorem State.setEngine_pool (s : State) (d : DriveIx) (e : Engine) : (s.setEngine d e).pool = s.pool := rfl
@[simp] theorem State.setEngine_engines (s : State) (d : DriveIx) (e : Engine) : (s.setEngine d e).engines = s.engines.set d e := rfl
@[simp] theorem State.setEngine_buffers (s : State) (d : DriveIx) (e : Engine) : (s.setEngine d e).buffers = s.buffers := rfl
@[simp] theorem State.setEngine_bufWait (s : State) (d : DriveIx) (e : Engine) : (s.setEngine d e).bufWait = s.bufWait := rfl
@[simp] theorem State.setEngine_chan (s : State) (d : DriveIx) (e : Engine) : (s.setEngine d e).chan = s.chan := rfl
@[simp] theorem State.setEngine_bursts (s : State) (d : DriveIx) (e : Engine) : (s.setEngine d e).bursts = s.bursts := rfl
@[simp] theorem State.setEngine_volumes (s : State) (d : DriveIx) (e : Engine) : (s.setEngine d e).volumes = s.volumes := rfl
@[simp] theorem State.setEngine_sweep (s : State) (d : DriveIx) (e : Engine) : (s.setEngine d e).sweep = s.sweep := rfl
@[simp] theorem State.setEngine_ageLimit (s : State) (d : DriveIx) (e : Engine) : (s.setEngine d e).ageLimit = s.ageLimit := rfl
@[simp] theorem State.setEngine_slots (s : State) (d : DriveIx) (e : Engine) : (s.setEngine d e).slots = s.slots := rfl
@[simp] theorem State.setEngine_events (s : State) (d : DriveIx) (e : Engine) : (s.setEngine d e).events = s.events := rfl
@[simp] theorem State.setEngine_link (s : State) (d : DriveIx) (e : Engine) : (s.setEngine d e).link = s.link := rfl
@[simp] theorem State.setEngine_store (s : State) (d : DriveIx) (e : Engine) : (s.setEngine d e).store = s.store := rfl
@[simp] theorem State.setEngine_diskOut (s : State) (d : DriveIx) (e : Engine) : (s.setEngine d e).diskOut = s.diskOut := rfl

/-! ## setVolume -/

@[simp] theorem State.setVolume_pending (s : State) (d : DriveIx) (v : Volume) : (s.setVolume d v).pending = s.pending := rfl
@[simp] theorem State.setVolume_power (s : State) (d : DriveIx) (v : Volume) : (s.setVolume d v).power = s.power := rfl
@[simp] theorem State.setVolume_resetLine (s : State) (d : DriveIx) (v : Volume) : (s.setVolume d v).resetLine = s.resetLine := rfl
@[simp] theorem State.setVolume_supplyLow (s : State) (d : DriveIx) (v : Volume) : (s.setVolume d v).supplyLow = s.supplyLow := rfl
@[simp] theorem State.setVolume_strap (s : State) (d : DriveIx) (v : Volume) : (s.setVolume d v).strap = s.strap := rfl
@[simp] theorem State.setVolume_clock (s : State) (d : DriveIx) (v : Volume) : (s.setVolume d v).clock = s.clock := rfl
@[simp] theorem State.setVolume_memory (s : State) (d : DriveIx) (v : Volume) : (s.setVolume d v).memory = s.memory := rfl
@[simp] theorem State.setVolume_answer (s : State) (d : DriveIx) (v : Volume) : (s.setVolume d v).answer = s.answer := rfl
@[simp] theorem State.setVolume_heldCycles (s : State) (d : DriveIx) (v : Volume) : (s.setVolume d v).heldCycles = s.heldCycles := rfl
@[simp] theorem State.setVolume_heldAnswers (s : State) (d : DriveIx) (v : Volume) : (s.setVolume d v).heldAnswers = s.heldAnswers := rfl
@[simp] theorem State.setVolume_path (s : State) (d : DriveIx) (v : Volume) : (s.setVolume d v).path = s.path := rfl
@[simp] theorem State.setVolume_windows (s : State) (d : DriveIx) (v : Volume) : (s.setVolume d v).windows = s.windows := rfl
@[simp] theorem State.setVolume_lastDiscard (s : State) (d : DriveIx) (v : Volume) : (s.setVolume d v).lastDiscard = s.lastDiscard := rfl
@[simp] theorem State.setVolume_pool (s : State) (d : DriveIx) (v : Volume) : (s.setVolume d v).pool = s.pool := rfl
@[simp] theorem State.setVolume_engines (s : State) (d : DriveIx) (v : Volume) : (s.setVolume d v).engines = s.engines := rfl
@[simp] theorem State.setVolume_buffers (s : State) (d : DriveIx) (v : Volume) : (s.setVolume d v).buffers = s.buffers := rfl
@[simp] theorem State.setVolume_bufWait (s : State) (d : DriveIx) (v : Volume) : (s.setVolume d v).bufWait = s.bufWait := rfl
@[simp] theorem State.setVolume_chan (s : State) (d : DriveIx) (v : Volume) : (s.setVolume d v).chan = s.chan := rfl
@[simp] theorem State.setVolume_bursts (s : State) (d : DriveIx) (v : Volume) : (s.setVolume d v).bursts = s.bursts := rfl
@[simp] theorem State.setVolume_volumes (s : State) (d : DriveIx) (v : Volume) : (s.setVolume d v).volumes = s.volumes.set d v := rfl
@[simp] theorem State.setVolume_sweep (s : State) (d : DriveIx) (v : Volume) : (s.setVolume d v).sweep = s.sweep := rfl
@[simp] theorem State.setVolume_ageLimit (s : State) (d : DriveIx) (v : Volume) : (s.setVolume d v).ageLimit = s.ageLimit := rfl
@[simp] theorem State.setVolume_slots (s : State) (d : DriveIx) (v : Volume) : (s.setVolume d v).slots = s.slots := rfl
@[simp] theorem State.setVolume_events (s : State) (d : DriveIx) (v : Volume) : (s.setVolume d v).events = s.events := rfl
@[simp] theorem State.setVolume_link (s : State) (d : DriveIx) (v : Volume) : (s.setVolume d v).link = s.link := rfl
@[simp] theorem State.setVolume_store (s : State) (d : DriveIx) (v : Volume) : (s.setVolume d v).store = s.store := rfl
@[simp] theorem State.setVolume_diskOut (s : State) (d : DriveIx) (v : Volume) : (s.setVolume d v).diskOut = s.diskOut := rfl

/-! ## setWindow -/

@[simp] theorem State.setWindow_pending (s : State) (w : WinIx) (x : Window) : (s.setWindow w x).pending = s.pending := rfl
@[simp] theorem State.setWindow_power (s : State) (w : WinIx) (x : Window) : (s.setWindow w x).power = s.power := rfl
@[simp] theorem State.setWindow_resetLine (s : State) (w : WinIx) (x : Window) : (s.setWindow w x).resetLine = s.resetLine := rfl
@[simp] theorem State.setWindow_supplyLow (s : State) (w : WinIx) (x : Window) : (s.setWindow w x).supplyLow = s.supplyLow := rfl
@[simp] theorem State.setWindow_strap (s : State) (w : WinIx) (x : Window) : (s.setWindow w x).strap = s.strap := rfl
@[simp] theorem State.setWindow_clock (s : State) (w : WinIx) (x : Window) : (s.setWindow w x).clock = s.clock := rfl
@[simp] theorem State.setWindow_memory (s : State) (w : WinIx) (x : Window) : (s.setWindow w x).memory = s.memory := rfl
@[simp] theorem State.setWindow_answer (s : State) (w : WinIx) (x : Window) : (s.setWindow w x).answer = s.answer := rfl
@[simp] theorem State.setWindow_heldCycles (s : State) (w : WinIx) (x : Window) : (s.setWindow w x).heldCycles = s.heldCycles := rfl
@[simp] theorem State.setWindow_heldAnswers (s : State) (w : WinIx) (x : Window) : (s.setWindow w x).heldAnswers = s.heldAnswers := rfl
@[simp] theorem State.setWindow_path (s : State) (w : WinIx) (x : Window) : (s.setWindow w x).path = s.path := rfl
@[simp] theorem State.setWindow_windows (s : State) (w : WinIx) (x : Window) : (s.setWindow w x).windows = s.windows.set w x := rfl
@[simp] theorem State.setWindow_lastDiscard (s : State) (w : WinIx) (x : Window) : (s.setWindow w x).lastDiscard = s.lastDiscard := rfl
@[simp] theorem State.setWindow_pool (s : State) (w : WinIx) (x : Window) : (s.setWindow w x).pool = s.pool := rfl
@[simp] theorem State.setWindow_engines (s : State) (w : WinIx) (x : Window) : (s.setWindow w x).engines = s.engines := rfl
@[simp] theorem State.setWindow_buffers (s : State) (w : WinIx) (x : Window) : (s.setWindow w x).buffers = s.buffers := rfl
@[simp] theorem State.setWindow_bufWait (s : State) (w : WinIx) (x : Window) : (s.setWindow w x).bufWait = s.bufWait := rfl
@[simp] theorem State.setWindow_chan (s : State) (w : WinIx) (x : Window) : (s.setWindow w x).chan = s.chan := rfl
@[simp] theorem State.setWindow_bursts (s : State) (w : WinIx) (x : Window) : (s.setWindow w x).bursts = s.bursts := rfl
@[simp] theorem State.setWindow_volumes (s : State) (w : WinIx) (x : Window) : (s.setWindow w x).volumes = s.volumes := rfl
@[simp] theorem State.setWindow_sweep (s : State) (w : WinIx) (x : Window) : (s.setWindow w x).sweep = s.sweep := rfl
@[simp] theorem State.setWindow_ageLimit (s : State) (w : WinIx) (x : Window) : (s.setWindow w x).ageLimit = s.ageLimit := rfl
@[simp] theorem State.setWindow_slots (s : State) (w : WinIx) (x : Window) : (s.setWindow w x).slots = s.slots := rfl
@[simp] theorem State.setWindow_events (s : State) (w : WinIx) (x : Window) : (s.setWindow w x).events = s.events := rfl
@[simp] theorem State.setWindow_link (s : State) (w : WinIx) (x : Window) : (s.setWindow w x).link = s.link := rfl
@[simp] theorem State.setWindow_store (s : State) (w : WinIx) (x : Window) : (s.setWindow w x).store = s.store := rfl
@[simp] theorem State.setWindow_diskOut (s : State) (w : WinIx) (x : Window) : (s.setWindow w x).diskOut = s.diskOut := rfl

/-! ## setSlot -/

@[simp] theorem State.setSlot_pending (s : State) (k : SlotIx) (x : Slot) : (s.setSlot k x).pending = s.pending := rfl
@[simp] theorem State.setSlot_power (s : State) (k : SlotIx) (x : Slot) : (s.setSlot k x).power = s.power := rfl
@[simp] theorem State.setSlot_resetLine (s : State) (k : SlotIx) (x : Slot) : (s.setSlot k x).resetLine = s.resetLine := rfl
@[simp] theorem State.setSlot_supplyLow (s : State) (k : SlotIx) (x : Slot) : (s.setSlot k x).supplyLow = s.supplyLow := rfl
@[simp] theorem State.setSlot_strap (s : State) (k : SlotIx) (x : Slot) : (s.setSlot k x).strap = s.strap := rfl
@[simp] theorem State.setSlot_clock (s : State) (k : SlotIx) (x : Slot) : (s.setSlot k x).clock = s.clock := rfl
@[simp] theorem State.setSlot_memory (s : State) (k : SlotIx) (x : Slot) : (s.setSlot k x).memory = s.memory := rfl
@[simp] theorem State.setSlot_answer (s : State) (k : SlotIx) (x : Slot) : (s.setSlot k x).answer = s.answer := rfl
@[simp] theorem State.setSlot_heldCycles (s : State) (k : SlotIx) (x : Slot) : (s.setSlot k x).heldCycles = s.heldCycles := rfl
@[simp] theorem State.setSlot_heldAnswers (s : State) (k : SlotIx) (x : Slot) : (s.setSlot k x).heldAnswers = s.heldAnswers := rfl
@[simp] theorem State.setSlot_path (s : State) (k : SlotIx) (x : Slot) : (s.setSlot k x).path = s.path := rfl
@[simp] theorem State.setSlot_windows (s : State) (k : SlotIx) (x : Slot) : (s.setSlot k x).windows = s.windows := rfl
@[simp] theorem State.setSlot_lastDiscard (s : State) (k : SlotIx) (x : Slot) : (s.setSlot k x).lastDiscard = s.lastDiscard := rfl
@[simp] theorem State.setSlot_pool (s : State) (k : SlotIx) (x : Slot) : (s.setSlot k x).pool = s.pool := rfl
@[simp] theorem State.setSlot_engines (s : State) (k : SlotIx) (x : Slot) : (s.setSlot k x).engines = s.engines := rfl
@[simp] theorem State.setSlot_buffers (s : State) (k : SlotIx) (x : Slot) : (s.setSlot k x).buffers = s.buffers := rfl
@[simp] theorem State.setSlot_bufWait (s : State) (k : SlotIx) (x : Slot) : (s.setSlot k x).bufWait = s.bufWait := rfl
@[simp] theorem State.setSlot_chan (s : State) (k : SlotIx) (x : Slot) : (s.setSlot k x).chan = s.chan := rfl
@[simp] theorem State.setSlot_bursts (s : State) (k : SlotIx) (x : Slot) : (s.setSlot k x).bursts = s.bursts := rfl
@[simp] theorem State.setSlot_volumes (s : State) (k : SlotIx) (x : Slot) : (s.setSlot k x).volumes = s.volumes := rfl
@[simp] theorem State.setSlot_sweep (s : State) (k : SlotIx) (x : Slot) : (s.setSlot k x).sweep = s.sweep := rfl
@[simp] theorem State.setSlot_ageLimit (s : State) (k : SlotIx) (x : Slot) : (s.setSlot k x).ageLimit = s.ageLimit := rfl
@[simp] theorem State.setSlot_slots (s : State) (k : SlotIx) (x : Slot) : (s.setSlot k x).slots = s.slots.set k x := rfl
@[simp] theorem State.setSlot_events (s : State) (k : SlotIx) (x : Slot) : (s.setSlot k x).events = s.events := rfl
@[simp] theorem State.setSlot_link (s : State) (k : SlotIx) (x : Slot) : (s.setSlot k x).link = s.link := rfl
@[simp] theorem State.setSlot_store (s : State) (k : SlotIx) (x : Slot) : (s.setSlot k x).store = s.store := rfl
@[simp] theorem State.setSlot_diskOut (s : State) (k : SlotIx) (x : Slot) : (s.setSlot k x).diskOut = s.diskOut := rfl

/-! ## setBuffer -/

@[simp] theorem State.setBuffer_pending (s : State) (b : BufIx) (x : List Byte) : (s.setBuffer b x).pending = s.pending := rfl
@[simp] theorem State.setBuffer_power (s : State) (b : BufIx) (x : List Byte) : (s.setBuffer b x).power = s.power := rfl
@[simp] theorem State.setBuffer_resetLine (s : State) (b : BufIx) (x : List Byte) : (s.setBuffer b x).resetLine = s.resetLine := rfl
@[simp] theorem State.setBuffer_supplyLow (s : State) (b : BufIx) (x : List Byte) : (s.setBuffer b x).supplyLow = s.supplyLow := rfl
@[simp] theorem State.setBuffer_strap (s : State) (b : BufIx) (x : List Byte) : (s.setBuffer b x).strap = s.strap := rfl
@[simp] theorem State.setBuffer_clock (s : State) (b : BufIx) (x : List Byte) : (s.setBuffer b x).clock = s.clock := rfl
@[simp] theorem State.setBuffer_memory (s : State) (b : BufIx) (x : List Byte) : (s.setBuffer b x).memory = s.memory := rfl
@[simp] theorem State.setBuffer_answer (s : State) (b : BufIx) (x : List Byte) : (s.setBuffer b x).answer = s.answer := rfl
@[simp] theorem State.setBuffer_heldCycles (s : State) (b : BufIx) (x : List Byte) : (s.setBuffer b x).heldCycles = s.heldCycles := rfl
@[simp] theorem State.setBuffer_heldAnswers (s : State) (b : BufIx) (x : List Byte) : (s.setBuffer b x).heldAnswers = s.heldAnswers := rfl
@[simp] theorem State.setBuffer_path (s : State) (b : BufIx) (x : List Byte) : (s.setBuffer b x).path = s.path := rfl
@[simp] theorem State.setBuffer_windows (s : State) (b : BufIx) (x : List Byte) : (s.setBuffer b x).windows = s.windows := rfl
@[simp] theorem State.setBuffer_lastDiscard (s : State) (b : BufIx) (x : List Byte) : (s.setBuffer b x).lastDiscard = s.lastDiscard := rfl
@[simp] theorem State.setBuffer_pool (s : State) (b : BufIx) (x : List Byte) : (s.setBuffer b x).pool = s.pool := rfl
@[simp] theorem State.setBuffer_engines (s : State) (b : BufIx) (x : List Byte) : (s.setBuffer b x).engines = s.engines := rfl
@[simp] theorem State.setBuffer_buffers (s : State) (b : BufIx) (x : List Byte) : (s.setBuffer b x).buffers = s.buffers.set b x := rfl
@[simp] theorem State.setBuffer_bufWait (s : State) (b : BufIx) (x : List Byte) : (s.setBuffer b x).bufWait = s.bufWait := rfl
@[simp] theorem State.setBuffer_chan (s : State) (b : BufIx) (x : List Byte) : (s.setBuffer b x).chan = s.chan := rfl
@[simp] theorem State.setBuffer_bursts (s : State) (b : BufIx) (x : List Byte) : (s.setBuffer b x).bursts = s.bursts := rfl
@[simp] theorem State.setBuffer_volumes (s : State) (b : BufIx) (x : List Byte) : (s.setBuffer b x).volumes = s.volumes := rfl
@[simp] theorem State.setBuffer_sweep (s : State) (b : BufIx) (x : List Byte) : (s.setBuffer b x).sweep = s.sweep := rfl
@[simp] theorem State.setBuffer_ageLimit (s : State) (b : BufIx) (x : List Byte) : (s.setBuffer b x).ageLimit = s.ageLimit := rfl
@[simp] theorem State.setBuffer_slots (s : State) (b : BufIx) (x : List Byte) : (s.setBuffer b x).slots = s.slots := rfl
@[simp] theorem State.setBuffer_events (s : State) (b : BufIx) (x : List Byte) : (s.setBuffer b x).events = s.events := rfl
@[simp] theorem State.setBuffer_link (s : State) (b : BufIx) (x : List Byte) : (s.setBuffer b x).link = s.link := rfl
@[simp] theorem State.setBuffer_store (s : State) (b : BufIx) (x : List Byte) : (s.setBuffer b x).store = s.store := rfl
@[simp] theorem State.setBuffer_diskOut (s : State) (b : BufIx) (x : List Byte) : (s.setBuffer b x).diskOut = s.diskOut := rfl

/-! ## setRecord -/

@[simp] theorem State.setRecord_pending (s : State) (r : RecIx) (x : Option Record) : (s.setRecord r x).pending = s.pending := rfl
@[simp] theorem State.setRecord_power (s : State) (r : RecIx) (x : Option Record) : (s.setRecord r x).power = s.power := rfl
@[simp] theorem State.setRecord_resetLine (s : State) (r : RecIx) (x : Option Record) : (s.setRecord r x).resetLine = s.resetLine := rfl
@[simp] theorem State.setRecord_supplyLow (s : State) (r : RecIx) (x : Option Record) : (s.setRecord r x).supplyLow = s.supplyLow := rfl
@[simp] theorem State.setRecord_strap (s : State) (r : RecIx) (x : Option Record) : (s.setRecord r x).strap = s.strap := rfl
@[simp] theorem State.setRecord_clock (s : State) (r : RecIx) (x : Option Record) : (s.setRecord r x).clock = s.clock := rfl
@[simp] theorem State.setRecord_memory (s : State) (r : RecIx) (x : Option Record) : (s.setRecord r x).memory = s.memory := rfl
@[simp] theorem State.setRecord_answer (s : State) (r : RecIx) (x : Option Record) : (s.setRecord r x).answer = s.answer := rfl
@[simp] theorem State.setRecord_heldCycles (s : State) (r : RecIx) (x : Option Record) : (s.setRecord r x).heldCycles = s.heldCycles := rfl
@[simp] theorem State.setRecord_heldAnswers (s : State) (r : RecIx) (x : Option Record) : (s.setRecord r x).heldAnswers = s.heldAnswers := rfl
@[simp] theorem State.setRecord_path (s : State) (r : RecIx) (x : Option Record) : (s.setRecord r x).path = s.path := rfl
@[simp] theorem State.setRecord_windows (s : State) (r : RecIx) (x : Option Record) : (s.setRecord r x).windows = s.windows := rfl
@[simp] theorem State.setRecord_lastDiscard (s : State) (r : RecIx) (x : Option Record) : (s.setRecord r x).lastDiscard = s.lastDiscard := rfl
@[simp] theorem State.setRecord_pool (s : State) (r : RecIx) (x : Option Record) :
    (s.setRecord r x).pool = { s.pool with records := s.pool.records.set r x } := rfl
@[simp] theorem State.setRecord_engines (s : State) (r : RecIx) (x : Option Record) : (s.setRecord r x).engines = s.engines := rfl
@[simp] theorem State.setRecord_buffers (s : State) (r : RecIx) (x : Option Record) : (s.setRecord r x).buffers = s.buffers := rfl
@[simp] theorem State.setRecord_bufWait (s : State) (r : RecIx) (x : Option Record) : (s.setRecord r x).bufWait = s.bufWait := rfl
@[simp] theorem State.setRecord_chan (s : State) (r : RecIx) (x : Option Record) : (s.setRecord r x).chan = s.chan := rfl
@[simp] theorem State.setRecord_bursts (s : State) (r : RecIx) (x : Option Record) : (s.setRecord r x).bursts = s.bursts := rfl
@[simp] theorem State.setRecord_volumes (s : State) (r : RecIx) (x : Option Record) : (s.setRecord r x).volumes = s.volumes := rfl
@[simp] theorem State.setRecord_sweep (s : State) (r : RecIx) (x : Option Record) : (s.setRecord r x).sweep = s.sweep := rfl
@[simp] theorem State.setRecord_ageLimit (s : State) (r : RecIx) (x : Option Record) : (s.setRecord r x).ageLimit = s.ageLimit := rfl
@[simp] theorem State.setRecord_slots (s : State) (r : RecIx) (x : Option Record) : (s.setRecord r x).slots = s.slots := rfl
@[simp] theorem State.setRecord_events (s : State) (r : RecIx) (x : Option Record) : (s.setRecord r x).events = s.events := rfl
@[simp] theorem State.setRecord_link (s : State) (r : RecIx) (x : Option Record) : (s.setRecord r x).link = s.link := rfl
@[simp] theorem State.setRecord_store (s : State) (r : RecIx) (x : Option Record) : (s.setRecord r x).store = s.store := rfl
@[simp] theorem State.setRecord_diskOut (s : State) (r : RecIx) (x : Option Record) : (s.setRecord r x).diskOut = s.diskOut := rfl

/-! ## makeRecord -/

@[simp] theorem State.makeRecord_pending (s : State) (r : RecIx) (q : Record) : (s.makeRecord r q).pending = s.pending := rfl
@[simp] theorem State.makeRecord_power (s : State) (r : RecIx) (q : Record) : (s.makeRecord r q).power = s.power := rfl
@[simp] theorem State.makeRecord_resetLine (s : State) (r : RecIx) (q : Record) : (s.makeRecord r q).resetLine = s.resetLine := rfl
@[simp] theorem State.makeRecord_supplyLow (s : State) (r : RecIx) (q : Record) : (s.makeRecord r q).supplyLow = s.supplyLow := rfl
@[simp] theorem State.makeRecord_strap (s : State) (r : RecIx) (q : Record) : (s.makeRecord r q).strap = s.strap := rfl
@[simp] theorem State.makeRecord_clock (s : State) (r : RecIx) (q : Record) : (s.makeRecord r q).clock = s.clock := rfl
@[simp] theorem State.makeRecord_memory (s : State) (r : RecIx) (q : Record) : (s.makeRecord r q).memory = s.memory := rfl
@[simp] theorem State.makeRecord_answer (s : State) (r : RecIx) (q : Record) : (s.makeRecord r q).answer = s.answer := rfl
@[simp] theorem State.makeRecord_heldCycles (s : State) (r : RecIx) (q : Record) : (s.makeRecord r q).heldCycles = s.heldCycles := rfl
@[simp] theorem State.makeRecord_heldAnswers (s : State) (r : RecIx) (q : Record) : (s.makeRecord r q).heldAnswers = s.heldAnswers := rfl
@[simp] theorem State.makeRecord_path (s : State) (r : RecIx) (q : Record) : (s.makeRecord r q).path = s.path := rfl
@[simp] theorem State.makeRecord_windows (s : State) (r : RecIx) (q : Record) : (s.makeRecord r q).windows = s.windows := rfl
@[simp] theorem State.makeRecord_lastDiscard (s : State) (r : RecIx) (q : Record) : (s.makeRecord r q).lastDiscard = s.lastDiscard := rfl
@[simp] theorem State.makeRecord_pool (s : State) (r : RecIx) (q : Record) :
    (s.makeRecord r q).pool = { s.pool with
      records := s.pool.records.set r (some q), order := s.pool.order.filter (· ≠ r) ++ [r] } := rfl
@[simp] theorem State.makeRecord_engines (s : State) (r : RecIx) (q : Record) : (s.makeRecord r q).engines = s.engines := rfl
@[simp] theorem State.makeRecord_buffers (s : State) (r : RecIx) (q : Record) : (s.makeRecord r q).buffers = s.buffers := rfl
@[simp] theorem State.makeRecord_bufWait (s : State) (r : RecIx) (q : Record) : (s.makeRecord r q).bufWait = s.bufWait := rfl
@[simp] theorem State.makeRecord_chan (s : State) (r : RecIx) (q : Record) : (s.makeRecord r q).chan = s.chan := rfl
@[simp] theorem State.makeRecord_bursts (s : State) (r : RecIx) (q : Record) : (s.makeRecord r q).bursts = s.bursts := rfl
@[simp] theorem State.makeRecord_volumes (s : State) (r : RecIx) (q : Record) : (s.makeRecord r q).volumes = s.volumes := rfl
@[simp] theorem State.makeRecord_sweep (s : State) (r : RecIx) (q : Record) : (s.makeRecord r q).sweep = s.sweep := rfl
@[simp] theorem State.makeRecord_ageLimit (s : State) (r : RecIx) (q : Record) : (s.makeRecord r q).ageLimit = s.ageLimit := rfl
@[simp] theorem State.makeRecord_slots (s : State) (r : RecIx) (q : Record) : (s.makeRecord r q).slots = s.slots := rfl
@[simp] theorem State.makeRecord_events (s : State) (r : RecIx) (q : Record) : (s.makeRecord r q).events = s.events := rfl
@[simp] theorem State.makeRecord_link (s : State) (r : RecIx) (q : Record) : (s.makeRecord r q).link = s.link := rfl
@[simp] theorem State.makeRecord_store (s : State) (r : RecIx) (q : Record) : (s.makeRecord r q).store = s.store := rfl
@[simp] theorem State.makeRecord_diskOut (s : State) (r : RecIx) (q : Record) : (s.makeRecord r q).diskOut = s.diskOut := rfl

/-! ## dropRecord -/

@[simp] theorem State.dropRecord_pending (s : State) (r : RecIx) : (s.dropRecord r).pending = s.pending := rfl
@[simp] theorem State.dropRecord_power (s : State) (r : RecIx) : (s.dropRecord r).power = s.power := rfl
@[simp] theorem State.dropRecord_resetLine (s : State) (r : RecIx) : (s.dropRecord r).resetLine = s.resetLine := rfl
@[simp] theorem State.dropRecord_supplyLow (s : State) (r : RecIx) : (s.dropRecord r).supplyLow = s.supplyLow := rfl
@[simp] theorem State.dropRecord_strap (s : State) (r : RecIx) : (s.dropRecord r).strap = s.strap := rfl
@[simp] theorem State.dropRecord_clock (s : State) (r : RecIx) : (s.dropRecord r).clock = s.clock := rfl
@[simp] theorem State.dropRecord_memory (s : State) (r : RecIx) : (s.dropRecord r).memory = s.memory := rfl
@[simp] theorem State.dropRecord_answer (s : State) (r : RecIx) : (s.dropRecord r).answer = s.answer := rfl
@[simp] theorem State.dropRecord_heldCycles (s : State) (r : RecIx) : (s.dropRecord r).heldCycles = s.heldCycles := rfl
@[simp] theorem State.dropRecord_heldAnswers (s : State) (r : RecIx) : (s.dropRecord r).heldAnswers = s.heldAnswers := rfl
@[simp] theorem State.dropRecord_path (s : State) (r : RecIx) : (s.dropRecord r).path = s.path := rfl
@[simp] theorem State.dropRecord_windows (s : State) (r : RecIx) : (s.dropRecord r).windows = s.windows := rfl
@[simp] theorem State.dropRecord_lastDiscard (s : State) (r : RecIx) : (s.dropRecord r).lastDiscard = s.lastDiscard := rfl
@[simp] theorem State.dropRecord_pool (s : State) (r : RecIx) :
    (s.dropRecord r).pool = { s.pool with
      records := s.pool.records.set r none, order := s.pool.order.filter (· ≠ r) } := rfl
@[simp] theorem State.dropRecord_engines (s : State) (r : RecIx) : (s.dropRecord r).engines = s.engines := rfl
@[simp] theorem State.dropRecord_buffers (s : State) (r : RecIx) : (s.dropRecord r).buffers = s.buffers := rfl
@[simp] theorem State.dropRecord_bufWait (s : State) (r : RecIx) : (s.dropRecord r).bufWait = s.bufWait := rfl
@[simp] theorem State.dropRecord_chan (s : State) (r : RecIx) : (s.dropRecord r).chan = s.chan := rfl
@[simp] theorem State.dropRecord_bursts (s : State) (r : RecIx) : (s.dropRecord r).bursts = s.bursts := rfl
@[simp] theorem State.dropRecord_volumes (s : State) (r : RecIx) : (s.dropRecord r).volumes = s.volumes := rfl
@[simp] theorem State.dropRecord_sweep (s : State) (r : RecIx) : (s.dropRecord r).sweep = s.sweep := rfl
@[simp] theorem State.dropRecord_ageLimit (s : State) (r : RecIx) : (s.dropRecord r).ageLimit = s.ageLimit := rfl
@[simp] theorem State.dropRecord_slots (s : State) (r : RecIx) : (s.dropRecord r).slots = s.slots := rfl
@[simp] theorem State.dropRecord_events (s : State) (r : RecIx) : (s.dropRecord r).events = s.events := rfl
@[simp] theorem State.dropRecord_link (s : State) (r : RecIx) : (s.dropRecord r).link = s.link := rfl
@[simp] theorem State.dropRecord_store (s : State) (r : RecIx) : (s.dropRecord r).store = s.store := rfl
@[simp] theorem State.dropRecord_diskOut (s : State) (r : RecIx) : (s.dropRecord r).diskOut = s.diskOut := rfl

/-! ## leaveBacklog -/

@[simp] theorem State.leaveBacklog_pending (s : State) (x : SectorRef) : (s.leaveBacklog x).pending = s.pending := rfl
@[simp] theorem State.leaveBacklog_power (s : State) (x : SectorRef) : (s.leaveBacklog x).power = s.power := rfl
@[simp] theorem State.leaveBacklog_resetLine (s : State) (x : SectorRef) : (s.leaveBacklog x).resetLine = s.resetLine := rfl
@[simp] theorem State.leaveBacklog_supplyLow (s : State) (x : SectorRef) : (s.leaveBacklog x).supplyLow = s.supplyLow := rfl
@[simp] theorem State.leaveBacklog_strap (s : State) (x : SectorRef) : (s.leaveBacklog x).strap = s.strap := rfl
@[simp] theorem State.leaveBacklog_clock (s : State) (x : SectorRef) : (s.leaveBacklog x).clock = s.clock := rfl
@[simp] theorem State.leaveBacklog_memory (s : State) (x : SectorRef) : (s.leaveBacklog x).memory = s.memory := rfl
@[simp] theorem State.leaveBacklog_answer (s : State) (x : SectorRef) : (s.leaveBacklog x).answer = s.answer := rfl
@[simp] theorem State.leaveBacklog_heldCycles (s : State) (x : SectorRef) : (s.leaveBacklog x).heldCycles = s.heldCycles := rfl
@[simp] theorem State.leaveBacklog_heldAnswers (s : State) (x : SectorRef) : (s.leaveBacklog x).heldAnswers = s.heldAnswers := rfl
@[simp] theorem State.leaveBacklog_path (s : State) (x : SectorRef) : (s.leaveBacklog x).path = s.path := rfl
@[simp] theorem State.leaveBacklog_windows (s : State) (x : SectorRef) : (s.leaveBacklog x).windows = s.windows := rfl
@[simp] theorem State.leaveBacklog_lastDiscard (s : State) (x : SectorRef) : (s.leaveBacklog x).lastDiscard = s.lastDiscard := rfl
@[simp] theorem State.leaveBacklog_pool (s : State) (x : SectorRef) :
    (s.leaveBacklog x).pool = { s.pool with backlog := s.pool.backlog.filter (· ≠ x) } := rfl
@[simp] theorem State.leaveBacklog_engines (s : State) (x : SectorRef) : (s.leaveBacklog x).engines = s.engines := rfl
@[simp] theorem State.leaveBacklog_buffers (s : State) (x : SectorRef) : (s.leaveBacklog x).buffers = s.buffers := rfl
@[simp] theorem State.leaveBacklog_bufWait (s : State) (x : SectorRef) : (s.leaveBacklog x).bufWait = s.bufWait := rfl
@[simp] theorem State.leaveBacklog_chan (s : State) (x : SectorRef) : (s.leaveBacklog x).chan = s.chan := rfl
@[simp] theorem State.leaveBacklog_bursts (s : State) (x : SectorRef) : (s.leaveBacklog x).bursts = s.bursts := rfl
@[simp] theorem State.leaveBacklog_volumes (s : State) (x : SectorRef) : (s.leaveBacklog x).volumes = s.volumes := rfl
@[simp] theorem State.leaveBacklog_sweep (s : State) (x : SectorRef) : (s.leaveBacklog x).sweep = s.sweep := rfl
@[simp] theorem State.leaveBacklog_ageLimit (s : State) (x : SectorRef) : (s.leaveBacklog x).ageLimit = s.ageLimit := rfl
@[simp] theorem State.leaveBacklog_slots (s : State) (x : SectorRef) : (s.leaveBacklog x).slots = s.slots := rfl
@[simp] theorem State.leaveBacklog_events (s : State) (x : SectorRef) : (s.leaveBacklog x).events = s.events := rfl
@[simp] theorem State.leaveBacklog_link (s : State) (x : SectorRef) : (s.leaveBacklog x).link = s.link := rfl
@[simp] theorem State.leaveBacklog_store (s : State) (x : SectorRef) : (s.leaveBacklog x).store = s.store := rfl
@[simp] theorem State.leaveBacklog_diskOut (s : State) (x : SectorRef) : (s.leaveBacklog x).diskOut = s.diskOut := rfl

/-! ## raise -/

@[simp] theorem State.raise_pending (s : State) (e : Event) : (s.raise e).pending = s.pending := rfl
@[simp] theorem State.raise_power (s : State) (e : Event) : (s.raise e).power = s.power := rfl
@[simp] theorem State.raise_resetLine (s : State) (e : Event) : (s.raise e).resetLine = s.resetLine := rfl
@[simp] theorem State.raise_supplyLow (s : State) (e : Event) : (s.raise e).supplyLow = s.supplyLow := rfl
@[simp] theorem State.raise_strap (s : State) (e : Event) : (s.raise e).strap = s.strap := rfl
@[simp] theorem State.raise_clock (s : State) (e : Event) : (s.raise e).clock = s.clock := rfl
@[simp] theorem State.raise_memory (s : State) (e : Event) : (s.raise e).memory = s.memory := rfl
@[simp] theorem State.raise_answer (s : State) (e : Event) : (s.raise e).answer = s.answer := rfl
@[simp] theorem State.raise_heldCycles (s : State) (e : Event) : (s.raise e).heldCycles = s.heldCycles := rfl
@[simp] theorem State.raise_heldAnswers (s : State) (e : Event) : (s.raise e).heldAnswers = s.heldAnswers := rfl
@[simp] theorem State.raise_path (s : State) (e : Event) : (s.raise e).path = s.path := rfl
@[simp] theorem State.raise_windows (s : State) (e : Event) : (s.raise e).windows = s.windows := rfl
@[simp] theorem State.raise_lastDiscard (s : State) (e : Event) : (s.raise e).lastDiscard = s.lastDiscard := rfl
@[simp] theorem State.raise_pool (s : State) (e : Event) : (s.raise e).pool = s.pool := rfl
@[simp] theorem State.raise_engines (s : State) (e : Event) : (s.raise e).engines = s.engines := rfl
@[simp] theorem State.raise_buffers (s : State) (e : Event) : (s.raise e).buffers = s.buffers := rfl
@[simp] theorem State.raise_bufWait (s : State) (e : Event) : (s.raise e).bufWait = s.bufWait := rfl
@[simp] theorem State.raise_chan (s : State) (e : Event) : (s.raise e).chan = s.chan := rfl
@[simp] theorem State.raise_bursts (s : State) (e : Event) : (s.raise e).bursts = s.bursts := rfl
@[simp] theorem State.raise_volumes (s : State) (e : Event) : (s.raise e).volumes = s.volumes := rfl
@[simp] theorem State.raise_sweep (s : State) (e : Event) : (s.raise e).sweep = s.sweep := rfl
@[simp] theorem State.raise_ageLimit (s : State) (e : Event) : (s.raise e).ageLimit = s.ageLimit := rfl
@[simp] theorem State.raise_slots (s : State) (e : Event) : (s.raise e).slots = s.slots := rfl
@[simp] theorem State.raise_events (s : State) (e : Event) : (s.raise e).events = s.events.raise e := rfl
@[simp] theorem State.raise_link (s : State) (e : Event) : (s.raise e).link = s.link := rfl
@[simp] theorem State.raise_store (s : State) (e : Event) : (s.raise e).store = s.store := rfl
@[simp] theorem State.raise_diskOut (s : State) (e : Event) : (s.raise e).diskOut = s.diskOut := rfl

/-! ## respond -/

@[simp] theorem State.respond_pending (s : State) (r : Result) (l : List Byte) : (s.respond r l).pending = s.pending := rfl
@[simp] theorem State.respond_power (s : State) (r : Result) (l : List Byte) : (s.respond r l).power = s.power := rfl
@[simp] theorem State.respond_resetLine (s : State) (r : Result) (l : List Byte) : (s.respond r l).resetLine = s.resetLine := rfl
@[simp] theorem State.respond_supplyLow (s : State) (r : Result) (l : List Byte) : (s.respond r l).supplyLow = s.supplyLow := rfl
@[simp] theorem State.respond_strap (s : State) (r : Result) (l : List Byte) : (s.respond r l).strap = s.strap := rfl
@[simp] theorem State.respond_clock (s : State) (r : Result) (l : List Byte) : (s.respond r l).clock = s.clock := rfl
@[simp] theorem State.respond_memory (s : State) (r : Result) (l : List Byte) : (s.respond r l).memory = s.memory := rfl
@[simp] theorem State.respond_answer (s : State) (r : Result) (l : List Byte) : (s.respond r l).answer = s.answer := rfl
@[simp] theorem State.respond_heldCycles (s : State) (r : Result) (l : List Byte) : (s.respond r l).heldCycles = s.heldCycles := rfl
@[simp] theorem State.respond_heldAnswers (s : State) (r : Result) (l : List Byte) : (s.respond r l).heldAnswers = s.heldAnswers := rfl
@[simp] theorem State.respond_path (s : State) (r : Result) (l : List Byte) : (s.respond r l).path = s.path := rfl
@[simp] theorem State.respond_windows (s : State) (r : Result) (l : List Byte) : (s.respond r l).windows = s.windows := rfl
@[simp] theorem State.respond_lastDiscard (s : State) (r : Result) (l : List Byte) : (s.respond r l).lastDiscard = s.lastDiscard := rfl
@[simp] theorem State.respond_pool (s : State) (r : Result) (l : List Byte) : (s.respond r l).pool = s.pool := rfl
@[simp] theorem State.respond_engines (s : State) (r : Result) (l : List Byte) : (s.respond r l).engines = s.engines := rfl
@[simp] theorem State.respond_buffers (s : State) (r : Result) (l : List Byte) : (s.respond r l).buffers = s.buffers := rfl
@[simp] theorem State.respond_bufWait (s : State) (r : Result) (l : List Byte) : (s.respond r l).bufWait = s.bufWait := rfl
@[simp] theorem State.respond_chan (s : State) (r : Result) (l : List Byte) : (s.respond r l).chan = s.chan := rfl
@[simp] theorem State.respond_bursts (s : State) (r : Result) (l : List Byte) : (s.respond r l).bursts = s.bursts := rfl
@[simp] theorem State.respond_volumes (s : State) (r : Result) (l : List Byte) : (s.respond r l).volumes = s.volumes := rfl
@[simp] theorem State.respond_sweep (s : State) (r : Result) (l : List Byte) : (s.respond r l).sweep = s.sweep := rfl
@[simp] theorem State.respond_ageLimit (s : State) (r : Result) (l : List Byte) : (s.respond r l).ageLimit = s.ageLimit := rfl
@[simp] theorem State.respond_slots (s : State) (r : Result) (l : List Byte) : (s.respond r l).slots = s.slots := rfl
@[simp] theorem State.respond_events (s : State) (r : Result) (l : List Byte) : (s.respond r l).events = s.events := rfl
@[simp] theorem State.respond_link (s : State) (r : Result) (l : List Byte) : (s.respond r l).link = { s.link with response := r.code :: l } := rfl
@[simp] theorem State.respond_store (s : State) (r : Result) (l : List Byte) : (s.respond r l).store = s.store := rfl
@[simp] theorem State.respond_diskOut (s : State) (r : Result) (l : List Byte) : (s.respond r l).diskOut = s.diskOut := rfl

/-! ## takeCommand -/

@[simp] theorem State.takeCommand_pending (s : State) (c : Byte) (l : List Byte) : (s.takeCommand c l).pending = s.pending := rfl
@[simp] theorem State.takeCommand_power (s : State) (c : Byte) (l : List Byte) : (s.takeCommand c l).power = s.power := rfl
@[simp] theorem State.takeCommand_resetLine (s : State) (c : Byte) (l : List Byte) : (s.takeCommand c l).resetLine = s.resetLine := rfl
@[simp] theorem State.takeCommand_supplyLow (s : State) (c : Byte) (l : List Byte) : (s.takeCommand c l).supplyLow = s.supplyLow := rfl
@[simp] theorem State.takeCommand_strap (s : State) (c : Byte) (l : List Byte) : (s.takeCommand c l).strap = s.strap := rfl
@[simp] theorem State.takeCommand_clock (s : State) (c : Byte) (l : List Byte) : (s.takeCommand c l).clock = s.clock := rfl
@[simp] theorem State.takeCommand_memory (s : State) (c : Byte) (l : List Byte) : (s.takeCommand c l).memory = s.memory := rfl
@[simp] theorem State.takeCommand_answer (s : State) (c : Byte) (l : List Byte) : (s.takeCommand c l).answer = s.answer := rfl
@[simp] theorem State.takeCommand_heldCycles (s : State) (c : Byte) (l : List Byte) : (s.takeCommand c l).heldCycles = s.heldCycles := rfl
@[simp] theorem State.takeCommand_heldAnswers (s : State) (c : Byte) (l : List Byte) : (s.takeCommand c l).heldAnswers = s.heldAnswers := rfl
@[simp] theorem State.takeCommand_path (s : State) (c : Byte) (l : List Byte) : (s.takeCommand c l).path = s.path := rfl
@[simp] theorem State.takeCommand_windows (s : State) (c : Byte) (l : List Byte) : (s.takeCommand c l).windows = s.windows := rfl
@[simp] theorem State.takeCommand_lastDiscard (s : State) (c : Byte) (l : List Byte) : (s.takeCommand c l).lastDiscard = s.lastDiscard := rfl
@[simp] theorem State.takeCommand_pool (s : State) (c : Byte) (l : List Byte) : (s.takeCommand c l).pool = s.pool := rfl
@[simp] theorem State.takeCommand_engines (s : State) (c : Byte) (l : List Byte) : (s.takeCommand c l).engines = s.engines := rfl
@[simp] theorem State.takeCommand_buffers (s : State) (c : Byte) (l : List Byte) : (s.takeCommand c l).buffers = s.buffers := rfl
@[simp] theorem State.takeCommand_bufWait (s : State) (c : Byte) (l : List Byte) : (s.takeCommand c l).bufWait = s.bufWait := rfl
@[simp] theorem State.takeCommand_chan (s : State) (c : Byte) (l : List Byte) : (s.takeCommand c l).chan = s.chan := rfl
@[simp] theorem State.takeCommand_bursts (s : State) (c : Byte) (l : List Byte) : (s.takeCommand c l).bursts = s.bursts := rfl
@[simp] theorem State.takeCommand_volumes (s : State) (c : Byte) (l : List Byte) : (s.takeCommand c l).volumes = s.volumes := rfl
@[simp] theorem State.takeCommand_sweep (s : State) (c : Byte) (l : List Byte) : (s.takeCommand c l).sweep = s.sweep := rfl
@[simp] theorem State.takeCommand_ageLimit (s : State) (c : Byte) (l : List Byte) : (s.takeCommand c l).ageLimit = s.ageLimit := rfl
@[simp] theorem State.takeCommand_slots (s : State) (c : Byte) (l : List Byte) : (s.takeCommand c l).slots = s.slots := rfl
@[simp] theorem State.takeCommand_events (s : State) (c : Byte) (l : List Byte) : (s.takeCommand c l).events = s.events := rfl
@[simp] theorem State.takeCommand_link (s : State) (c : Byte) (l : List Byte) :
    (s.takeCommand c l).link = { s.link with command := c :: BitVec.ofNat 8 l.length :: l } := rfl
@[simp] theorem State.takeCommand_store (s : State) (c : Byte) (l : List Byte) : (s.takeCommand c l).store = s.store := rfl
@[simp] theorem State.takeCommand_diskOut (s : State) (c : Byte) (l : List Byte) : (s.takeCommand c l).diskOut = s.diskOut := rfl

/-! ## writeByte -/

@[simp] theorem State.writeByte_pending (s : State) (a : Nat) (v : Byte) : (s.writeByte a v).pending = s.pending := rfl
@[simp] theorem State.writeByte_power (s : State) (a : Nat) (v : Byte) : (s.writeByte a v).power = s.power := rfl
@[simp] theorem State.writeByte_resetLine (s : State) (a : Nat) (v : Byte) : (s.writeByte a v).resetLine = s.resetLine := rfl
@[simp] theorem State.writeByte_supplyLow (s : State) (a : Nat) (v : Byte) : (s.writeByte a v).supplyLow = s.supplyLow := rfl
@[simp] theorem State.writeByte_strap (s : State) (a : Nat) (v : Byte) : (s.writeByte a v).strap = s.strap := rfl
@[simp] theorem State.writeByte_clock (s : State) (a : Nat) (v : Byte) : (s.writeByte a v).clock = s.clock := rfl
@[simp] theorem State.writeByte_memory (s : State) (a : Nat) (v : Byte) : (s.writeByte a v).memory = s.memory.write (a % memorySize) v := rfl
@[simp] theorem State.writeByte_answer (s : State) (a : Nat) (v : Byte) : (s.writeByte a v).answer = s.answer := rfl
@[simp] theorem State.writeByte_heldCycles (s : State) (a : Nat) (v : Byte) : (s.writeByte a v).heldCycles = s.heldCycles := rfl
@[simp] theorem State.writeByte_heldAnswers (s : State) (a : Nat) (v : Byte) : (s.writeByte a v).heldAnswers = s.heldAnswers := rfl
@[simp] theorem State.writeByte_path (s : State) (a : Nat) (v : Byte) : (s.writeByte a v).path = s.path := rfl
@[simp] theorem State.writeByte_windows (s : State) (a : Nat) (v : Byte) : (s.writeByte a v).windows = s.windows := rfl
@[simp] theorem State.writeByte_lastDiscard (s : State) (a : Nat) (v : Byte) : (s.writeByte a v).lastDiscard = s.lastDiscard := rfl
@[simp] theorem State.writeByte_pool (s : State) (a : Nat) (v : Byte) : (s.writeByte a v).pool = s.pool := rfl
@[simp] theorem State.writeByte_engines (s : State) (a : Nat) (v : Byte) : (s.writeByte a v).engines = s.engines := rfl
@[simp] theorem State.writeByte_buffers (s : State) (a : Nat) (v : Byte) : (s.writeByte a v).buffers = s.buffers := rfl
@[simp] theorem State.writeByte_bufWait (s : State) (a : Nat) (v : Byte) : (s.writeByte a v).bufWait = s.bufWait := rfl
@[simp] theorem State.writeByte_chan (s : State) (a : Nat) (v : Byte) : (s.writeByte a v).chan = s.chan := rfl
@[simp] theorem State.writeByte_bursts (s : State) (a : Nat) (v : Byte) : (s.writeByte a v).bursts = s.bursts := rfl
@[simp] theorem State.writeByte_volumes (s : State) (a : Nat) (v : Byte) : (s.writeByte a v).volumes = s.volumes := rfl
@[simp] theorem State.writeByte_sweep (s : State) (a : Nat) (v : Byte) : (s.writeByte a v).sweep = s.sweep := rfl
@[simp] theorem State.writeByte_ageLimit (s : State) (a : Nat) (v : Byte) : (s.writeByte a v).ageLimit = s.ageLimit := rfl
@[simp] theorem State.writeByte_slots (s : State) (a : Nat) (v : Byte) : (s.writeByte a v).slots = s.slots := rfl
@[simp] theorem State.writeByte_events (s : State) (a : Nat) (v : Byte) : (s.writeByte a v).events = s.events := rfl
@[simp] theorem State.writeByte_link (s : State) (a : Nat) (v : Byte) : (s.writeByte a v).link = s.link := rfl
@[simp] theorem State.writeByte_store (s : State) (a : Nat) (v : Byte) : (s.writeByte a v).store = s.store := rfl
@[simp] theorem State.writeByte_diskOut (s : State) (a : Nat) (v : Byte) : (s.writeByte a v).diskOut = s.diskOut := rfl

/-! ## setDeferred -/

@[simp] theorem State.setDeferred_pending (s : State) (t : Tag) (o : Option DeferRecord) : (s.setDeferred t o).pending = s.pending := rfl
@[simp] theorem State.setDeferred_power (s : State) (t : Tag) (o : Option DeferRecord) : (s.setDeferred t o).power = s.power := rfl
@[simp] theorem State.setDeferred_resetLine (s : State) (t : Tag) (o : Option DeferRecord) : (s.setDeferred t o).resetLine = s.resetLine := rfl
@[simp] theorem State.setDeferred_supplyLow (s : State) (t : Tag) (o : Option DeferRecord) : (s.setDeferred t o).supplyLow = s.supplyLow := rfl
@[simp] theorem State.setDeferred_strap (s : State) (t : Tag) (o : Option DeferRecord) : (s.setDeferred t o).strap = s.strap := rfl
@[simp] theorem State.setDeferred_clock (s : State) (t : Tag) (o : Option DeferRecord) : (s.setDeferred t o).clock = s.clock := rfl
@[simp] theorem State.setDeferred_memory (s : State) (t : Tag) (o : Option DeferRecord) : (s.setDeferred t o).memory = s.memory := rfl
@[simp] theorem State.setDeferred_answer (s : State) (t : Tag) (o : Option DeferRecord) : (s.setDeferred t o).answer = s.answer := rfl
@[simp] theorem State.setDeferred_heldCycles (s : State) (t : Tag) (o : Option DeferRecord) : (s.setDeferred t o).heldCycles = s.heldCycles := rfl
@[simp] theorem State.setDeferred_heldAnswers (s : State) (t : Tag) (o : Option DeferRecord) : (s.setDeferred t o).heldAnswers = s.heldAnswers := rfl
@[simp] theorem State.setDeferred_path (s : State) (t : Tag) (o : Option DeferRecord) :
    (s.setDeferred t o).path = { s.path with deferred := s.path.deferred.set t o } := rfl
@[simp] theorem State.setDeferred_windows (s : State) (t : Tag) (o : Option DeferRecord) : (s.setDeferred t o).windows = s.windows := rfl
@[simp] theorem State.setDeferred_lastDiscard (s : State) (t : Tag) (o : Option DeferRecord) : (s.setDeferred t o).lastDiscard = s.lastDiscard := rfl
@[simp] theorem State.setDeferred_pool (s : State) (t : Tag) (o : Option DeferRecord) : (s.setDeferred t o).pool = s.pool := rfl
@[simp] theorem State.setDeferred_engines (s : State) (t : Tag) (o : Option DeferRecord) : (s.setDeferred t o).engines = s.engines := rfl
@[simp] theorem State.setDeferred_buffers (s : State) (t : Tag) (o : Option DeferRecord) : (s.setDeferred t o).buffers = s.buffers := rfl
@[simp] theorem State.setDeferred_bufWait (s : State) (t : Tag) (o : Option DeferRecord) : (s.setDeferred t o).bufWait = s.bufWait := rfl
@[simp] theorem State.setDeferred_chan (s : State) (t : Tag) (o : Option DeferRecord) : (s.setDeferred t o).chan = s.chan := rfl
@[simp] theorem State.setDeferred_bursts (s : State) (t : Tag) (o : Option DeferRecord) : (s.setDeferred t o).bursts = s.bursts := rfl
@[simp] theorem State.setDeferred_volumes (s : State) (t : Tag) (o : Option DeferRecord) : (s.setDeferred t o).volumes = s.volumes := rfl
@[simp] theorem State.setDeferred_sweep (s : State) (t : Tag) (o : Option DeferRecord) : (s.setDeferred t o).sweep = s.sweep := rfl
@[simp] theorem State.setDeferred_ageLimit (s : State) (t : Tag) (o : Option DeferRecord) : (s.setDeferred t o).ageLimit = s.ageLimit := rfl
@[simp] theorem State.setDeferred_slots (s : State) (t : Tag) (o : Option DeferRecord) : (s.setDeferred t o).slots = s.slots := rfl
@[simp] theorem State.setDeferred_events (s : State) (t : Tag) (o : Option DeferRecord) : (s.setDeferred t o).events = s.events := rfl
@[simp] theorem State.setDeferred_link (s : State) (t : Tag) (o : Option DeferRecord) : (s.setDeferred t o).link = s.link := rfl
@[simp] theorem State.setDeferred_store (s : State) (t : Tag) (o : Option DeferRecord) : (s.setDeferred t o).store = s.store := rfl
@[simp] theorem State.setDeferred_diskOut (s : State) (t : Tag) (o : Option DeferRecord) : (s.setDeferred t o).diskOut = s.diskOut := rfl

/-! ## answered -/

@[simp] theorem State.answered_pending (s : State) (a : Answer) (o : Option ReadData) : (s.answered a o).pending = s.pending := rfl
@[simp] theorem State.answered_power (s : State) (a : Answer) (o : Option ReadData) : (s.answered a o).power = s.power := rfl
@[simp] theorem State.answered_resetLine (s : State) (a : Answer) (o : Option ReadData) : (s.answered a o).resetLine = s.resetLine := rfl
@[simp] theorem State.answered_supplyLow (s : State) (a : Answer) (o : Option ReadData) : (s.answered a o).supplyLow = s.supplyLow := rfl
@[simp] theorem State.answered_strap (s : State) (a : Answer) (o : Option ReadData) : (s.answered a o).strap = s.strap := rfl
@[simp] theorem State.answered_clock (s : State) (a : Answer) (o : Option ReadData) : (s.answered a o).clock = s.clock := rfl
@[simp] theorem State.answered_memory (s : State) (a : Answer) (o : Option ReadData) : (s.answered a o).memory = s.memory := rfl
@[simp] theorem State.answered_answer (s : State) (a : Answer) (o : Option ReadData) : (s.answered a o).answer = some { answer := a, data := o } := rfl
@[simp] theorem State.answered_heldCycles (s : State) (a : Answer) (o : Option ReadData) : (s.answered a o).heldCycles = s.heldCycles := rfl
@[simp] theorem State.answered_heldAnswers (s : State) (a : Answer) (o : Option ReadData) : (s.answered a o).heldAnswers = s.heldAnswers := rfl
@[simp] theorem State.answered_path (s : State) (a : Answer) (o : Option ReadData) : (s.answered a o).path = s.path := rfl
@[simp] theorem State.answered_windows (s : State) (a : Answer) (o : Option ReadData) : (s.answered a o).windows = s.windows := rfl
@[simp] theorem State.answered_lastDiscard (s : State) (a : Answer) (o : Option ReadData) : (s.answered a o).lastDiscard = s.lastDiscard := rfl
@[simp] theorem State.answered_pool (s : State) (a : Answer) (o : Option ReadData) : (s.answered a o).pool = s.pool := rfl
@[simp] theorem State.answered_engines (s : State) (a : Answer) (o : Option ReadData) : (s.answered a o).engines = s.engines := rfl
@[simp] theorem State.answered_buffers (s : State) (a : Answer) (o : Option ReadData) : (s.answered a o).buffers = s.buffers := rfl
@[simp] theorem State.answered_bufWait (s : State) (a : Answer) (o : Option ReadData) : (s.answered a o).bufWait = s.bufWait := rfl
@[simp] theorem State.answered_chan (s : State) (a : Answer) (o : Option ReadData) : (s.answered a o).chan = s.chan := rfl
@[simp] theorem State.answered_bursts (s : State) (a : Answer) (o : Option ReadData) : (s.answered a o).bursts = s.bursts := rfl
@[simp] theorem State.answered_volumes (s : State) (a : Answer) (o : Option ReadData) : (s.answered a o).volumes = s.volumes := rfl
@[simp] theorem State.answered_sweep (s : State) (a : Answer) (o : Option ReadData) : (s.answered a o).sweep = s.sweep := rfl
@[simp] theorem State.answered_ageLimit (s : State) (a : Answer) (o : Option ReadData) : (s.answered a o).ageLimit = s.ageLimit := rfl
@[simp] theorem State.answered_slots (s : State) (a : Answer) (o : Option ReadData) : (s.answered a o).slots = s.slots := rfl
@[simp] theorem State.answered_events (s : State) (a : Answer) (o : Option ReadData) : (s.answered a o).events = s.events := rfl
@[simp] theorem State.answered_link (s : State) (a : Answer) (o : Option ReadData) : (s.answered a o).link = s.link := rfl
@[simp] theorem State.answered_store (s : State) (a : Answer) (o : Option ReadData) : (s.answered a o).store = s.store := rfl
@[simp] theorem State.answered_diskOut (s : State) (a : Answer) (o : Option ReadData) : (s.answered a o).diskOut = s.diskOut := rfl

/-! ## joinQueue -/

@[simp] theorem State.joinQueue_pending (s : State) (u : Burst) : (s.joinQueue u).pending = s.pending := rfl
@[simp] theorem State.joinQueue_power (s : State) (u : Burst) : (s.joinQueue u).power = s.power := rfl
@[simp] theorem State.joinQueue_resetLine (s : State) (u : Burst) : (s.joinQueue u).resetLine = s.resetLine := rfl
@[simp] theorem State.joinQueue_supplyLow (s : State) (u : Burst) : (s.joinQueue u).supplyLow = s.supplyLow := rfl
@[simp] theorem State.joinQueue_strap (s : State) (u : Burst) : (s.joinQueue u).strap = s.strap := rfl
@[simp] theorem State.joinQueue_clock (s : State) (u : Burst) : (s.joinQueue u).clock = s.clock := rfl
@[simp] theorem State.joinQueue_memory (s : State) (u : Burst) : (s.joinQueue u).memory = s.memory := rfl
@[simp] theorem State.joinQueue_answer (s : State) (u : Burst) : (s.joinQueue u).answer = s.answer := rfl
@[simp] theorem State.joinQueue_heldCycles (s : State) (u : Burst) : (s.joinQueue u).heldCycles = s.heldCycles := rfl
@[simp] theorem State.joinQueue_heldAnswers (s : State) (u : Burst) : (s.joinQueue u).heldAnswers = s.heldAnswers := rfl
@[simp] theorem State.joinQueue_path (s : State) (u : Burst) : (s.joinQueue u).path = s.path := rfl
@[simp] theorem State.joinQueue_windows (s : State) (u : Burst) : (s.joinQueue u).windows = s.windows := rfl
@[simp] theorem State.joinQueue_lastDiscard (s : State) (u : Burst) : (s.joinQueue u).lastDiscard = s.lastDiscard := rfl
@[simp] theorem State.joinQueue_pool (s : State) (u : Burst) : (s.joinQueue u).pool = s.pool := rfl
@[simp] theorem State.joinQueue_engines (s : State) (u : Burst) : (s.joinQueue u).engines = s.engines := rfl
@[simp] theorem State.joinQueue_buffers (s : State) (u : Burst) : (s.joinQueue u).buffers = s.buffers := rfl
@[simp] theorem State.joinQueue_bufWait (s : State) (u : Burst) : (s.joinQueue u).bufWait = s.bufWait := rfl
@[simp] theorem State.joinQueue_chan (s : State) (u : Burst) : (s.joinQueue u).chan = s.chan := rfl
@[simp] theorem State.joinQueue_bursts (s : State) (u : Burst) :
    (s.joinQueue u).bursts = { s.bursts with queue := s.bursts.queue ++ [u] } := rfl
@[simp] theorem State.joinQueue_volumes (s : State) (u : Burst) : (s.joinQueue u).volumes = s.volumes := rfl
@[simp] theorem State.joinQueue_sweep (s : State) (u : Burst) : (s.joinQueue u).sweep = s.sweep := rfl
@[simp] theorem State.joinQueue_ageLimit (s : State) (u : Burst) : (s.joinQueue u).ageLimit = s.ageLimit := rfl
@[simp] theorem State.joinQueue_slots (s : State) (u : Burst) : (s.joinQueue u).slots = s.slots := rfl
@[simp] theorem State.joinQueue_events (s : State) (u : Burst) : (s.joinQueue u).events = s.events := rfl
@[simp] theorem State.joinQueue_link (s : State) (u : Burst) : (s.joinQueue u).link = s.link := rfl
@[simp] theorem State.joinQueue_store (s : State) (u : Burst) : (s.joinQueue u).store = s.store := rfl
@[simp] theorem State.joinQueue_diskOut (s : State) (u : Burst) : (s.joinQueue u).diskOut = s.diskOut := rfl

/-! ## Indexed access after an indexed update -/

theorem State.engine_setEngine (s : State) (i j : DriveIx) (x : Engine) :
    (s.setEngine i x).engine j = if j = i then x else s.engine j := by
  simp only [State.engine, State.setEngine, Fin.getElem_fin, Vector.getElem_set, Fin.ext_iff, eq_comm]

@[simp] theorem State.engine_setEngine_self (s : State) (i : DriveIx) (x : Engine) :
    (s.setEngine i x).engine i = x := by simp [State.engine_setEngine]

@[simp] theorem State.engine_setEngine_other (s : State) {i j : DriveIx} (x : Engine) (h : j ≠ i) :
    (s.setEngine i x).engine j = s.engine j := by simp [State.engine_setEngine, h]

theorem State.volume_setVolume (s : State) (i j : DriveIx) (x : Volume) :
    (s.setVolume i x).volume j = if j = i then x else s.volume j := by
  simp only [State.volume, State.setVolume, Fin.getElem_fin, Vector.getElem_set, Fin.ext_iff, eq_comm]

@[simp] theorem State.volume_setVolume_self (s : State) (i : DriveIx) (x : Volume) :
    (s.setVolume i x).volume i = x := by simp [State.volume_setVolume]

@[simp] theorem State.volume_setVolume_other (s : State) {i j : DriveIx} (x : Volume) (h : j ≠ i) :
    (s.setVolume i x).volume j = s.volume j := by simp [State.volume_setVolume, h]

theorem State.window_setWindow (s : State) (i j : WinIx) (x : Window) :
    (s.setWindow i x).window j = if j = i then x else s.window j := by
  simp only [State.window, State.setWindow, Fin.getElem_fin, Vector.getElem_set, Fin.ext_iff, eq_comm]

@[simp] theorem State.window_setWindow_self (s : State) (i : WinIx) (x : Window) :
    (s.setWindow i x).window i = x := by simp [State.window_setWindow]

@[simp] theorem State.window_setWindow_other (s : State) {i j : WinIx} (x : Window) (h : j ≠ i) :
    (s.setWindow i x).window j = s.window j := by simp [State.window_setWindow, h]

theorem State.slot_setSlot (s : State) (i j : SlotIx) (x : Slot) :
    (s.setSlot i x).slot j = if j = i then x else s.slot j := by
  simp only [State.slot, State.setSlot, Fin.getElem_fin, Vector.getElem_set, Fin.ext_iff, eq_comm]

@[simp] theorem State.slot_setSlot_self (s : State) (i : SlotIx) (x : Slot) :
    (s.setSlot i x).slot i = x := by simp [State.slot_setSlot]

@[simp] theorem State.slot_setSlot_other (s : State) {i j : SlotIx} (x : Slot) (h : j ≠ i) :
    (s.setSlot i x).slot j = s.slot j := by simp [State.slot_setSlot, h]

theorem State.buffer_setBuffer (s : State) (i j : BufIx) (x : List Byte) :
    (s.setBuffer i x).buffer j = if j = i then x else s.buffer j := by
  simp only [State.buffer, State.setBuffer, Fin.getElem_fin, Vector.getElem_set, Fin.ext_iff, eq_comm]

@[simp] theorem State.buffer_setBuffer_self (s : State) (i : BufIx) (x : List Byte) :
    (s.setBuffer i x).buffer i = x := by simp [State.buffer_setBuffer]

@[simp] theorem State.buffer_setBuffer_other (s : State) {i j : BufIx} (x : List Byte) (h : j ≠ i) :
    (s.setBuffer i x).buffer j = s.buffer j := by simp [State.buffer_setBuffer, h]

theorem State.record_setRecord (s : State) (i j : RecIx) (x : Option Record) :
    (s.setRecord i x).record? j = if j = i then x else s.record? j := by
  simp only [State.record?, State.setRecord, Fin.getElem_fin, Vector.getElem_set, Fin.ext_iff, eq_comm]

@[simp] theorem State.record_setRecord_self (s : State) (i : RecIx) (x : Option Record) :
    (s.setRecord i x).record? i = x := by simp [State.record_setRecord]

@[simp] theorem State.record_setRecord_other (s : State) {i j : RecIx} (x : Option Record) (h : j ≠ i) :
    (s.setRecord i x).record? j = s.record? j := by simp [State.record_setRecord, h]

/-- Reading a record after one is made. -/
theorem State.record_makeRecord (s : State) (r j : RecIx) (q : Record) :
    (s.makeRecord r q).record? j = if j = r then some q else s.record? j := by
  simp only [State.record?, State.makeRecord_pool, Fin.getElem_fin, Vector.getElem_set, Fin.ext_iff,
    eq_comm]

/-- Reading a record after one is dropped. -/
theorem State.record_dropRecord (s : State) (r j : RecIx) :
    (s.dropRecord r).record? j = if j = r then none else s.record? j := by
  simp only [State.record?, State.dropRecord_pool, Fin.getElem_fin, Vector.getElem_set, Fin.ext_iff,
    eq_comm]

/-! ## Indexed access depends on one field -/

theorem State.engine_congr {s t : State} (h : t.engines = s.engines) (d : DriveIx) :
    t.engine d = s.engine d := by simp [State.engine, h]

theorem State.volume_congr {s t : State} (h : t.volumes = s.volumes) (d : DriveIx) :
    t.volume d = s.volume d := by simp [State.volume, h]

theorem State.window_congr {s t : State} (h : t.windows = s.windows) (w : WinIx) :
    t.window w = s.window w := by simp [State.window, h]

theorem State.slot_congr {s t : State} (h : t.slots = s.slots) (k : SlotIx) : t.slot k = s.slot k := by
  simp [State.slot, h]

theorem State.record_congr {s t : State} (h : t.pool.records = s.pool.records) (r : RecIx) :
    t.record? r = s.record? r := by simp [State.record?, h]

theorem State.entry_congr {s t : State} (h : t.windows = s.windows) (x : SectorRef) :
    t.entry? x = s.entry? x := by simp [State.entry?, State.window_congr h]

theorem State.binding_congr {s t : State} (h : t.windows = s.windows) (w : WinIx) :
    t.binding? w = s.binding? w := by simp [State.binding?, State.window_congr h]

theorem State.locate_congr {s t : State} (h : t.windows = s.windows) (a : Nat) :
    t.locate a = s.locate a := by simp [State.locate, State.binding_congr h]

/-! ## Updates of one thing by a function -/

theorem State.modEngine_eq (s : State) (d : DriveIx) (f : Engine → Engine) :
    s.modEngine d f = s.setEngine d (f (s.engine d)) := rfl

theorem State.modVolume_eq (s : State) (d : DriveIx) (f : Volume → Volume) :
    s.modVolume d f = s.setVolume d (f (s.volume d)) := rfl

theorem State.modRecord_eq (s : State) (r : RecIx) (f : Record → Record) :
    s.modRecord r f = s.setRecord r ((s.record? r).map f) := rfl

theorem State.modEntry_eq (s : State) (x : SectorRef) (f : Entry → Entry) :
    s.modEntry x f = s.setWindow x.win ((s.window x.win).modEntry x.idx f) := rfl

/-! ## Sector entries -/

@[simp] theorem Window.entries_modEntry (x : Window) (i : Nat) (f : Entry → Entry) :
    (x.modEntry i f).entries = x.entries.modify i f := by
  cases x <;> simp [Window.modEntry, Window.entries]

@[simp] theorem Window.current_modEntry (x : Window) (i : Nat) (f : Entry → Entry) :
    (x.modEntry i f).current? = x.current? := by cases x <;> rfl

@[simp] theorem Window.isStaged_modEntry (x : Window) (i : Nat) (f : Entry → Entry) :
    (x.modEntry i f).isStaged = x.isStaged := by cases x <;> rfl

@[simp] theorem Window.isBound_modEntry (x : Window) (i : Nat) (f : Entry → Entry) :
    (x.modEntry i f).isBound = x.isBound := by cases x <;> rfl

@[simp] theorem Window.bindings_modEntry (x : Window) (i : Nat) (f : Entry → Entry) :
    (x.modEntry i f).bindings = x.bindings := by
  rcases x with _ | ⟨b, es⟩ | ⟨b, n, es⟩
  · rfl
  · rfl
  · cases n <;> rfl

/-- Changing one entry leaves every current binding as it is. -/
@[simp] theorem State.binding_modEntry (s : State) (x : SectorRef) (f : Entry → Entry) (w : WinIx) :
    (s.modEntry x f).binding? w = s.binding? w := by
  simp only [State.binding?, State.modEntry_eq, State.window_setWindow]
  split
  · subst_vars
    simp
  · rfl

/-- Changing one entry changes that entry and no other. -/
theorem State.entry_modEntry (s : State) (x y : SectorRef) (f : Entry → Entry) :
    (s.modEntry x f).entry? y = if y = x then (s.entry? x).map f else s.entry? y := by
  obtain ⟨w, i⟩ := x
  obtain ⟨v, j⟩ := y
  simp only [State.entry?, State.modEntry_eq, State.window_setWindow, SectorRef.mk.injEq]
  by_cases h : v = w
  · subst h
    by_cases hij : j = i
    · subst hij
      simp
    · simp [hij, Ne.symm hij]
  · simp [h]

@[simp] theorem State.entry_modEntry_self (s : State) (x : SectorRef) (f : Entry → Entry) :
    (s.modEntry x f).entry? x = (s.entry? x).map f := by simp [State.entry_modEntry]

@[simp] theorem State.entry_modEntry_other (s : State) {x y : SectorRef} (f : Entry → Entry)
    (h : y ≠ x) : (s.modEntry x f).entry? y = s.entry? y := by simp [State.entry_modEntry, h]

@[simp] theorem State.locate_modEntry (s : State) (x : SectorRef) (f : Entry → Entry) (a : Nat) :
    (s.modEntry x f).locate a = s.locate a := by simp [State.locate]

end Sys2Proof.Machine
end

