-- ==== Sys2Proof/Laws/Frame.lean ====
section
/-! SUPPORT. Frames of the shared operations: which leave the steady part of the state alone, and which every window. -/

namespace Sys2Proof.Machine

open Sys2Proof

/-! ## Fields outside the steady part -/

theorem State.steady_bufWait (s : State) (l : List DriveIx) :
    ({ s with bufWait := l } : State).steady = s.steady := rfl

theorem State.steady_bursts (s : State) (u : BurstUnit) :
    ({ s with bursts := u } : State).steady = s.steady := rfl

theorem State.steady_pool (s : State) (p : Pool) :
    ({ s with pool := p } : State).steady = s.steady := rfl

/-! ## A fold keeps what each of its steps keeps -/

theorem foldl_keeps {α β σ : Type} (g : σ → β) (f : σ → α → σ) (h : ∀ s a, g (f s a) = g s)
    (l : List α) (s : σ) : g (l.foldl f s) = g s := by
  induction l generalizing s with
  | nil => rfl
  | cons a rest ih => rw [List.foldl_cons, ih, h]

/-- What every step of a fold keeps is kept by the fold. -/
theorem foldl_invariant {α σ : Type} (P : σ → Prop) (f : σ → α → σ) (h : ∀ s a, P s → P (f s a))
    (l : List α) (s : σ) (hs : P s) : P (l.foldl f s) := by
  induction l generalizing s with
  | nil => exact hs
  | cons a rest ih => exact ih _ (h _ _ hs)

/-! ## The steady part -/

@[simp] theorem State.setEngine_steady (s : State) (d : DriveIx) (e : Engine) : (s.setEngine d e).steady = s.steady := rfl
@[simp] theorem State.modEngine_steady (s : State) (d : DriveIx) (f : Engine → Engine) : (s.modEngine d f).steady = s.steady := rfl
@[simp] theorem State.setVolume_steady (s : State) (d : DriveIx) (v : Volume) : (s.setVolume d v).steady = s.steady := rfl
@[simp] theorem State.modVolume_steady (s : State) (d : DriveIx) (f : Volume → Volume) : (s.modVolume d f).steady = s.steady := rfl
@[simp] theorem State.setWindow_steady (s : State) (w : WinIx) (x : Window) : (s.setWindow w x).steady = s.steady := rfl
@[simp] theorem State.modEntry_steady (s : State) (x : SectorRef) (f : Entry → Entry) : (s.modEntry x f).steady = s.steady := rfl
@[simp] theorem State.setSlot_steady (s : State) (k : SlotIx) (x : Slot) : (s.setSlot k x).steady = s.steady := rfl
@[simp] theorem State.setRecord_steady (s : State) (r : RecIx) (x : Option Record) : (s.setRecord r x).steady = s.steady := rfl
@[simp] theorem State.modRecord_steady (s : State) (r : RecIx) (f : Record → Record) : (s.modRecord r f).steady = s.steady := rfl
@[simp] theorem State.raise_steady (s : State) (e : Event) : (s.raise e).steady = s.steady := rfl
@[simp] theorem State.makeRecord_steady (s : State) (r : RecIx) (q : Record) : (s.makeRecord r q).steady = s.steady := rfl
@[simp] theorem State.dropRecord_steady (s : State) (r : RecIx) : (s.dropRecord r).steady = s.steady := rfl
@[simp] theorem State.leaveBacklog_steady (s : State) (x : SectorRef) : (s.leaveBacklog x).steady = s.steady := rfl
@[simp] theorem State.joinBacklog_steady (s : State) (x : SectorRef) (e : Entry) : (s.joinBacklog x e).steady = s.steady := rfl
@[simp] theorem State.joinQueue_steady (s : State) (u : Burst) : (s.joinQueue u).steady = s.steady := rfl
@[simp] theorem State.forgetWindow_steady (s : State) (w : WinIx) : (s.forgetWindow w).steady = s.steady := rfl
@[simp] theorem State.noteFault_steady (s : State) (d : DriveIx) (c : Cause) (o : FaultOutcome) (q : Option Record) : (s.noteFault d c o q).steady = s.steady := rfl
@[simp] theorem State.endOperation_steady (s : State) (d : DriveIx) : (s.endOperation d).steady = s.steady := rfl
@[simp] theorem State.startRecal_steady (s : State) (d : DriveIx) : (s.startRecal d).steady = s.steady := rfl
@[simp] theorem State.waitForBuffer_steady (s : State) (d : DriveIx) : (s.waitForBuffer d).steady = s.steady := rfl
@[simp] theorem State.noteFormat_steady (s : State) (d : DriveIx) (c : Option FormatCause) (q : Record) : (s.noteFormat d c q).steady = s.steady := rfl
@[simp] theorem State.noteWritten_steady (s : State) (d : DriveIx) (q : Record) : (s.noteWritten d q).steady = s.steady := rfl
@[simp] theorem State.takeBoundId_steady (s : State) (d : DriveIx) : (s.takeBoundId d).steady = s.steady := rfl
@[simp] theorem State.stampUnknown_steady (s : State) (d : DriveIx) (o : StampOutcome) : (s.stampUnknown d o).steady = s.steady := rfl

@[simp] theorem State.endSlot_steady (s : State) (k : SlotIx) : (s.endSlot k).steady = s.steady := by
  unfold State.endSlot
  split <;> rfl

@[simp] theorem State.markGone_steady (s : State) (b : Bool) (k : SlotIx) :
    (s.markGone b k).steady = s.steady := by
  unfold State.markGone
  split <;> simp

@[simp] theorem State.marksGone_steady (s : State) (b : Bool) (m : BitVec 4) :
    (s.marksGone b m).steady = s.steady := by
  exact foldl_keeps State.steady _ (fun t k => by split <;> simp) _ s

@[simp] theorem State.requestWrite_steady (s : State) (x : SectorRef) (u : Urgency) :
    (s.requestWrite x u).steady = s.steady := by
  unfold State.requestWrite
  (repeat' split) <;> rfl

@[simp] theorem State.provide_steady (s : State) (x : SectorRef) (b : Bool) :
    (s.provide x b).steady = s.steady := by
  unfold State.provide
  (repeat' split) <;> simp

@[simp] theorem State.evict_steady (s : State) (r : RecIx) : (s.evict r).steady = s.steady := by
  unfold State.evict
  split <;> rfl

@[simp] theorem State.raiseFill_steady (s : State) (x : SectorRef) :
    (s.raiseFill x).steady = s.steady := by
  unfold State.raiseFill
  split <;> rfl

@[simp] theorem State.handOut_steady (s : State) (r : RecIx) : (s.handOut r).steady = s.steady := by
  unfold State.handOut
  (repeat' split) <;> rfl

@[simp] theorem State.startNext_steady (s : State) : (s.startNext).steady = s.steady := by
  unfold State.startNext
  split <;> rfl

@[simp] theorem State.requestBurst_steady (s : State) (q : BurstRequest) :
    (s.requestBurst q).steady = s.steady := by
  unfold State.requestBurst
  (repeat' split) <;> first | rfl | simp

@[simp] theorem State.placeFreed_steady (s : State) (d : DriveIx) :
    (s.placeFreed d).steady = s.steady := by
  unfold State.placeFreed
  split
  · rfl
  · dsimp only
    split <;> rfl

@[simp] theorem State.endRunning_steady (s : State) : (s.endRunning).steady = s.steady := by
  unfold State.endRunning
  split
  · rfl
  · rw [State.startNext_steady, State.placeFreed_steady]
    rfl

@[simp] theorem State.withdraw_steady (s : State) (p : Burst → Bool) :
    (s.withdraw p).steady = s.steady := by
  unfold State.withdraw
  rw [State.startNext_steady]
  exact (foldl_keeps State.steady _ (fun t (u : Burst) => State.placeFreed_steady t u.drive) _ _).trans rfl

@[simp] theorem State.withdrawRecord_steady (s : State) (r : RecIx) :
    (s.withdrawRecord r).steady = s.steady := by
  unfold State.withdrawRecord
  rw [State.withdraw_steady]
  rfl

@[simp] theorem State.stopCopyOut_steady (s : State) (r : RecIx) :
    (s.stopCopyOut r).steady = s.steady := by
  unfold State.stopCopyOut
  (repeat' split) <;> simp

@[simp] theorem State.startPositioning_steady (s : State) (d : DriveIx) (r : RecIx) :
    (s.startPositioning d r).steady = s.steady := by
  unfold State.startPositioning
  split <;> rfl

@[simp] theorem State.giveBuffer_steady (s : State) (d : DriveIx) (r : RecIx) (b : BufIx) :
    (s.giveBuffer d r b).steady = s.steady := by
  unfold State.giveBuffer
  (repeat' split) <;> simp

@[simp] theorem State.handBuffer_steady (s : State) (b : BufIx) :
    (s.handBuffer b).steady = s.steady := by
  unfold State.handBuffer
  (repeat' first | split | dsimp only) <;> first | rfl | (simp; done) | (simp; rfl)

@[simp] theorem State.handBuffers_steady (s : State) : (s.handBuffers).steady = s.steady := by
  exact foldl_keeps State.steady _ (fun t b => State.handBuffer_steady t b) _ s

@[simp] theorem State.releaseRecord_steady (s : State) (r : RecIx) :
    (s.releaseRecord r).steady = s.steady := by
  unfold State.releaseRecord
  simp

@[simp] theorem State.freeRecord_steady (s : State) (r : RecIx) :
    (s.freeRecord r).steady = s.steady := by
  unfold State.freeRecord
  simp

@[simp] theorem State.grant_steady (s : State) (d : DriveIx) : (s.grant d).steady = s.steady := by
  unfold State.grant
  split <;> rfl

@[simp] theorem State.requestChannel_steady (s : State) (d : DriveIx) :
    (s.requestChannel d).steady = s.steady := by
  unfold State.requestChannel
  split <;> first | rfl | simp

@[simp] theorem State.leaveChannel_steady (s : State) (d : DriveIx) :
    (s.leaveChannel d).steady = s.steady := by
  unfold State.leaveChannel
  (repeat' first | split | dsimp only) <;> first | rfl | (simp; done) | (simp; rfl)

@[simp] theorem State.reviveEntry_steady (b : Bool) (s : State) (x : SectorRef) :
    (State.reviveEntry b s x).steady = s.steady := by
  unfold State.reviveEntry
  (repeat' split) <;> first | rfl | simp

@[simp] theorem State.attach_steady (s : State) (d : DriveIx) (b : Bool) :
    (s.attach d b).steady = s.steady := by
  exact (foldl_keeps State.steady _ (fun t x => State.reviveEntry_steady b t x) _ _).trans rfl

@[simp] theorem State.dropBoundId_steady (s : State) (d : DriveIx) :
    (s.dropBoundId d).steady = s.steady := by
  unfold State.dropBoundId
  (repeat' split) <;> simp

@[simp] theorem State.stampVerdict_steady (s : State) (d : DriveIx) (o : Option (List Byte)) :
    (s.stampVerdict d o).steady = s.steady := by
  unfold State.stampVerdict
  (repeat' split) <;> simp

@[simp] theorem State.returnEntry_steady (s : State) (q : Record) :
    (s.returnEntry q).steady = s.steady := by
  unfold State.returnEntry
  split <;> simp

@[simp] theorem State.returnRecord_steady (s : State) (d : DriveIx) :
    (s.returnRecord d).steady = s.steady := by
  unfold State.returnRecord
  dsimp only
  (repeat' split) <;> simp [State.steady_bufWait]

@[simp] theorem State.stopForHold_steady (s : State) (d : DriveIx) :
    (s.stopForHold d).steady = s.steady := by
  unfold State.stopForHold
  split <;> simp

@[simp] theorem State.haltFault_steady (s : State) (d : DriveIx) :
    (s.haltFault d).steady = s.steady := by
  unfold State.haltFault
  simp

@[simp] theorem State.resume_steady (s : State) (d : DriveIx) : (s.resume d).steady = s.steady := by
  unfold State.resume
  dsimp only
  (repeat' split) <;> simp

@[simp] theorem State.entryUnwritten_steady (s : State) (x : SectorRef) (c : Cause) :
    (s.entryUnwritten x c).steady = s.steady := by
  unfold State.entryUnwritten
  (repeat' split) <;> simp

@[simp] theorem State.writeFails_steady (s : State) (d : DriveIx) (r : RecIx) (c : Cause) :
    (s.writeFails d r c).steady = s.steady := by
  unfold State.writeFails
  dsimp only
  (repeat' split) <;> simp

@[simp] theorem State.fillFails_steady (s : State) (d : DriveIx) (r : RecIx) (c : Cause) :
    (s.fillFails d r c).steady = s.steady := by
  unfold State.fillFails
  dsimp only
  (repeat' split) <;> simp

@[simp] theorem State.stampFails_steady (s : State) (d : DriveIx) (r : RecIx) (c : Cause) :
    (s.stampFails d r c).steady = s.steady := by
  unfold State.stampFails
  simp

@[simp] theorem State.operationFails_steady (s : State) (d : DriveIx) (r : RecIx) (c : Cause) :
    (s.operationFails d r c).steady = s.steady := by
  unfold State.operationFails
  (repeat' split) <;> simp

@[simp] theorem State.attemptFails_steady (s : State) (d : DriveIx) (r : RecIx) (c : Cause) :
    (s.attemptFails d r c).steady = s.steady := by
  unfold State.attemptFails
  dsimp only
  split <;> simp

@[simp] theorem State.formatFails_steady (s : State) (d : DriveIx) (r : RecIx) (c : FormatCause) :
    (s.formatFails d r c).steady = s.steady := by
  unfold State.formatFails
  dsimp only
  (repeat' split) <;> simp

@[simp] theorem State.writeCompletes_steady (s : State) (d : DriveIx) (r : RecIx) :
    (s.writeCompletes d r).steady = s.steady := by
  unfold State.writeCompletes
  dsimp only
  (repeat' split) <;> simp

@[simp] theorem State.takeChoice_steady (s : State) (d : DriveIx) (r : RecIx) :
    (s.takeChoice d r).steady = s.steady := by
  unfold State.takeChoice
  dsimp only
  (repeat' split) <;> simp

@[simp] theorem State.replaceWindow_steady (s : State) (w : WinIx) (o : Option Binding) :
    (s.replaceWindow w o).steady = s.steady := by
  unfold State.replaceWindow
  (repeat' split) <;> simp

@[simp] theorem State.swapWindow_steady (s : State) (w : WinIx) :
    (s.swapWindow w).steady = s.steady := by
  unfold State.swapWindow
  split <;> simp

/-! ## The windows -/

@[simp] theorem State.modEngine_windows (s : State) (d : DriveIx) (f : Engine → Engine) : (s.modEngine d f).windows = s.windows := rfl
@[simp] theorem State.modVolume_windows (s : State) (d : DriveIx) (f : Volume → Volume) : (s.modVolume d f).windows = s.windows := rfl
@[simp] theorem State.modRecord_windows (s : State) (r : RecIx) (f : Record → Record) : (s.modRecord r f).windows = s.windows := rfl
@[simp] theorem State.joinBacklog_windows (s : State) (x : SectorRef) (e : Entry) : (s.joinBacklog x e).windows = s.windows := rfl
@[simp] theorem State.forgetWindow_windows (s : State) (w : WinIx) : (s.forgetWindow w).windows = s.windows := rfl
@[simp] theorem State.noteFault_windows (s : State) (d : DriveIx) (c : Cause) (o : FaultOutcome) (q : Option Record) : (s.noteFault d c o q).windows = s.windows := rfl
@[simp] theorem State.endOperation_windows (s : State) (d : DriveIx) : (s.endOperation d).windows = s.windows := rfl
@[simp] theorem State.startRecal_windows (s : State) (d : DriveIx) : (s.startRecal d).windows = s.windows := rfl
@[simp] theorem State.waitForBuffer_windows (s : State) (d : DriveIx) : (s.waitForBuffer d).windows = s.windows := rfl
@[simp] theorem State.noteFormat_windows (s : State) (d : DriveIx) (c : Option FormatCause) (q : Record) : (s.noteFormat d c q).windows = s.windows := rfl
@[simp] theorem State.noteWritten_windows (s : State) (d : DriveIx) (q : Record) : (s.noteWritten d q).windows = s.windows := rfl
@[simp] theorem State.takeBoundId_windows (s : State) (d : DriveIx) : (s.takeBoundId d).windows = s.windows := rfl
@[simp] theorem State.stampUnknown_windows (s : State) (d : DriveIx) (o : StampOutcome) : (s.stampUnknown d o).windows = s.windows := rfl

@[simp] theorem State.endSlot_windows (s : State) (k : SlotIx) :
    (s.endSlot k).windows = s.windows := by
  unfold State.endSlot
  split <;> rfl

@[simp] theorem State.markGone_windows (s : State) (b : Bool) (k : SlotIx) :
    (s.markGone b k).windows = s.windows := by
  unfold State.markGone
  split <;> simp

@[simp] theorem State.marksGone_windows (s : State) (b : Bool) (m : BitVec 4) :
    (s.marksGone b m).windows = s.windows := by
  exact foldl_keeps State.windows _ (fun t k => by split <;> simp) _ s

@[simp] theorem State.requestWrite_windows (s : State) (x : SectorRef) (u : Urgency) :
    (s.requestWrite x u).windows = s.windows := by
  unfold State.requestWrite
  (repeat' split) <;> rfl

@[simp] theorem State.provide_windows (s : State) (x : SectorRef) (b : Bool) :
    (s.provide x b).windows = s.windows := by
  unfold State.provide
  (repeat' split) <;> simp

@[simp] theorem State.raiseFill_windows (s : State) (x : SectorRef) :
    (s.raiseFill x).windows = s.windows := by
  unfold State.raiseFill
  split <;> rfl

@[simp] theorem State.handOut_windows (s : State) (r : RecIx) : (s.handOut r).windows = s.windows := by
  unfold State.handOut
  (repeat' split) <;> rfl

@[simp] theorem State.startNext_windows (s : State) : (s.startNext).windows = s.windows := by
  unfold State.startNext
  split <;> rfl

@[simp] theorem State.requestBurst_windows (s : State) (q : BurstRequest) :
    (s.requestBurst q).windows = s.windows := by
  unfold State.requestBurst
  (repeat' split) <;> simp

@[simp] theorem State.placeFreed_windows (s : State) (d : DriveIx) :
    (s.placeFreed d).windows = s.windows := by
  unfold State.placeFreed
  dsimp only
  (repeat' split) <;> simp

@[simp] theorem State.endRunning_windows (s : State) : (s.endRunning).windows = s.windows := by
  unfold State.endRunning
  split <;> simp

@[simp] theorem State.withdraw_windows (s : State) (p : Burst → Bool) :
    (s.withdraw p).windows = s.windows := by
  unfold State.withdraw
  rw [State.startNext_windows]
  exact (foldl_keeps State.windows _ (fun t (u : Burst) => State.placeFreed_windows t u.drive) _ _).trans rfl

@[simp] theorem State.withdrawRecord_windows (s : State) (r : RecIx) :
    (s.withdrawRecord r).windows = s.windows := by
  unfold State.withdrawRecord
  simp

@[simp] theorem State.stopCopyOut_windows (s : State) (r : RecIx) :
    (s.stopCopyOut r).windows = s.windows := by
  unfold State.stopCopyOut
  (repeat' split) <;> simp

@[simp] theorem State.startPositioning_windows (s : State) (d : DriveIx) (r : RecIx) :
    (s.startPositioning d r).windows = s.windows := by
  unfold State.startPositioning
  split <;> rfl

@[simp] theorem State.releaseRecord_windows (s : State) (r : RecIx) :
    (s.releaseRecord r).windows = s.windows := by
  unfold State.releaseRecord
  simp

@[simp] theorem State.grant_windows (s : State) (d : DriveIx) : (s.grant d).windows = s.windows := by
  unfold State.grant
  split <;> rfl

@[simp] theorem State.requestChannel_windows (s : State) (d : DriveIx) :
    (s.requestChannel d).windows = s.windows := by
  unfold State.requestChannel
  split <;> simp

@[simp] theorem State.leaveChannel_windows (s : State) (d : DriveIx) :
    (s.leaveChannel d).windows = s.windows := by
  unfold State.leaveChannel
  (repeat' split) <;> simp

@[simp] theorem State.resume_windows (s : State) (d : DriveIx) : (s.resume d).windows = s.windows := by
  unfold State.resume
  dsimp only
  (repeat' split) <;> simp

/-! ## Entering STAGED -/

@[simp] theorem State.cancelFills_steady (s : State) (w : WinIx) : (s.cancelFills w).steady = s.steady := by
  unfold State.cancelFills
  exact (foldl_keeps State.steady _ (fun t r => State.freeRecord_steady t r) _ _).trans
    (foldl_keeps State.steady _ (fun t x => State.modEntry_steady t x _) _ s)

@[simp] theorem State.drainEntry_steady (s : State) (x : SectorRef) :
    (s.drainEntry x).steady = s.steady := by
  unfold State.drainEntry
  (repeat' split) <;> simp

@[simp] theorem State.enterStaged_steady (s : State) (w : WinIx) : (s.enterStaged w).steady = s.steady := by
  unfold State.enterStaged
  refine (foldl_keeps State.steady _ (fun t x => State.drainEntry_steady t x) _ _).trans
    ((foldl_keeps State.steady _ (fun t x => State.modEntry_steady t x _) _ _).trans ?_)
  rw [State.withdraw_steady, State.cancelFills_steady]

/-! ## Making a record, by eviction if need be -/

/-- All that making a record can do: it takes the lowest free record, or the youngest waiting prefetch. -/
theorem State.makeOrEvict_cases {s t : State} {q : Record} (h : s.makeOrEvict q = some t) :
    (∃ r, s.freeRecord? = some r ∧ t = s.makeRecord r q) ∨
    (s.freeRecord? = none ∧ ∃ r, s.evictable? = some r ∧ t = (s.evict r).makeRecord r q) := by
  unfold State.makeOrEvict at h
  (repeat' split at h) <;> simp_all

theorem State.makeOrEvict_steady {s t : State} {q : Record} (h : s.makeOrEvict q = some t) :
    t.steady = s.steady := by
  obtain ⟨r, _, rfl⟩ | ⟨_, r, _, rfl⟩ := State.makeOrEvict_cases h <;> simp

/-! ## What follows a command at once -/

/-- All that one round of settling can do: a swap of a quiet window, or an engine's choice. -/
theorem State.settleOne_cases {s t : State} (h : s.settleOne = some t) :
    (∃ w, s.nextSwap? = some w ∧ t = s.swapWindow w) ∨
    (s.nextSwap? = none ∧ ∃ d r, s.nextChoice? = some (d, r) ∧ t = s.takeChoice d r) := by
  unfold State.settleOne at h
  (repeat' split at h) <;> simp_all

/-- What every swap and every choice keeps is kept by settling. -/
theorem State.settle_invariant (P : State → Prop) (h : ∀ s t : State, P s → s.settleOne = some t → P t)
    (s : State) (hs : P s) : P s.settle := by
  suffices hn : ∀ n s, P s → P (State.settleFor n s) from hn 2048 s hs
  intro n
  induction n with
  | zero => exact fun s hs => hs
  | succ n ih =>
    intro s hs
    unfold State.settleFor
    split
    · exact ih _ (h _ _ hs (by assumption))
    · exact hs

end Sys2Proof.Machine
end

