-- ==== Sys2Proof/Laws/Cases.lean ====
section
/-! SUPPORT. All that each shared operation can do, case by case, so that a proof about a command need not unfold it. -/

namespace Sys2Proof.Machine

open Sys2Proof

/-! ## The pool -/

/-- A write-back request: nothing, the raising of the entry's own write-back, a place on the Backlog List,
or a new record (R69). -/
theorem State.requestWrite_cases (s : State) (x : SectorRef) (u : Urgency) :
    s.requestWrite x u = s ∨
    (∃ r, s.opOf x = some r ∧ u = .urgent ∧ s.requestWrite x u = s.modRecord r fun q =>
      if q.kind = .writeback then { q with urgency := .urgent } else q) ∨
    (∃ e, s.entry? x = some e ∧ s.opOf x = none ∧ e.state = .dirty ∧ x ∉ s.pool.backlog ∧
      s.requestWrite x u = s.joinBacklog x e) ∨
    (∃ e r, s.entry? x = some e ∧ s.opOf x = none ∧ e.state = .dirty ∧ x ∉ s.pool.backlog ∧
      s.sectorTaken e.addr = false ∧ s.freeRecord? = some r ∧
      s.requestWrite x u = s.makeRecord r (s.writebackRecord x e u)) := by
  unfold State.requestWrite
  (repeat' split) <;> simp_all

/-- Providing for a write-back is a request, or nothing (R51). -/
theorem State.provide_cases (s : State) (x : SectorRef) (retry : Bool) :
    s.provide x retry = s ∨ s.provide x retry = s.requestWrite x .urgent ∨
      s.provide x retry = s.requestWrite x .normal := by
  unfold State.provide
  (repeat' split) <;> simp_all

/-- A hand-out: nothing, a stamp read for the longest stamp wait, or an URGENT write-back for an entry of
the Backlog List (R73). -/
theorem State.handOut_cases (s : State) (r : RecIx) :
    (s.pool.stampWaits = [] ∧ s.handOutEntry? = none ∧ s.handOut r = s) ∨
    (∃ d rest, s.pool.stampWaits = d :: rest ∧
      s.handOut r = { s with pool := { s.pool with stampWaits := rest } }.makeRecord r (s.stampRecord d)) ∨
    (∃ x e, s.pool.stampWaits = [] ∧ s.handOutEntry? = some x ∧ s.entry? x = some e ∧
      s.handOut r = (s.leaveBacklog x).makeRecord r (s.writebackRecord x e .urgent)) := by
  unfold State.handOut
  split
  · simp_all
  · split
    · simp_all
    · rename_i x hx
      split
      · have := List.find?_some hx
        simp_all
      · simp_all

/-! ## Bursts, buffers and the channel -/

/-- When no burst is running, the head of the queue starts (R113). -/
theorem State.startNext_cases (s : State) :
    s.startNext = s ∨ ∃ u rest, s.bursts.running = none ∧ s.bursts.queue = u :: rest ∧
      s.startNext = { s with bursts := { s.bursts with running := some u, queue := rest } } := by
  unfold State.startNext
  split <;> simp_all

/-- A request of a burst: it waits behind its drive's place, or joins the queue (R113). -/
theorem State.requestBurst_cases (s : State) (q : BurstRequest) :
    s.requestBurst q = s ∨
    s.requestBurst q = { s with bursts := { s.bursts with behind := s.bursts.behind ++ [q] } } ∨
    ∃ u, s.burstOf? q = some u ∧ s.requestBurst q = (s.joinQueue u).startNext := by
  unfold State.requestBurst
  (repeat' split) <;> simp_all

/-- A buffer that has come free: nothing, the head of the wait list leaves it, or its record takes the
buffer (R109). -/
theorem State.handBuffer_cases (s : State) (b : BufIx) :
    s.handBuffer b = s ∨
    ∃ d rest, s.bufferFree b = true ∧ s.bufWait = d :: rest ∧
      (s.handBuffer b = { s with bufWait := rest } ∨
       ∃ r, (s.engine d).state = .waitBuffer ∧ (s.engine d).current = some r ∧
         s.handBuffer b = { s with bufWait := rest }.giveBuffer d r b) := by
  unfold State.handBuffer
  (repeat' split) <;> simp_all

/-- The channel is left: it goes to no one, to the head of its queue, or the drive leaves the queue
(R111, R112). -/
theorem State.leaveChannel_cases (s : State) (d : DriveIx) :
    (s.chan.owner = some d ∧ s.chan.queue = [] ∧
      s.leaveChannel d = { s with chan := { s.chan with owner := none } }) ∨
    (∃ x rest, s.chan.owner = some d ∧ s.chan.queue = x :: rest ∧
      s.leaveChannel d = { s with chan := { owner := none, queue := rest } }.grant x) ∨
    (s.chan.owner ≠ some d ∧
      s.leaveChannel d = { s with chan := { s.chan with queue := s.chan.queue.filter (· ≠ d) } }) := by
  unfold State.leaveChannel
  (repeat' split) <;> simp_all

/-! ## Holds -/

/-- An empty hold set: a stopped engine recalibrates or is IDLE, and any other goes on (R84). -/
theorem State.resume_cases (s : State) (d : DriveIx) :
    s.resume d = s ∨
    ((s.engine d).unheld = true ∧ (s.engine d).cyl = none ∧ s.resume d = s.startRecal d) ∨
    ((s.engine d).unheld = true ∧ (s.engine d).cyl ≠ none ∧
      s.resume d = s.modEngine d fun e => { e with state := .idle }) := by
  unfold State.resume
  dsimp only
  (repeat' split) <;> simp_all

/-! ## Events -/

/-- Raising an event sets its flag and its set-again bit, and clears none (R169). -/
theorem EventUnit.raise_flags (u : EventUnit) (e : Event) (n : Nat) :
    (u.raise e).flags.getLsbD n = (u.flags.getLsbD n || decide (n = e.number)) := by
  have h : e.number < 22 := by cases e <;> decide
  simp only [EventUnit.raise, Event.bit, BitVec.getLsbD_or, BitVec.getLsbD_twoPow]
  congr 1
  by_cases hn : n = e.number
  · subst hn
    simp [h]
  · simp [hn, Ne.symm hn]

theorem EventUnit.raise_mask (u : EventUnit) (e : Event) : (u.raise e).mask = u.mask := rfl

theorem EventUnit.raise_readTag (u : EventUnit) (e : Event) : (u.raise e).readTag = u.readTag := rfl

end Sys2Proof.Machine
end

