-- ==== Sys2Proof/Laws/Memory.lean ====
section
/-! SUPPORT. Main memory: the canonical form is kept by a write, and a read after a write. -/

namespace Sys2Proof.Machine

open Sys2Proof

/-! ## The canonical form -/

theorem Memory.wfFrom_mono {low low' : Nat} {m : Memory} (h : Memory.wfFrom low m = true)
    (hle : low' ≤ low) : Memory.wfFrom low' m = true := by
  cases m with
  | nil => rfl
  | cons c rest =>
    obtain ⟨k, v⟩ := c
    simp only [Memory.wfFrom, Bool.and_eq_true, decide_eq_true_eq] at h ⊢
    exact ⟨⟨⟨by omega, h.1.1.2⟩, h.1.2⟩, h.2⟩

/-- A write keeps the canonical form from any address at or below the one written. -/
theorem Memory.write_wfFrom {low a : Nat} {v : Byte} {m : Memory} (h : Memory.wfFrom low m = true)
    (hlow : low ≤ a) (ha : a < memorySize) : Memory.wfFrom low (m.write a v) = true := by
  induction m generalizing low with
  | nil =>
    unfold Memory.write
    split <;> simp_all [Memory.wfFrom]
  | cons c rest ih =>
    obtain ⟨k, x⟩ := c
    have hc := h
    simp only [Memory.wfFrom, Bool.and_eq_true, decide_eq_true_eq] at h
    obtain ⟨⟨⟨h1, h2⟩, h3⟩, h4⟩ := h
    unfold Memory.write
    split
    · split
      · exact hc
      · simp only [Memory.wfFrom, Bool.and_eq_true, decide_eq_true_eq]
        exact ⟨⟨⟨hlow, ha⟩, by assumption⟩, ⟨⟨by omega, h2⟩, h3⟩, h4⟩
    · split
      · subst_vars
        split
        · exact Memory.wfFrom_mono h4 (by omega)
        · simp only [Memory.wfFrom, Bool.and_eq_true, decide_eq_true_eq]
          exact ⟨⟨⟨hlow, ha⟩, by assumption⟩, h4⟩
      · simp only [Memory.wfFrom, Bool.and_eq_true, decide_eq_true_eq]
        exact ⟨⟨⟨h1, h2⟩, h3⟩, ih h4 (by omega)⟩

/-- A write keeps the canonical form. -/
theorem Memory.write_wf {a : Nat} {v : Byte} {m : Memory} (h : m.wf = true) (ha : a < memorySize) :
    (m.write a v).wf = true := Memory.write_wfFrom h (Nat.zero_le a) ha

/-- Below its first possible address a canonical memory reads as unwritten. -/
theorem Memory.read_below {low a : Nat} {m : Memory} (h : Memory.wfFrom low m = true) (ha : a < low) :
    m.read a = Config.erasedByte := by
  cases m with
  | nil => rfl
  | cons c rest =>
    obtain ⟨k, v⟩ := c
    simp only [Memory.wfFrom, Bool.and_eq_true, decide_eq_true_eq] at h
    unfold Memory.read
    rw [if_neg (by omega), if_pos (by omega)]

/-! ## Reading after a write -/

/-- What a canonical memory reads as after a write. -/
theorem Memory.read_write {low : Nat} {m : Memory} (h : Memory.wfFrom low m = true) (a b : Nat) (v : Byte) :
    (m.write a v).read b = if b = a then v else m.read b := by
  induction m generalizing low with
  | nil =>
    unfold Memory.write
    split <;> simp only [Memory.read] <;> grind
  | cons c rest ih =>
    obtain ⟨k, x⟩ := c
    simp only [Memory.wfFrom, Bool.and_eq_true, decide_eq_true_eq] at h
    obtain ⟨⟨⟨h1, h2⟩, h3⟩, h4⟩ := h
    have hr : ∀ c, c < k + 1 → Memory.read rest c = Config.erasedByte := fun c hc =>
      Memory.read_below h4 hc
    have ih := ih h4
    unfold Memory.write
    split
    · split
      · simp only [Memory.read]
        split <;> split <;> simp_all
        all_goals omega
      · simp only [Memory.read]
        grind
    · split
      · split
        · simp only [Memory.read]
          grind
        · simp only [Memory.read]
          grind
      · simp only [Memory.read]
        grind

theorem Memory.read_write_same {m : Memory} (h : m.wf = true) (a : Nat) (v : Byte) :
    (m.write a v).read a = v := by simp [Memory.read_write h]

theorem Memory.read_write_other {m : Memory} (h : m.wf = true) {a b : Nat} (hb : b ≠ a) (v : Byte) :
    (m.write a v).read b = m.read b := by simp [Memory.read_write h, hb]

/-! ## The memory operations of the state -/

theorem State.writeByte_wf {s : State} (h : s.memory.wf = true) (a : Nat) (v : Byte) :
    (s.writeByte a v).memory.wf = true := Memory.write_wf h (Nat.mod_lt _ (by decide))

theorem State.writeWord_wf {s : State} (h : s.memory.wf = true) (a : Nat) (v : BitVec 16) :
    (s.writeWord a v).memory.wf = true := State.writeByte_wf (State.writeByte_wf h _ _) _ _

theorem State.writeFor_wf {s : State} (h : s.memory.wf = true) (a : Nat) (c : Access) :
    (s.writeFor a c).memory.wf = true := by
  cases c with
  | readByte => exact h
  | readWord => exact h
  | writeByte v => exact State.writeByte_wf h a v
  | writeWord v => exact State.writeWord_wf h a v

theorem State.readByte_writeByte {s : State} (h : s.memory.wf = true) (a b : Nat) (v : Byte) :
    (s.writeByte a v).readByte b = if b % memorySize = a % memorySize then v else s.readByte b :=
  Memory.read_write h _ _ _

/-- A word keeps the canonical form where it is written into memory by a burst. -/
theorem State.moveWord_wf {s : State} (h : s.memory.wf = true) (u : Burst) :
    (s.moveWord u).memory.wf = true := by
  unfold State.moveWord
  dsimp only
  split
  · exact State.writeWord_wf h _ _
  · exact h
  · exact State.writeWord_wf h _ _
  · exact h

end Sys2Proof.Machine
end

