-- ==== Sys2Proof/Laws/PerInstr.lean ====
section
/-! SUPPORT. One law for each command: what a link command is sent as has the command byte and length of R165. -/

namespace Sys2Proof.Laws

open Sys2Proof Sys2Proof.Machine

/-- A command that is sent over the link is sent as a command byte of the table of R165, the length byte
that the table gives it, and that many parameter bytes. -/
def LinkLength.Statement (i : Instr) : Prop :=
  i.WellFormed = true → ∀ bytes, i.linkBytes? = some bytes →
    ∃ c n rest, bytes = c :: n :: rest ∧ commandLength c = some n.toNat ∧ rest.length = n.toNat

/-- Closes the law for a command whose bytes are written out. -/
theorem LinkLength.of_bytes {bytes : List Byte} {c n : Byte} {rest : List Byte}
    (h : some (c :: n :: rest) = some bytes) (hc : commandLength c = some n.toNat)
    (hr : rest.length = n.toNat) :
    ∃ c n rest, bytes = c :: n :: rest ∧ commandLength c = some n.toNat ∧ rest.length = n.toNat :=
  ⟨c, n, rest, (Option.some.inj h).symm, hc, hr⟩

theorem LinkLength.upstreamCycle (cycle : UpCycle) : LinkLength.Statement (.upstreamCycle cycle) := by
  intro _ _ h
  cases h

theorem LinkLength.burstWord : LinkLength.Statement .burstWord := by
  intro _ _ h
  cases h

theorem LinkLength.coarseClockAdvance : LinkLength.Statement .coarseClockAdvance := by
  intro _ _ h
  cases h

theorem LinkLength.deferredRecordExpiry : LinkLength.Statement .deferredRecordExpiry := by
  intro _ _ h
  cases h

theorem LinkLength.sweep : LinkLength.Statement .sweep := by
  intro _ _ h
  cases h

theorem LinkLength.agePromotion : LinkLength.Statement .agePromotion := by
  intro _ _ h
  cases h

theorem LinkLength.secureDeadline : LinkLength.Statement .secureDeadline := by
  intro _ _ h
  cases h

theorem LinkLength.linkWriteMessage (address : Byte) (bytes : List Byte) :
    LinkLength.Statement (.linkWriteMessage address bytes) := by
  intro _ _ h
  cases h

theorem LinkLength.status (part : Byte) : LinkLength.Statement (.status part) := by
  intro _ bytes h
  exact LinkLength.of_bytes h rfl rfl

theorem LinkLength.bind (window : Byte) (record : BindRecord) :
    LinkLength.Statement (.bind window record) := by
  intro _ bytes h
  exact LinkLength.of_bytes h rfl rfl

theorem LinkLength.stage (window : Byte) (record : BindRecord) :
    LinkLength.Statement (.stage window record) := by
  intro _ bytes h
  exact LinkLength.of_bytes h rfl rfl

theorem LinkLength.swap (window : WinIx) : LinkLength.Statement (.swap window) := by
  intro _ _ h
  cases h

theorem LinkLength.force (window : Byte) : LinkLength.Statement (.force window) := by
  intro _ bytes h
  exact LinkLength.of_bytes h rfl rfl

theorem LinkLength.release (window : Byte) : LinkLength.Statement (.release window) := by
  intro _ bytes h
  exact LinkLength.of_bytes h rfl rfl

theorem LinkLength.releaseDiscard (window : Byte) : LinkLength.Statement (.releaseDiscard window) := by
  intro _ bytes h
  exact LinkLength.of_bytes h rfl rfl

theorem LinkLength.windowStates (window : Byte) (part : Byte) :
    LinkLength.Statement (.windowStates window part) := by
  intro _ bytes h
  exact LinkLength.of_bytes h rfl rfl

theorem LinkLength.secure (target : BitVec 16) (stampLast : Bool) (deadline : BitVec 16) :
    LinkLength.Statement (.secure target stampLast deadline) := by
  intro _ bytes h
  exact LinkLength.of_bytes h rfl rfl

theorem LinkLength.secureStatus (slot : Byte) : LinkLength.Statement (.secureStatus slot) := by
  intro _ bytes h
  exact LinkLength.of_bytes h rfl rfl

theorem LinkLength.hold (drive : Byte) : LinkLength.Statement (.hold drive) := by
  intro _ bytes h
  exact LinkLength.of_bytes h rfl rfl

theorem LinkLength.run (drive : Byte) : LinkLength.Statement (.run drive) := by
  intro _ bytes h
  exact LinkLength.of_bytes h rfl rfl

theorem LinkLength.adopt (drive : Byte) : LinkLength.Statement (.adopt drive) := by
  intro _ bytes h
  exact LinkLength.of_bytes h rfl rfl

theorem LinkLength.retry (drive : Byte) : LinkLength.Statement (.retry drive) := by
  intro _ bytes h
  exact LinkLength.of_bytes h rfl rfl

theorem LinkLength.format (params : FormatParams) : LinkLength.Statement (.format params) := by
  intro hw bytes h
  refine LinkLength.of_bytes h rfl ?_
  have hd : params.descriptors.length = 16 := by simpa [Instr.WellFormed] using hw
  simp [formatParamBytes, bytes4, hd]

theorem LinkLength.readDrive (drive : Byte) (part : Byte) :
    LinkLength.Statement (.readDrive drive part) := by
  intro _ bytes h
  exact LinkLength.of_bytes h rfl rfl

theorem LinkLength.setDrive (drive : Byte) (stepMs : Byte) (retries : Byte) (halt : Bool) :
    LinkLength.Statement (.setDrive drive stepMs retries halt) := by
  intro _ bytes h
  exact LinkLength.of_bytes h rfl rfl

theorem LinkLength.setSweep (period : BitVec 16) (enable : Bool) (restart : Bool) :
    LinkLength.Statement (.setSweep period enable restart) := by
  intro _ bytes h
  exact LinkLength.of_bytes h rfl rfl

theorem LinkLength.setLimits (deferLimit : BitVec 16) (ageLimit : BitVec 16) (blank : Byte) :
    LinkLength.Statement (.setLimits deferLimit ageLimit blank) := by
  intro _ bytes h
  exact LinkLength.of_bytes h rfl rfl

theorem LinkLength.readEvents : LinkLength.Statement .readEvents := by
  intro _ bytes h
  exact LinkLength.of_bytes h rfl rfl

theorem LinkLength.clearEvents (tag : Byte) (mask : BitVec 24) :
    LinkLength.Statement (.clearEvents tag mask) := by
  intro _ bytes h
  exact LinkLength.of_bytes h rfl rfl

theorem LinkLength.setAlertMask (mask : BitVec 24) : LinkLength.Statement (.setAlertMask mask) := by
  intro _ bytes h
  exact LinkLength.of_bytes h rfl rfl

theorem LinkLength.readOutage (start : Byte) : LinkLength.Statement (.readOutage start) := by
  intro _ bytes h
  exact LinkLength.of_bytes h rfl rfl

theorem LinkLength.clearOutage : LinkLength.Statement .clearOutage := by
  intro _ bytes h
  exact LinkLength.of_bytes h rfl rfl

theorem LinkLength.reset : LinkLength.Statement .reset := by
  intro _ bytes h
  exact LinkLength.of_bytes h rfl rfl

theorem LinkLength.readyLineRise (drive : DriveIx) (protect : Bool) :
    LinkLength.Statement (.readyLineRise drive protect) := by
  intro _ _ h
  cases h

theorem LinkLength.readyLineFall (drive : DriveIx) : LinkLength.Statement (.readyLineFall drive) := by
  intro _ _ h
  cases h

theorem LinkLength.indexPulse (drive : DriveIx) (elapsed : Nat) :
    LinkLength.Statement (.indexPulse drive elapsed) := by
  intro _ _ h
  cases h

theorem LinkLength.speedFault (drive : DriveIx) : LinkLength.Statement (.speedFault drive) := by
  intro _ _ h
  cases h

theorem LinkLength.indexLost (drive : DriveIx) : LinkLength.Statement (.indexLost drive) := by
  intro _ _ h
  cases h

theorem LinkLength.headUnload (drive : DriveIx) : LinkLength.Statement (.headUnload drive) := by
  intro _ _ h
  cases h

theorem LinkLength.stepPulse (drive : DriveIx) (track0 : Bool) :
    LinkLength.Statement (.stepPulse drive track0) := by
  intro _ _ h
  cases h

theorem LinkLength.recalibrationEnd (drive : DriveIx) :
    LinkLength.Statement (.recalibrationEnd drive) := by
  intro _ _ h
  cases h

theorem LinkLength.seekFault (drive : DriveIx) : LinkLength.Statement (.seekFault drive) := by
  intro _ _ h
  cases h

theorem LinkLength.positioningEnd (drive : DriveIx) :
    LinkLength.Statement (.positioningEnd drive) := by
  intro _ _ h
  cases h

theorem LinkLength.idFieldRead (drive : DriveIx) (field : IdField) :
    LinkLength.Statement (.idFieldRead drive field) := by
  intro _ _ h
  cases h

theorem LinkLength.miss (drive : DriveIx) : LinkLength.Statement (.miss drive) := by
  intro _ _ h
  cases h

theorem LinkLength.dataMarkNotFound (drive : DriveIx) :
    LinkLength.Statement (.dataMarkNotFound drive) := by
  intro _ _ h
  cases h

theorem LinkLength.dataFieldRead (drive : DriveIx) (data : List Byte) (crc : BitVec 16) :
    LinkLength.Statement (.dataFieldRead drive data crc) := by
  intro _ _ h
  cases h

theorem LinkLength.dataFieldWritten (drive : DriveIx) :
    LinkLength.Statement (.dataFieldWritten drive) := by
  intro _ _ h
  cases h

theorem LinkLength.writeFault (drive : DriveIx) : LinkLength.Statement (.writeFault drive) := by
  intro _ _ h
  cases h

theorem LinkLength.verifyRead (drive : DriveIx) (data : List Byte) (crc : BitVec 16) :
    LinkLength.Statement (.verifyRead drive data crc) := by
  intro _ _ h
  cases h

theorem LinkLength.verifyMiss (drive : DriveIx) : LinkLength.Statement (.verifyMiss drive) := by
  intro _ _ h
  cases h

theorem LinkLength.supplyDip : LinkLength.Statement .supplyDip := by
  intro _ _ h
  cases h

theorem LinkLength.shortDip : LinkLength.Statement .shortDip := by
  intro _ _ h
  cases h

theorem LinkLength.longDip : LinkLength.Statement .longDip := by
  intro _ _ h
  cases h

theorem LinkLength.resetLine : LinkLength.Statement .resetLine := by
  intro _ _ h
  cases h

theorem LinkLength.resetEnd : LinkLength.Statement .resetEnd := by
  intro _ _ h
  cases h

theorem LinkLength.powerUp (standbyKept : Bool) : LinkLength.Statement (.powerUp standbyKept) := by
  intro _ _ h
  cases h

theorem LinkLength.mainSupplyFailure (cut : Option (WarmCause × Nat)) :
    LinkLength.Statement (.mainSupplyFailure cut) := by
  intro _ _ h
  cases h

end Sys2Proof.Laws
end

