-- ==== Sys2Proof/Laws/Time.lean ====
section
/-! SUPPORT. The passing of time: what ticks and coarse advances can do, so that a proof need not unfold them. -/

namespace Sys2Proof.Machine

open Sys2Proof

/-! ## Ticks in which no count ends -/

theorem State.passTicks_off {s : State} (n : Nat) (h : s.power = .off) : s.passTicks n = s := if_pos h

@[simp] theorem State.passTicks_power (s : State) (n : Nat) : (s.passTicks n).power = s.power := by
  unfold State.passTicks
  split <;> rfl

@[simp] theorem State.passTicks_memory (s : State) (n : Nat) : (s.passTicks n).memory = s.memory := by
  unfold State.passTicks
  split <;> rfl

@[simp] theorem State.passTicks_pending (s : State) (n : Nat) : (s.passTicks n).pending = s.pending := by
  unfold State.passTicks
  split <;> rfl

@[simp] theorem State.passTicks_windows (s : State) (n : Nat) : (s.passTicks n).windows = s.windows := by
  unfold State.passTicks
  split <;> rfl

@[simp] theorem State.passTicks_pool (s : State) (n : Nat) : (s.passTicks n).pool = s.pool := by
  unfold State.passTicks
  split <;> rfl

@[simp] theorem State.passTicks_events (s : State) (n : Nat) : (s.passTicks n).events = s.events := by
  unfold State.passTicks
  split <;> rfl

/-- The clocks after ticks in which no count ends: only the ticks are counted (R1). -/
theorem State.passTicks_clock {s : State} (n : Nat) (h : s.power ≠ .off) :
    (s.passTicks n).clock = { s.clock with
      tick := s.clock.tick + BitVec.ofNat 16 n, toCoarse := s.clock.toCoarse + n } := by
  unfold State.passTicks
  rw [if_neg h]

theorem State.passTicks_engine {s : State} (n : Nat) (d : DriveIx) (h : s.power ≠ .off) :
    (s.passTicks n).engine d = (s.engine d).elapse n := by
  unfold State.passTicks
  rw [if_neg h]
  exact Vector.getElem_map ..

/-! ## A lost index and an advance -/

@[simp] theorem State.speedFails_steady (s : State) (d : DriveIx) : (s.speedFails d).steady = s.steady := by
  simp [State.speedFails]

/-- An advance: nothing without main supply, the count alone in a reset, and the count with the sweep timer
and the judgements that fall due while the part runs (R1, R143). -/
theorem State.coarseMoment_cases (s : State) :
    (s.power = .off ∧ s.coarseMoment = s) ∨
    ((∃ p r, s.power = .inReset p r) ∧ s.coarseMoment = s.countCoarse) ∨
    (s.power = .running ∧ s.coarseMoment = { s.countCoarse.sweepTick with
      clock := { s.countCoarse.sweepTick.clock with
        due := { s.countCoarse.sweepTick.clock.due with
          expiry := true, promote := true, deadline := true } } }) := by
  unfold State.coarseMoment
  split <;> simp_all

/-- The sweep timer at an advance: it rests, counts, or has ended its period (R143). -/
theorem State.sweepTick_cases (s : State) :
    (s.sweep.enabled = false ∧ s.sweepTick = s) ∨
    (s.sweep.enabled = true ∧ s.sweep.counter < s.sweep.current ∧
      s.sweepTick = { s with sweep := { s.sweep with counter := s.sweep.counter + 1 } }) ∨
    (s.sweep.enabled = true ∧ s.sweep.current ≤ s.sweep.counter ∧
      s.sweepTick = { s with clock := { s.clock with due := { s.clock.due with sweep := true } } }) := by
  unfold State.sweepTick
  (repeat' split) <;> simp_all

/-- The advance before is judged, while the part runs, or nothing happens (log 3). -/
theorem State.judgePast_cases (s : State) :
    (s.power = .running ∧ s.judgePast = s.judgeAll.settle) ∨ (s.power ≠ .running ∧ s.judgePast = s) := by
  unfold State.judgePast
  split <;> simp_all

/-! ## What the passing of time keeps -/

/-- With no index to lose before the limit, lost indexes add nothing to the ticks. -/
theorem State.passLost_none {s : State} (k n limit : Nat) (h : s.nextLost? limit = none) :
    s.passLost k n limit = s.passTicks n := by
  cases k with
  | zero => rfl
  | succ k => rw [State.passLost, h]

/-- What ticks and lost indexes keep is kept by ticks with lost indexes among them. -/
theorem State.passLost_invariant (P : State → Prop) (ticks : ∀ s n, P s → P (s.passTicks n))
    (lost : ∀ s d, P s → P (s.indexGone d)) (k n limit : Nat) (s : State) (h : P s) :
    P (s.passLost k n limit) := by
  induction k generalizing n limit s with
  | zero => exact ticks _ _ h
  | succ k ih =>
    rw [State.passLost]
    split
    · exact ticks _ _ h
    · exact ih _ _ _ (lost _ _ (ticks _ _ h))

/-- What ticks, lost indexes, advances and the judgements of an advance keep is kept by ticks with advances
among them. -/
theorem State.passAdvances_invariant (P : State → Prop) (ticks : ∀ s n, P s → P (s.passTicks n))
    (lost : ∀ s d, P s → P (s.indexGone d)) (judge : ∀ s, P s → P s.judgePast)
    (moment : ∀ s, P s → P s.coarseMoment) (k n : Nat) (s : State) (h : P s) :
    P (s.passAdvances k n) := by
  induction k generalizing n s with
  | zero => exact State.passLost_invariant P ticks lost _ _ _ _ h
  | succ k ih => exact ih _ _ (moment _ (State.passLost_invariant P ticks lost _ _ _ _ (judge _ h)))

/-- What ticks, lost indexes, advances and the judgements of an advance keep is kept by the clocks. -/
theorem State.passClocks_invariant (P : State → Prop) (ticks : ∀ s n, P s → P (s.passTicks n))
    (lost : ∀ s d, P s → P (s.indexGone d)) (judge : ∀ s, P s → P s.judgePast)
    (moment : ∀ s, P s → P s.coarseMoment) (n : Nat) (s : State) (h : P s) : P (s.passClocks n) := by
  unfold State.passClocks
  split
  · exact h
  · exact State.passAdvances_invariant P ticks lost judge moment _ _ _ h

/-! ## A long dip among the ticks -/

/-- A dip timer that runs out among `n` ticks: the part runs, and the timer's rest is less than `n` (R157). -/
theorem State.longDipIn?_eq_some {s : State} {n k : Nat} : s.longDipIn? n = some k ↔
    s.power = .running ∧ ∃ t, s.store.dipTimer = some t ∧ k = 2000 - t ∧ k < n := by
  unfold State.longDipIn?
  split
  · rename_i t hp ht
    split <;> simp_all
    omega
  · rename_i h
    simp only [reduceCtorEq, false_iff, not_and, not_exists]
    exact fun hp t ht => absurd ht (h t hp)

/-- No dip timer runs: no long dip comes. -/
theorem State.longDipIn?_idle {s : State} (n : Nat) (h : s.store.dipTimer = none) :
    s.longDipIn? n = none := by
  unfold State.longDipIn?
  rw [h]
  split <;> simp_all

/-- Outside a run of the part no long dip comes. -/
theorem State.longDipIn?_not_running {s : State} (n : Nat) (h : s.power ≠ .running) :
    s.longDipIn? n = none := by
  unfold State.longDipIn?
  split <;> simp_all

/-- Ticks with no long dip among them pass as the clocks say; with one, they pass up to it, the warm reset
begins, and the rest of them pass in it (R157, R158). -/
theorem State.passTime_cases (s : State) (n : Nat) :
    (s.longDipIn? n = none ∧ s.passTime n = s.passClocks n) ∨
    (∃ k, s.longDipIn? n = some k ∧
      s.passTime n = ((s.passClocks k).warmReset .longDip).passClocks (n - k)) := by
  unfold State.passTime State.acrossDip
  split <;> simp_all

/-- What ticks, lost indexes, advances, their judgements and a long dip keep is kept by the passing of
time. -/
theorem State.passTime_invariant (P : State → Prop) (ticks : ∀ s n, P s → P (s.passTicks n))
    (lost : ∀ s d, P s → P (s.indexGone d)) (judge : ∀ s, P s → P s.judgePast)
    (moment : ∀ s, P s → P s.coarseMoment) (dip : ∀ s, P s → P (s.warmReset .longDip))
    (n : Nat) (s : State) (h : P s) : P (s.passTime n) := by
  have clocks := State.passClocks_invariant P ticks lost judge moment
  obtain ⟨-, e⟩ | ⟨k, -, e⟩ := s.passTime_cases n <;> rw [e]
  · exact clocks _ _ h
  · exact clocks _ _ (dip _ (clocks _ _ h))

/-- What ticks, lost indexes, advances, their judgements and a long dip keep is kept by an advance. -/
theorem State.coarseAdvance_invariant (P : State → Prop) (ticks : ∀ s n, P s → P (s.passTicks n))
    (lost : ∀ s d, P s → P (s.indexGone d)) (judge : ∀ s, P s → P s.judgePast)
    (moment : ∀ s, P s → P s.coarseMoment) (dip : ∀ s, P s → P (s.warmReset .longDip))
    (s : State) (h : P s) : P s.coarseAdvance := by
  have advance (t : State) (n : Nat) (ht : P t) : P (if t.power = .off then t else t.passAdvances 1 n) := by
    split
    · exact ht
    · exact State.passAdvances_invariant P ticks lost judge moment _ _ _ ht
  unfold State.coarseAdvance State.acrossDip
  split
  · exact advance _ _ h
  · exact advance _ _ (dip _ (State.passClocks_invariant P ticks lost judge moment _ _ h))

/-! ## The warm reset -/

@[simp] theorem State.warmReset_power (s : State) (c : WarmCause) :
    (s.warmReset c).power = .inReset false (decide (s.dirtyRefs ≠ [])) := rfl

@[simp] theorem State.warmReset_memory (s : State) (c : WarmCause) : (s.warmReset c).memory = s.memory := rfl

@[simp] theorem State.warmReset_pending (s : State) (c : WarmCause) : (s.warmReset c).pending = s.pending := rfl

@[simp] theorem State.warmReset_events (s : State) (c : WarmCause) :
    (s.warmReset c).events = EventUnit.reset := rfl

@[simp] theorem State.warmReset_pool (s : State) (c : WarmCause) : (s.warmReset c).pool = Pool.reset := rfl

@[simp] theorem State.warmReset_windows (s : State) (c : WarmCause) :
    (s.warmReset c).windows = Vector.replicate 16 .unbound := rfl

@[simp] theorem State.warmReset_store (s : State) (c : WarmCause) :
    (s.warmReset c).store = { s.recorded c s.dirtyRefs.length with dipTimer := none } := rfl

@[simp] theorem State.warmReset_clock (s : State) (c : WarmCause) :
    (s.warmReset c).clock = { s.clock with due := Due.none } := rfl

@[simp] theorem State.warmReset_engine (s : State) (c : WarmCause) (d : DriveIx) :
    (s.warmReset c).engine d = (s.engine d).cleared := Vector.getElem_map ..

/-! ## The next event of a drive's motion -/

/-- An event that a drive awaits: nothing, where none is awaited; the ticks to it alone, where they end the
waiting; or the ticks and the event (log 5). -/
theorem State.afterWait_cases (d : DriveIx) (awaits : Engine → Bool) (event : State → State) (s : State) :
    (awaits (s.engine d) = false ∧ s.afterWait d awaits event = s) ∨
    (awaits (s.engine d) = true ∧
      awaits ((s.passTime (s.engine d).wait).engine d) = false ∧
      s.afterWait d awaits event = s.passTime (s.engine d).wait) ∨
    (awaits (s.engine d) = true ∧
      awaits ((s.passTime (s.engine d).wait).engine d) = true ∧
      s.afterWait d awaits event = event (s.passTime (s.engine d).wait)) := by
  unfold State.afterWait
  dsimp only
  (repeat' split) <;> simp_all

/-! ## The judgements -/

/-- The judgements made before the limits are replaced: nothing, or the promotions, what follows them, and
the expiry (R15, R146). -/
theorem State.judgeLimits_cases (s : State) :
    (s.clock.due.promote = false ∧ s.clock.due.expiry = false ∧ s.judgeLimits = s) ∨
    ((s.clock.due.promote = true ∨ s.clock.due.expiry = true) ∧
      s.judgeLimits = s.judgeAges.settle.judgeExpiry) := by
  unfold State.judgeLimits
  split <;> simp_all

end Sys2Proof.Machine
end

