-- ==== Sys2Proof/Tests/Slice0.lean ====
section
/-! SUPPORT. Tests: ill-formed commands refused, the manual's figures, one step of every command, and witnesses of every statement's hypotheses. -/

set_option Elab.async false

namespace Sys2Proof.Tests

open Sys2Proof Sys2Proof.Machine

/-! ## Ill-formed commands -/

theorem test_wellFormed_dataFieldRead : (Instr.dataFieldRead 0 [1, 2, 3] 0).WellFormed = false := by decide

theorem test_wellFormed_verifyRead : (Instr.verifyRead 0 [] 0).WellFormed = false := by decide

theorem test_wellFormed_linkWriteMessage : (Instr.linkWriteMessage 0xB1 [0x50, 0]).WellFormed = false := by
  decide

/-- The parameters of the FORMAT of chapter 7.11: drive 3, cylinder 0, side 0, interleave 5, fill 40h, slot 9
defective, id 00020001h, two sides, last cylinder 76. -/
def formatOf (descriptors : List Byte) : FormatParams :=
  { drive := 3, cylinder := 0, side := 0, interleave := 5, fill := 0x40, descriptors := descriptors,
    flags := 0, volumeId := 0x00020001, sides := 2, lastCyl := 76 }

def slotNineBad : List Byte := (List.replicate 16 0).set 9 1

theorem test_wellFormed_format :
    (Instr.format (formatOf [])).WellFormed = false ∧
    (Instr.format (formatOf slotNineBad)).WellFormed = true := by decide

theorem test_no_word_spells_a_command : decodeTableWord 16 0x1234 = none := rfl

/-! ## Figures of the manual -/

/-- R122: the check code of the nine characters "123456789" is 29B1h. -/
theorem test_crc_known_answer :
    crc [0x31, 0x32, 0x33, 0x34, 0x35, 0x36, 0x37, 0x38, 0x39] = 0x29B1 := by decide +kernel

/-- R123: two rows of the table of interleaves 1, 3, 5, 7. -/
theorem test_interleave_table :
    [1, 3, 5, 7].map (fun k => sectorOfSlot k 1) = [1, 11, 13, 7] ∧
    [1, 3, 5, 7].map (fun k => sectorOfSlot k 9) = [9, 3, 5, 15] := by decide

/-- A binding record on drive 0 for the runs of R23. -/
def runRecord (cylinder side sector sides count : Byte) : BindRecord :=
  { page := 0x400, count := count, drive := 0, cylinder := cylinder, side := side, sector := sector,
    sides := sides, options := 0, writers := 0x0010, readAhead := 9 }

/-- R23: from cylinder 76, side 1, sector 10 a run of 6 ends on the last sector, and a run of 7 is refused;
R22: read-ahead is clamped to 7. -/
theorem test_run_ends_on_the_disk :
    (bindingOf? (runRecord 76 1 10 2 6)).map (fun b => (b.diskAddr 5, b.readAhead)) =
      some ({ drive := 0, cylinder := 76, side := 1, sector := 15 }, 7) ∧
    bindingOf? (runRecord 76 1 10 2 7) = none := by decide

/-- Chapter 2.12: 24 sectors from cylinder 20, side 0, sector 8 go on to side 1. -/
theorem test_run_walks_the_sides :
    (bindingOf? (runRecord 20 0 8 2 24)).map (fun b => ((b.diskAddr 7).side, (b.diskAddr 8).side,
      (b.diskAddr 8).sector, (b.diskAddr 23).sector, b.top)) = some (0, 1, 0, 15, 0x41800) := by decide

/-- The drives of chapters 4.12 and 4.13. -/
def driveA : Engine :=
  { Engine.reset true false false with cyl := some 20, loaded := true, stepMs := 6, newer := some 1000 }

def driveB : Engine :=
  { Engine.reset true false false with
    cyl := some 40, loaded := false, stepMs := 3, period := 17600, newer := some 0 }

def volumeOf (interleave : Byte) : Volume :=
  { Volume.reset with
    state := .attached
    present := some { volumeId := 1, interleave := interleave, sides := 2, flags := 0, lastCyl := 76 } }

def costOf (e : Engine) (k : Byte) (now : Tick) (kind : Kind) (cylinder sector : Nat) : Nat :=
  e.cost (volumeOf k) now
    (Record.new kind .normal { drive := 0, cylinder := cylinder, side := 0, sector := sector } 0)

/-- Chapter 4.12: the costs of records A, B and C. -/
theorem test_costs_of_three_writebacks :
    costOf driveA 5 6300 .writeback 20 9 = 7287 ∧ costOf driveA 5 6300 .writeback 22 2 = 3741 ∧
    costOf driveA 5 6300 .writeback 20 3 = 9369 := by decide

/-- Chapter 4.13: the costs of D, E, F and J with the heads unloaded and the index late, and of a FORMAT. -/
theorem test_costs_with_a_late_index :
    costOf driveB 3 17700 .fill 40 6 = 18900 ∧ costOf driveB 3 17700 .fill 41 11 = 18500 ∧
    costOf driveB 3 17700 .fill 39 2 = 6400 ∧ costOf driveB 3 17700 .prefetch 40 12 = 3500 ∧
    costOf driveB 3 17700 .format 44 0 = 6200 := by decide

/-! ## Small states -/

/-- The state after a command. -/
def after (c : Instr) (s : State) : State :=
  match exec c s with
  | .next t => t
  | .fault _ => s
  | .refused _ => s

/-- A binding of two sectors at 1000h: drive 0, cylinder 1, side 0, sector 4; tag 1 alone may write. -/
def b0 : Binding :=
  { page := 16, count := 2, drive := 0, cylinder := 1, side := 0, sector := 4, sides := 2,
    gathered := false, fresh := false, writers := 0x0002, deliver := false, readAhead := 0,
    verify := false, stampBound := false, sent := 0 }

/-- Another, at 2000h on cylinder 9. -/
def b1 : Binding := { b0 with page := 32, cylinder := 9 }

def x0 : SectorRef := ⟨0, 0⟩
def a0 : DiskAddr := { drive := 0, cylinder := 1, side := 0, sector := 4 }

/-- The entry of sector index 0 in a state, with what that state has. -/
def entryIn (st : SectorState) : Entry :=
  { Entry.new a0 with
    state := st
    dirtySince := if st.isDirty then some 5 else none
    redirtySince := if st = .redirty then some 6 else none
    cause := if st = .failed ∨ st = .unwritten then some .notFound else none }

def entriesIn (st : SectorState) : List Entry := [entryIn st, Entry.new (b0.diskAddr 1)]

def volume0 : Volume :=
  { Volume.reset with
    state := .attached
    boundId := some 0x12345
    present := some { volumeId := 0x12345, interleave := 5, sides := 2, flags := 0, lastCyl := 76 } }

/-- Window 0 is `w` and drive 0's volume is in a state. -/
def withWindow (w : Window) (v : VolState) : State :=
  (State.reset.setWindow 0 w).setVolume 0 { volume0 with state := v }

/-- Window 0 is BOUND with its first sector in a state, on an ATTACHED drive. -/
def boundIn (st : SectorState) : State := withWindow (.bound b0 (entriesIn st)) .attached

/-- Window 0 is STAGED. -/
def stagedIn (next : Option Binding) (st : SectorState) : State :=
  withWindow (.staged b0 next (entriesIn st)) .attached

/-- Every record is in use for another drive. -/
def fullPool (s : State) : State :=
  { s with pool := { s.pool with
      records := Vector.replicate 48 (some (Record.new .writeback .normal ⟨3, 70, 0, 9⟩ 0))
      order := allRecords } }

/-- The record of sector index 0, with buffer 0. -/
def recordOf (k : Kind) (ph : Phase) : Record :=
  { Record.new k .normal a0 5 with
    owner := if k = .stampRead ∨ k = .format then none else some x0
    phase := ph
    buffer := some 0
    copied := true
    format := if k = .format then some { formatOf slotNineBad with drive := 0, cylinder := 1 } else none
    sector := if k = .format then none else some 4 }

/-- An engine that is ready, on cylinder 1, with no operation. -/
def engineIn (st : EngineState) : Engine :=
  { Engine.reset true false false with state := st, cyl := some 1, loaded := true, lostTimer := some 0 }

/-- Drive 0's engine works on record 0 of kind `k`; its entry is in state `st`. -/
def working (est : EngineState) (k : Kind) (ph : Phase) (st : SectorState) : State :=
  (((boundIn st).makeRecord 0 (recordOf k ph)).setEngine 0 { engineIn est with current := some 0 })

def cycle (a : Nat) (acc : Access) (tag : Tag) : UpCycle :=
  { addr := BitVec.ofNat 20 a, access := acc, tag := tag }

/-- A burst of drive 0 that has taken a number of words. -/
def burstAt (kind : BurstKind) (words : Nat) : Burst :=
  let blank : Bool := kind = .blankFill
  { kind := kind, drive := 0, base := 0x1000, record := if blank then none else some 0,
    served := if blank then some x0 else none, buffer := if blank then none else some 0,
    damaged := false, words := words, fill := 0x20 }

/-- That burst is running. -/
def bursting (kind : BurstKind) (words : Nat) (s : State) : State :=
  { s with bursts := { BurstUnit.reset with running := some (burstAt kind words) } }

/-! ## One step of the commands -/

theorem test_upstream_outside_passes :
    ((after (.upstreamCycle (cycle 0xFFFFF (.writeByte 0x41) 3)) State.reset).readByte 0xFFFFF,
      (after (.upstreamCycle (cycle 0xFFFFF (.writeByte 0x41) 3)) State.reset).answer.map Reply.answer) =
      (0x41, some .pass) := by decide +kernel

theorem test_upstream_write_makes_dirty :
    ((after (.upstreamCycle (cycle 0x10FF (.writeByte 0x41) 1)) (boundIn .clean)).entry? x0).map
      Entry.state = some .dirty := by decide +kernel

theorem test_burst_word_delivers_two_bytes :
    let s := (bursting .delivery 127 (working .idle .fill .inEngine .filling)).setBuffer 0
      (List.replicate 254 0 ++ [0x12, 0x34])
    ((after .burstWord s).readByte 0x10FE, (after .burstWord s).readByte 0x10FF,
      ((after .burstWord s).entry? x0).map Entry.state) = (0x12, 0x34, some .clean) := by decide +kernel

theorem test_coarse_clock_wraps :
    (after .coarseClockAdvance { State.reset with
      clock := { tick := 65000, coarse := 65535, toCoarse := 0, due := Due.none } }).clock =
      { tick := 9464, coarse := 0, toCoarse := 0,
        due := { sweep := false, expiry := true, promote := true, deadline := true } } := by
  decide +kernel

/-- R1: the coarse clock advances at every 10,000th tick that a command lets pass. -/
theorem test_index_pulse_advances_coarse :
    (after (.indexPulse 0 30000) State.reset).clock.coarse = 3 := by decide +kernel

/-- Chapter 1.13: a record of age 60 at a limit of 30 is removed. -/
theorem test_deferred_record_expires :
    (after .deferredRecordExpiry { (boundIn .queued).setDeferred 1 (some { ref := x0, first := 2050 }) with
      clock := { tick := 0, coarse := 2110, toCoarse := 0,
                 due := { Due.none with expiry := true } } }).path.deferred[(1 : Tag)] = none := by
  decide +kernel

theorem test_sweep_raises_and_reloads :
    let s := { State.reset with
      clock := { State.reset.clock with due := { Due.none with sweep := true } }
      sweep := { enabled := true, current := 600, next := 50, counter := 600 } }
    ((after .sweep s).sweep.current, (after .sweep s).sweep.counter, (after .sweep s).events.flags) =
      (50, 1, 0x800) := by decide +kernel

theorem test_age_promotion :
    (((after .agePromotion { boundIn .dirty with
      clock := { tick := 0, coarse := 1205, toCoarse := 0, due := { Due.none with promote := true } } }).entry?
      x0).map Entry.urgent) = some true := by decide +kernel

theorem test_secure_deadline :
    ((after .secureDeadline { (boundIn .dirty).setSlot 2 { Slot.reset with
        state := .active, deadline := 10, remaining := 1, taken := 1 } with
      clock := { tick := 0, coarse := 10, toCoarse := 0,
                 due := { Due.none with deadline := true } } }).slot 2).state = .doneLate := by
  decide +kernel

theorem test_link_message_short :
    (after (.linkWriteMessage 0xB0 [0x31]) State.reset).link = { command := [0x31], response := [0x06] } := by
  decide +kernel

theorem test_link_message_unknown :
    (after (.linkWriteMessage 0xB0 [0x02, 0]) State.reset).link.response = [0x05] := by decide +kernel

theorem test_status_limits :
    (after (.status 1) State.reset).link.response =
      [0, 1, 0x02, 0x58, 0x02, 0x58, 0, 1, 0x04, 0xB0, 0, 30, 0x20] := by decide +kernel

/-- Chapter 2.12: BIND of window 3 is accepted. -/
theorem test_bind_accepted :
    ((after (.bind 3 (runRecord 20 0 8 2 24)) State.reset).window 3).entries.length = 24 := by
  decide +kernel

theorem test_bind_conflict :
    (after (.bind 4 { runRecord 5 0 0 1 4 with page := 0x410 })
      (after (.bind 3 (runRecord 20 0 8 2 24)) State.reset)).link.response = [0x03] := by decide +kernel

theorem test_stage_then_swap :
    ((after (.stage 0 { runRecord 9 0 0 1 4 with page := 0x20 }) (boundIn .clean)).window 0).entries.length =
      4 := by decide +kernel

theorem test_swap_waits_for_changes :
    (after (.swap 0) (stagedIn none .dirty)).window 0 = .staged b0 none (entriesIn .dirty) := by
  decide +kernel

theorem test_force_discards :
    ((after (.force 0) (stagedIn none .dirty)).lastDiscard.map DiscardRecord.count,
      (after (.force 0) (stagedIn none .dirty)).window 0) = (some 1, .unbound) := by decide +kernel

theorem test_release_of_clean_window : (after (.release 0) (boundIn .clean)).window 0 = .unbound := by
  decide +kernel

theorem test_release_discard : (after (.releaseDiscard 0) (boundIn .unwritten)).window 0 = .unbound := by
  decide +kernel

theorem test_window_states :
    (after (.windowStates 0 1) (boundIn .redirty)).link.response.take 3 = [0, 2, 0x70] := by decide +kernel

theorem test_secure_marks :
    (((after (.secure 1 false 0) (boundIn .dirty)).slot 0).remaining,
      ((after (.secure 1 false 0) (boundIn .dirty)).entry? x0).map Entry.marks) = (1, some 1) := by
  decide +kernel

theorem test_secure_status_frees :
    ((after (.secureStatus 1) (State.reset.setSlot 1 { Slot.reset with state := .doneOk })).slot 1).state =
      .free := by decide +kernel

theorem test_hold_idle :
    ((after (.hold 0) (State.reset.setEngine 0 (engineIn .idle))).engine 0).state = .held := by
  decide +kernel

theorem test_run_recalibrates :
    ((after (.run 0) (State.reset.setEngine 0
      { engineIn .held with link := true, cyl := none })).engine 0).state = .recalibrating := by
  decide +kernel

theorem test_adopt_needs_mismatch :
    ((after (.adopt 0) (withWindow (.bound b0 (entriesIn .clean)) .mismatch)).entry? x0).map Entry.state =
      some .absent ∧ (after (.adopt 0) State.reset).link.response = [0x02] := by decide +kernel

theorem test_retry_failed :
    ((after (.retry 0) (boundIn .failed)).entry? x0).map Entry.state = some .absent := by decide +kernel

theorem test_format_needs_disk :
    (after (.format (formatOf slotNineBad)) State.reset).link.response = [0x02] := by decide +kernel

theorem test_read_drive_settings :
    (after (.readDrive 0 0) State.reset).link.response.drop 18 = [8, 4, 0] := by decide +kernel

theorem test_set_drive_clamps :
    ((after (.setDrive 0 0 200 true) State.reset).engine 0).stepMs = 3 ∧
    ((after (.setDrive 0 0 200 true) State.reset).engine 0).retries = 8 := by decide +kernel

theorem test_set_sweep_zero_is_65536 :
    (after (.setSweep 0 true true) State.reset).sweep.current = 65536 := by decide +kernel

theorem test_set_limits_clamps :
    (after (.setLimits 0xFFFF 0 0x41) State.reset).path.deferLimit = 32767 := by decide +kernel

theorem test_read_events_wraps_tag :
    (after .readEvents { State.reset with
      events := { flags := 0x200001, again := 1, mask := 0, readTag := 255 } }).link.response =
      [0, 0, 0x20, 0, 1] := by decide +kernel

theorem test_clear_events_spares_set_again :
    (after (.clearEvents 7 0xFFFFFF) { State.reset with
      events := { flags := 0x3, again := 0x2, mask := 0, readTag := 7 } }).events.flags = 0x2 := by
  decide +kernel

theorem test_alert_mask :
    (after (.setAlertMask 0x000001) { State.reset with events := (EventUnit.reset.raise .fillFailed) }).alertLow =
      true := by decide +kernel

theorem test_outage_read_and_clear :
    (after (.readOutage 31) State.reset).link.response = [0, 0, 0, 0] ∧
    (after (.readOutage 32) State.reset).link.response = [1] ∧
    (after .clearOutage State.reset).store.list = [] := by decide +kernel

theorem test_reset_records_changes :
    (after .reset (boundIn .dirty)).store.list = [{ addr := a0, win := 0 }] := by decide +kernel

theorem test_ready_rise :
    ((after (.readyLineRise 2 false) State.reset).volume 2).state = .readingStamp ∧
    ((after (.readyLineRise 2 false) State.reset).engine 2).state = .recalibrating := by decide +kernel

theorem test_ready_fall_strands :
    ((after (.readyLineFall 0) (boundIn .dirty)).entry? x0).map Entry.state = some .stranded := by
  decide +kernel

theorem test_index_interval_edges :
    ((after (.indexPulse 0 15000) (State.reset.setEngine 0
      { engineIn .idle with newer := some 0, cyl := none, link := true })).engine 0).period = 15000 ∧
    ((after (.indexPulse 0 14999) (State.reset.setEngine 0
      { engineIn .idle with newer := some 0, cyl := none, link := true })).engine 0).bad = 1 := by
  decide +kernel

theorem test_speed_fault :
    ((after (.speedFault 0) (State.reset.setEngine 0 { engineIn .idle with bad := 3 })).engine 0).fault =
      true := by decide +kernel

theorem test_index_lost :
    ((after (.indexLost 0) (State.reset.setEngine 0
      { engineIn .idle with lostTimer := some 36800 })).engine 0).state = .held := by decide +kernel

theorem test_head_unload :
    ((after (.headUnload 0) (State.reset.setEngine 0 { engineIn .idle with idle := 8 })).engine 0).loaded =
      false := by decide +kernel

theorem test_step_moves_one_cylinder :
    ((after (.stepPulse 0 false) (State.reset.setEngine 0
      { engineIn .positioning with motion := .seeking, target := 0, wait := 800 })).engine 0).cyl = some 0 := by
  decide +kernel

theorem test_recalibration_end :
    ((after (.recalibrationEnd 0) (State.reset.setEngine 0
      { engineIn .recalibrating with motion := .recal, track0 := true, cyl := none })).engine 0).cyl =
      some 0 := by decide +kernel

theorem test_seek_fault :
    (after (.seekFault 0) (State.reset.setEngine 0
      { engineIn .recalibrating with motion := .recal, recalSteps := 80, cyl := none })).events.flags =
      0xC000 := by decide +kernel

theorem test_positioning_end_takes_channel :
    (after (.positioningEnd 0) ((working .positioning .fill .selected .filling).modEngine 0 fun e =>
      { e with motion := .seeking, target := 1 })).chan.owner = some 0 := by decide +kernel

/-- An ID field as it is recorded. -/
def idOf (cylinder side sector flags : Byte) (c : BitVec 16) : IdField :=
  { cylinder := cylinder, side := side, sector := sector, size := 1, flags := flags,
    crcHigh := c.extractLsb' 8 8, crcLow := c.extractLsb' 0 8 }

/-- The field of sector 4 of cylinder 1, side 0, good or defective. -/
def id4 (flags : Byte) : IdField := idOf 1 0 4 flags (crc [0xC6, 1, 0, 4, 1, flags])

theorem test_id_field_found :
    ((after (.idFieldRead 0 (id4 0)) (working .searching .fill .inEngine .filling)).engine 0).state =
      .reading := by decide +kernel

theorem test_miss_counts :
    ((after (.miss 0) ((working .searching .fill .inEngine .filling).modEngine 0 fun e =>
      { e with searchPulses := 2 })).record? 0).map (fun q => (q.attempts, q.misses)) = some (1, 1) := by
  decide +kernel

theorem test_data_mark_missing :
    ((after (.dataMarkNotFound 0) (working .reading .fill .inEngine .filling)).record? 0).map
      Record.attempts = some 1 := by decide +kernel

def data0 : List Byte := List.replicate 256 0x40
def crc0 : BitVec 16 := crc (0xC9 :: data0)

theorem test_data_field_good : dataGood data0 crc0 = true := by decide +kernel

theorem test_data_field_read :
    (after (.dataFieldRead 0 data0 crc0) (working .reading .fill .inEngine .filling)).bursts.running.map
      Burst.kind = some .delivery := by decide +kernel

theorem test_data_field_written :
    ((after (.dataFieldWritten 0) (working .writing .writeback .inEngine .writing)).entry? x0).map
      Entry.state = some .clean := by decide +kernel

theorem test_write_fault :
    ((after (.writeFault 0) ((working .writing .writeback .inEngine .writing).modEngine 0 fun e =>
      { e with gate := true })).entry? x0).map Entry.state = some .unwritten := by decide +kernel

theorem test_verify_read :
    ((after (.verifyRead 0 data0 crc0) ((working .verifying .writeback .inEngine .redirty).modEngine 0 fun e =>
      { e with idFound := true })).entry? x0).map Entry.state = some .dirty := by decide +kernel

theorem test_verify_miss :
    ((after (.verifyMiss 0) ((working .verifying .writeback .inEngine .writing).modEngine 0 fun e =>
      { e with searchPulses := 2 })).record? 0).map Record.attempts = some 1 := by decide +kernel

theorem test_dip_and_return :
    (after .shortDip (after .supplyDip State.reset)).store.dipTimer = none ∧
    ((after .supplyDip State.reset).engine 3).dip = true := by decide +kernel

theorem test_long_dip :
    (after .longDip (after .supplyDip State.reset)).store.cause = .longDip := by decide +kernel

/-- R157: at 2,000 ticks the return can still be taken first; a tick later the warm reset is in force, and an
advance of the coarse clock falls into it. -/
theorem test_long_dip_among_ticks :
    let s := after .supplyDip (boundIn .dirty)
    let t := after (.indexPulse 0 2001) s
    let u := after .coarseClockAdvance s
    (after .shortDip (after (.indexPulse 0 2000) s)).power = .running ∧
    t.power = .inReset false true ∧ t.store.list.length = 1 ∧
    u.power = .inReset false true ∧ u.clock.coarse = 1 ∧ u.clock.due = Due.none := by decide +kernel

theorem test_reset_line_and_end :
    (after .resetEnd (after .resetLine (boundIn .dirty))).events.flags = 0x40000 := by decide +kernel

theorem test_power_up_keeps_store :
    (after (.powerUp true) (after (.mainSupplyFailure (some (.longDip, 1))) (boundIn .dirty))).store.list =
      [{ addr := a0, win := 0 }] ∧
    (after (.powerUp false) (boundIn .dirty)).store.cause = .coldStart := by decide +kernel

/-- R20: each of the cycles held off by a reset is answered at its end, the second with what the first
wrote. -/
theorem test_held_cycles_are_answered :
    ((after .resetEnd (after (.upstreamCycle (cycle 7 .readByte 0)) (after (.upstreamCycle
      (cycle 7 (.writeByte 0x41) 0)) (after .reset State.reset)))).heldAnswers.map Reply.data) =
      [none, some (.byte 0x41)] := by decide +kernel

/-! ## Witnesses: states and operands that meet each statement's hypotheses, clause by clause -/

theorem witness_StepRunsFrontCommand :
    ({ State.reset with pending := [.burstWord, .sweep] } : State).pending = .burstWord :: [.sweep] ∧
    State.reset.pending = [] := by decide +kernel

theorem witness_SettleKeepsSteadyPart :
    (boundIn .dirty).window 0 = .bound b0 (entriesIn .dirty) ∧
    (boundIn .dirty).entry? x0 = some (entryIn .dirty) ∧ (entryIn .dirty).state.isDirty = true ∧
    State.reset.settled = true := by decide +kernel

/-- Record 0 of kind `k` waits for an idle drive 0, its entry in state `st`. -/
def choosing (k : Kind) (st : SectorState) : State :=
  ((boundIn st).makeRecord 0 { recordOf k .waiting with buffer := none, copied := false }).setEngine 0
    (engineIn .idle)

/-- Every buffer is held by a record of another drive. -/
def buffersTaken (s : State) : State :=
  allBuffers.foldl (fun t b => t.setRecord ⟨10 + b.val, by omega⟩
    (some { Record.new .writeback .normal ⟨3, 70, 0, 9⟩ 0 with buffer := some b })) s

/-- The choice, and what each first check of a taken record needs. -/
theorem witness_SettleKeepsSteadyPart_choice :
    (choosing .fill .queued).nextChoice? = some (0, 0) ∧ (choosing .fill .queued).nextSwap? = none ∧
    (choosing .fill .queued).freeBuffer? = some 0 ∧
    (buffersTaken (choosing .fill .queued)).freeBuffer? = none ∧
    ((choosing .fill .queued).record? 0).bind Record.owner = some x0 ∧
    (choosing .fill .queued).entry? x0 = some (entryIn .queued) ∧
    (choosing .writeback .dirty).entry? x0 = some (entryIn .dirty) ∧
    ((choosing .writeback .dirty).record? 0).map Record.kind = some .writeback ∧
    ((choosing .writeback .dirty).modVolume 0 fun v => { v with protect := true }).nextChoice? =
      some (0, 0) ∧
    (choosing .writeback .dirty).bursts = BurstUnit.reset ∧
    (choosing .writeback .dirty).binding? 0 = some b0 ∧
    ((choosing .format .clean).record? 0).map Record.kind = some .format ∧
    ((choosing .fill .queued).engine 0).cyl = some 1 ∧
    ((choosing .fill .queued).modEngine 0 fun e => { e with cyl := some 2 }).nextChoice? = some (0, 0) := by
  decide +kernel

/-- A fill on side 1 of a volume that records one side. -/
theorem witness_SettleKeepsSteadyPart_side :
    let s := ((choosing .fill .queued).modRecord 0 fun q => { q with side := 1 }).modVolume 0 fun v =>
      { v with present := v.present.map fun p => { p with sides := 1 } }
    s.nextChoice? = some (0, 0) ∧ (s.record? 0).map Record.side = some 1 ∧
    (s.volume 0).present.map Stamp.sides = some 1 := by decide +kernel

/-- The last and the first address outside the window, and the edges inside it. -/
theorem witness_LocateAgreesWithBindings :
    (boundIn .clean).locate 0xFFF = none ∧ (boundIn .clean).locate 0x1000 = some ⟨0, 0⟩ ∧
    (boundIn .clean).locate 0x11FF = some ⟨0, 1⟩ ∧ (boundIn .clean).locate 0x1200 = none := by
  decide +kernel

theorem witness_CycleOutsideWindowsPasses :
    (boundIn .clean).power = .running ∧ (boundIn .clean).bursts.owed = false ∧
    (boundIn .clean).locate (cycle 0xFFF .readByte 0).addr.toNat = none ∧
    (boundIn .clean).locate (cycle 0xFFFFF (.writeWord 7) 0).addr.toNat = none ∧
    (boundIn .clean).clock.due.expiry = false := by decide +kernel

/-- A burst is running, and the port's next turn is owed to it. -/
def owing (s : State) : State :=
  { s with bursts := { BurstUnit.reset with running := some (burstAt .blankFill 5), owed := true } }

/-- Both things that come before a cycle. -/
theorem witness_CycleOutsideWindowsPasses_waits :
    (owing (boundIn .clean)).bursts.owed = true ∧ (owing (boundIn .clean)).bursts.running ≠ none ∧
    (owing (boundIn .clean)).power = .running ∧
    ({ State.reset with clock := { State.reset.clock with
      due := { Due.none with expiry := true } } } : State).clock.due.expiry = true := by decide +kernel

/-- A cycle to the first byte of window 0 lands in its first sector, whatever state it is in. -/
theorem lands_bound (st : SectorState) (acc : Access) (tag : Tag) :
    (boundIn st).Lands (cycle 0x1000 acc tag) x0 b0 (entryIn st) := by
  refine ⟨rfl, rfl, rfl, ?_, rfl, rfl⟩
  show (boundIn st).locate 0x1000 = some x0
  cases st <;> decide +kernel

theorem lands_staged (st : SectorState) (acc : Access) (tag : Tag) :
    (stagedIn none st).Lands (cycle 0x1000 acc tag) x0 b0 (entryIn st) := by
  refine ⟨rfl, rfl, rfl, ?_, rfl, rfl⟩
  show (stagedIn none st).locate 0x1000 = some x0
  cases st <;> decide +kernel

theorem witness_WriteOutsideWriterSetRefused :
    (boundIn .clean).turnTaken (boundIn .clean) ∧
    (boundIn .clean).Lands (cycle 0x1000 (.writeByte 9) 2) x0 b0 (entryIn .clean) ∧
    accessIsWrite (.writeByte 9) = true ∧ b0.writers.getLsbD 2 = false :=
  ⟨Or.inl ⟨rfl, rfl⟩, lands_bound _ _ _, by decide, by decide⟩

/-- The same with a turn that is owed to a running burst. -/
theorem witness_WriteOutsideWriterSetRefused_owed :
    (owing (boundIn .clean)).turnTaken (after .burstWord (owing (boundIn .clean))) ∧
    (after .burstWord (owing (boundIn .clean))).Lands (cycle 0x1000 (.writeByte 9) 2) x0 b0
      (entryIn .clean) :=
  ⟨Or.inr ⟨rfl, by decide, rfl⟩, by
    constructor <;> decide +kernel⟩

theorem witness_ReadOfPresentSectorPasses :
    (stagedIn none .writing).Lands (cycle 0x1000 .readWord 2) x0 b0 (entryIn .writing) ∧
    accessIsWrite .readWord = false ∧ (entryIn .writing).state.isPresent = true :=
  ⟨lands_staged _ _ _, by decide, by decide⟩

theorem witness_WriteToPresentSectorPasses :
    (boundIn .clean).Lands (cycle 0x1000 (.writeByte 9) 1) x0 b0 (entryIn .clean) ∧
    (boundIn .writing).Lands (cycle 0x1000 (.writeByte 9) 1) x0 b0 (entryIn .writing) ∧
    accessIsWrite (.writeByte 9) = true ∧ b0.writers.getLsbD 1 = true ∧
    ((boundIn .clean).window x0.win).isBound = true ∧ (entryIn .clean).state.isPresent = true ∧
    (entryIn .clean).state ≠ .copying ∧ ((boundIn .clean).volume b0.drive).state = .attached ∧
    b0.gathered = false ∧ (boundIn .clean).opOf x0 = none ∧ x0 ∉ (boundIn .clean).pool.backlog ∧
    (boundIn .clean).sectorTaken (entryIn .clean).addr = false ∧ (boundIn .clean).freeRecord? = some 0 :=
  ⟨lands_bound _ _ _, lands_bound _ _ _, by decide +kernel⟩

theorem witness_WriteToPresentSectorPasses_full_pool :
    (fullPool (boundIn .clean)).freeRecord? = none ∧ (fullPool (boundIn .clean)).opOf x0 = none ∧
    (fullPool (boundIn .clean)).sectorTaken (entryIn .clean).addr = false ∧
    (fullPool (boundIn .clean)).evictable? = none := by decide +kernel

theorem witness_DeferredCycleOnlyWaits :
    (stagedIn none .clean).Lands (cycle 0x1000 (.writeByte 9) 1) x0 b0 (entryIn .clean) ∧
    (boundIn .copying).Lands (cycle 0x1000 (.writeByte 9) 1) x0 b0 (entryIn .copying) ∧
    (stagedIn none .clean).path.inTime 1 x0 0 = true ∧
    ((stagedIn none .clean).window x0.win).isStaged = true ∧ (entryIn .queued).state.isAwaited = true ∧
    ((boundIn .copying).window x0.win).isBound = true ∧ (entryIn .copying).state = .copying ∧
    ((withWindow (.bound b0 (entriesIn .absent)) .mismatch).volume b0.drive).state ≠ .attached :=
  ⟨lands_staged _ _ _, lands_bound _ _ _, by decide +kernel⟩

theorem witness_AbsentSectorIsRequested :
    (boundIn .absent).Lands (cycle 0x1000 .readByte 5) x0 b0 (entryIn .absent) ∧
    accessIsWrite .readByte = false ∧ (boundIn .absent).path.inTime 5 x0 0 = true ∧
    ((boundIn .absent).window x0.win).isBound = true ∧ (entryIn .absent).state = .absent ∧
    ((boundIn .absent).volume b0.drive).state = .attached ∧ b0.fresh = false ∧
    (boundIn .absent).sectorTaken (entryIn .absent).addr = false ∧
    (boundIn .absent).freeRecord? = some 0 ∧ (fullPool (boundIn .absent)).freeRecord? = none ∧
    (fullPool (boundIn .absent)).evictable? = none :=
  ⟨lands_bound _ _ _, by decide +kernel⟩

/-- The second sector of window 0 is QUEUED with a prefetch, and every other record is in use. -/
def prefetchOnly (s : State) : State :=
  (fullPool ((s.setRecord 0 none).modEntry ⟨0, 1⟩ fun e => { e with state := .queued })).setRecord 47
    (some { Record.new .prefetch .background (b0.diskAddr 1) 0 with owner := some ⟨0, 1⟩ })

theorem witness_AbsentSectorIsRequested_evicted :
    let s := prefetchOnly (boundIn .absent)
    s.freeRecord? = none ∧ s.evictable? = some 47 ∧ (s.record? 47).bind Record.owner = some ⟨0, 1⟩ ∧
    (s.entry? ⟨0, 1⟩).map Entry.state = some .queued ∧ s.sectorTaken (entryIn .absent).addr = false ∧
    s.entry? x0 = some (entryIn .absent) ∧ s.locate 0x1000 = some x0 ∧ s.binding? 0 = some b0 ∧
    s.power = .running ∧ s.bursts.owed = false ∧ s.clock.due.expiry = false := by decide +kernel

/-- A QUEUED sector with a PREFETCH, and a FILLING one with a FILL. -/
theorem witness_AbsentSectorIsRequested_queued :
    let s := (boundIn .queued).makeRecord 0 (recordOf .prefetch .waiting)
    let t := (boundIn .filling).makeRecord 0 (recordOf .fill .inEngine)
    s.Lands (cycle 0x1000 .readByte 5) x0 b0 (entryIn .queued) ∧ s.opOf x0 = some 0 ∧
    s.record? 0 = some (recordOf .prefetch .waiting) ∧
    t.Lands (cycle 0x1000 .readByte 5) x0 b0 (entryIn .filling) ∧ t.opOf x0 = some 0 ∧
    t.record? 0 = some (recordOf .fill .inEngine) ∧ s.path.inTime 5 x0 0 = true :=
  ⟨⟨rfl, rfl, rfl, by decide +kernel, rfl, rfl⟩, by decide +kernel, rfl,
    ⟨rfl, rfl, rfl, by decide +kernel, rfl, rfl⟩, by decide +kernel, rfl, by decide +kernel⟩

/-- A fresh binding. -/
def freshBound : State := withWindow (.bound { b0 with fresh := true } (entriesIn .absent)) .attached

theorem witness_AbsentSectorIsRequested_fresh :
    freshBound.Lands (cycle 0x1000 .readByte 5) x0 { b0 with fresh := true } (entryIn .absent) ∧
    freshBound.placeHeld 0 = false ∧ freshBound.pendingBehind 0 = false ∧
    freshBound.bursts.running = none ∧ freshBound.bursts.queue = [] :=
  ⟨⟨rfl, rfl, rfl, rfl, rfl, rfl⟩, by decide +kernel⟩

/-- Tag 5 has waited on the first sector since time 0; the defer limit is 30 and the time is `now`. -/
def waited (now : Coarse) (st : SectorState) : State :=
  { (boundIn st).setDeferred 5 (some { ref := x0, first := 0 }) with
    clock := { tick := 0, coarse := now, toCoarse := 0, due := Due.none } }

theorem witness_OverdueAndFailedCyclesFault :
    (waited 30 .queued).Lands (cycle 0x1000 .readByte 5) x0 b0 (entryIn .queued) ∧
    (waited 30 .queued).path.deferred[(5 : Tag)] = some { ref := x0, first := 0 } ∧
    (waited 30 .queued).path.deferLimit.toNat ≤ since (waited 30 .queued).clock.coarse 0 ∧
    ¬(waited 29 .queued).path.deferLimit.toNat ≤ since (waited 29 .queued).clock.coarse 0 ∧
    answerOf false false .queued = .defer ∧ (entryIn .failed).state = .failed ∧
    ((boundIn .failed).window x0.win).isBound = true :=
  ⟨⟨rfl, rfl, rfl, rfl, rfl, rfl⟩, by decide +kernel⟩

theorem witness_BurstWordMovesOneWord :
    (bursting .copyOut 126 (boundIn .copying)).power = .running ∧
    (bursting .copyOut 126 (boundIn .copying)).bursts.running = some (burstAt .copyOut 126) ∧
    (burstAt .copyOut 126).words < 127 ∧ (boundIn .copying).memory.wf = true ∧
    (burstAt .copyOut 126).base % 256 = 0 ∧ (burstAt .copyOut 126).base + 256 ≤ memorySize ∧
    (burstAt .copyOut 0).buffer = some 0 ∧ (burstAt .delivery 0).kind = .delivery ∧
    (burstAt .blankFill 0).kind = .blankFill ∧ ((boundIn .dirty).buffer 0).length = 256 := by
  decide +kernel

theorem witness_LastWordOfBurst :
    (working .idle .fill .inEngine .filling).power = .running ∧ (burstAt .delivery 127).words = 127 ∧
    (working .idle .fill .inEngine .filling).entry? x0 = some (entryIn .filling) ∧
    (burstAt .delivery 127).record = some 0 ∧
    (working .idle .fill .inEngine .filling).record? 0 = some (recordOf .fill .inEngine) ∧
    (recordOf .fill .inEngine).owner = some x0 ∧
    (working .positioning .writeback .selected .copying).record? 0 = some (recordOf .writeback .selected) ∧
    (entryIn .copying).state = .copying ∧ (burstAt .blankFill 127).served = some x0 ∧
    (boundIn .filling).binding? x0.win = some b0 := by decide +kernel

/-- The hand-out of a delivery's record: to a stamp wait, to the Backlog List, to read-ahead; and of its
buffer. -/
theorem witness_LastWordOfBurst_hand_out :
    let s := bursting .delivery 127 (working .idle .fill .inEngine .filling)
    let t := s.modEngine 0 fun e => { e with current := none }
    let waits := { t with pool := { t.pool with stampWaits := [2] } }
    let listed := ({ t with pool := { t.pool with backlog := [⟨0, 1⟩] } }).modEntry ⟨0, 1⟩ fun e =>
      { e with state := .dirty, dirtySince := some 5 }
    s.bursts.behind = [] ∧ s.bursts.queue = [] ∧ s.bufWait = [] ∧ s.memory.wf = true ∧
    (∀ d, (t.engine d).current ≠ some 0) ∧ waits.pool.stampWaits = [2] ∧
    listed.pool.stampWaits = [] ∧ listed.pool.backlog = [] ++ ⟨0, 1⟩ :: [] ∧
    (listed.entry? ⟨0, 1⟩).map Entry.addr = some (b0.diskAddr 1) ∧
    (∀ r, r ≠ 0 → ∀ q ∈ listed.record? r, q.names (b0.diskAddr 1) = false) ∧
    t.pool.backlog = [] ∧ 8 ≤ t.freeCount ∧ b0.fresh = false ∧ (t.volume 0).state = .attached ∧
    (t.window 0).isBound = true ∧ (t.entry? ⟨0, 1⟩).map Entry.state = some .absent := by
  decide +kernel

theorem witness_LastWordOfBurst_buffer :
    let s := bursting .delivery 127 (working .idle .fill .inEngine .filling)
    let t := (buffersTaken s).modRecord 10 fun q => { q with buffer := none, kind := .stampRead }
    let u := { (t.modEngine 0 fun e => { e with current := none }).modEngine 2 fun e =>
      { e with state := .waitBuffer, current := some 10 } with bufWait := [2] }
    (recordOf .fill .inEngine).buffer = some 0 ∧ (burstAt .delivery 127).buffer = some 0 ∧
    (∀ p, p ≠ 0 → ∀ q ∈ u.record? p, q.buffer ≠ some 0) ∧
    (∀ j, j ≠ 0 → u.bufferFree j = false) ∧ u.bufWait = [2] ∧ (u.engine 2).state = .waitBuffer ∧
    (u.engine 2).current = some 10 ∧ (u.record? 10).isSome = true ∧
    (∀ d, (u.engine d).current ≠ some 0) := by decide +kernel

/-- A copy-out whose engine stands in place, with the channel free and taken, and one whose engine seeks. -/
theorem witness_LastWordOfBurst_copy_out :
    let s := bursting .copyOut 127 (working .positioning .writeback .selected .copying)
    let t := s.modEngine 0 fun e => { e with motion := .seeking, target := 1 }
    s.entry? x0 = some (entryIn .copying) ∧ (s.engine 0).motion = .still ∧
    (t.engine 0).current = some 0 ∧ (t.engine 0).state = .positioning ∧ (t.engine 0).motion = .seeking ∧
    (t.engine 0).cyl = some (t.engine 0).target ∧ (t.engine 0).wait = 0 ∧ t.chan.owner = none ∧
    t.chan.queue = [] ∧
    ¬(({ t with chan := { owner := some 3, queue := [] } } : State).chan.owner = none) := by decide +kernel

/-- A blank fill in a STAGED, in a BOUND DIRECT and in a BOUND GATHERED window, and with the pool full. -/
theorem witness_LastWordOfBurst_blank :
    let s := bursting .blankFill 127 (stagedIn none .filling)
    let t := bursting .blankFill 127 (boundIn .filling)
    let g := withWindow (.bound { b0 with gathered := true } (entriesIn .filling)) .attached
    (burstAt .blankFill 127).served = some x0 ∧ s.entry? x0 = some (entryIn .filling) ∧
    (s.window 0).isStaged = true ∧ (t.window 0).isStaged = false ∧ t.binding? 0 = some b0 ∧
    b0.gathered = false ∧ (t.volume 0).state = .attached ∧ t.opOf x0 = none ∧ x0 ∉ t.pool.backlog ∧
    t.sectorTaken (entryIn .filling).addr = false ∧ t.freeRecord? = some 0 ∧
    (fullPool t).freeRecord? = none ∧ g.binding? 0 = some { b0 with gathered := true } ∧
    ((withWindow (.bound b0 (entriesIn .filling)) .mismatch).volume 0).state ≠ .attached := by
  decide +kernel

theorem witness_CoarseClockAdvances :
    State.reset.power ≠ .off ∧ State.reset.clock.due.sweep = false ∧ State.reset.sweep.enabled = true ∧
    State.reset.sweep.counter < State.reset.sweep.current ∧
    ¬({ SweepTimer.reset with counter := 600 } : SweepTimer).counter < 600 ∧
    State.reset.calm 9999 = true ∧ State.reset.calm 10000 = false ∧
    (State.reset.setEngine 0 (engineIn .idle)).calm 9999 = true ∧
    (after .supplyDip State.reset).longDipIn? (10000 - 0) = some 2000 ∧
    (State.reset.longDipIn? 10000).isNone = true ∧
    (after .reset State.reset).power ≠ .off ∧ (after .reset State.reset).power ≠ .running ∧
    (after (.mainSupplyFailure none) State.reset).power = .off := by decide +kernel

/-- Every judgement is due. -/
def allDue (s : State) : State :=
  { s with clock := { s.clock with
      due := { sweep := true, expiry := true, promote := true, deadline := true } } }

theorem witness_judgements_due :
    (allDue State.reset).power = .running ∧ (allDue State.reset).clock.due.expiry = true ∧
    (allDue State.reset).clock.due.sweep = true ∧ (allDue State.reset).clock.due.promote = true ∧
    (allDue State.reset).clock.due.deadline = true ∧ State.reset.clock.due.expiry = false := by
  decide +kernel

theorem witness_SweepRequestsGatheredChanges :
    let s := allDue (withWindow (.bound { b0 with gathered := true } (entriesIn .dirty)) .attached)
    s.entry? x0 = some (entryIn .dirty) ∧ s.binding? 0 = some { b0 with gathered := true } ∧
    (s.volume 0).state = .attached := by decide +kernel

theorem witness_AgePromotionMakesUrgent :
    let s := { working .idle .writeback .waiting .dirty with
      clock := { tick := 0, coarse := 1205, toCoarse := 0, due := { Due.none with promote := true } } }
    s.ageLimit ≠ 0 ∧ s.entry? x0 = some (entryIn .dirty) ∧ (entryIn .dirty).urgent = false ∧
    s.ageLimit.toNat ≤ (entryIn .dirty).age s.clock.coarse ∧ s.opOf x0 = some 0 ∧
    s.record? 0 = some (recordOf .writeback .waiting) := by decide +kernel

theorem witness_SecureDeadlinesPass :
    let s := { (boundIn .dirty).setSlot 2 { Slot.reset with state := .active, deadline := 10 } with
      clock := { tick := 0, coarse := 10, toCoarse := 0, due := { Due.none with deadline := true } } }
    (s.slot 2).state = .active ∧ (s.slot 2).deadline ≠ 0 ∧
    (s.slot 2).deadline.toNat ≤ since s.clock.coarse (s.slot 2).start ∧
    s.entry? x0 = some (entryIn .dirty) := by decide +kernel

theorem witness_ReportsAndSettings :
    State.reset.power = .running ∧ (31 : Byte).toNat < 32 ∧ 32 ≤ (32 : Byte).toNat ∧
    (0 : Byte) = State.reset.events.readTag ∧ (1 : Byte) ≠ State.reset.events.readTag ∧
    (3 : Byte).toNat = (3 : DriveIx).val ∧ 3 < (4 : Byte).toNat := by decide +kernel

theorem witness_BindMakesWindowBound :
    (15 : Byte).toNat = (15 : WinIx).val ∧ 15 < (16 : Byte).toNat ∧ State.reset.window 15 = .unbound ∧
    (bindingOf? (runRecord 20 0 8 2 24)).isSome ∧ bindingOf? (runRecord 20 0 8 2 0) = none ∧
    (bindingOf? (runRecord 20 0 8 2 24)).map (State.reset.conflicts 15) = some false ∧
    (bindingOf? { runRecord 20 0 8 2 24 with page := 16 }).map ((boundIn .clean).conflicts 15) = some true ∧
    (boundIn .clean).window 0 ≠ .unbound := by decide +kernel

theorem witness_StageAndReleaseStartTheDrain :
    (stagedIn (some b1) .dirty).window 0 = .staged b0 (some b1) (entriesIn .dirty) ∧
    (boundIn .dirty).window 0 = .bound b0 (entriesIn .dirty) ∧ (0 : Byte).toNat = (0 : WinIx).val ∧
    (bindingOf? (runRecord 9 0 0 1 4)).map ((boundIn .dirty).conflicts 0) = some false ∧
    (entriesIn .dirty)[0]? = some (entryIn .dirty) ∧ (entryIn .dirty).state = .dirty := by decide +kernel

/-- A dirty entry with its write-back, a waiting fill, and a blank fill that waits behind a running burst. -/
theorem witness_StageAndReleaseStartTheDrain_records :
    let d := (boundIn .dirty).makeRecord 0 (recordOf .writeback .waiting)
    let f := (boundIn .queued).makeRecord 0 (recordOf .fill .waiting)
    let b := { bursting .delivery 3 (boundIn .filling) with bursts := { BurstUnit.reset with
      running := some (burstAt .delivery 3), queue := [burstAt .blankFill 0] } }
    d.opOf x0 = some 0 ∧ d.record? 0 = some (recordOf .writeback .waiting) ∧ x0 ∉ d.pool.backlog ∧
    d.window 0 = .bound b0 (entriesIn .dirty) ∧ (boundIn .dirty).opOf x0 = none ∧
    ((after (.release 0) (boundIn .dirty)).opOf x0).isSome = true ∧
    f.window 0 = .bound b0 (entriesIn .queued) ∧ f.opOf x0 = some 0 ∧
    f.record? 0 = some (recordOf .fill .waiting) ∧ (0 : RecIx) ∈ f.pool.order ∧
    b.window 0 = .bound b0 (entriesIn .filling) ∧ b.bursts.running ≠ none ∧
    burstAt .blankFill 0 ∈ b.bursts.queue ∧ (burstAt .blankFill 0).served = some x0 := by decide +kernel

theorem witness_ForceNeedsStagedWindow :
    ((stagedIn none .dirty).window 0).isStaged = true ∧ ((boundIn .dirty).window 0).isStaged = false ∧
    (State.reset.window 15).isStaged = false ∧ 15 < (16 : Byte).toNat := by decide +kernel

theorem witness_SwapReplacesBinding :
    ((stagedIn none .dirty).window 0).quiet = false ∧
    (stagedIn (some b1) .clean).window 0 = .staged b0 (some b1) (entriesIn .clean) ∧
    (∀ e ∈ entriesIn .clean, e.state.isQuiet = true) := by decide +kernel

theorem witness_ForceAndDiscardGiveUpEntries :
    (stagedIn (some b1) .dirty).binding? 0 = some b0 ∧ (boundIn .dirty).binding? 0 = some b0 ∧
    (stagedIn (some b1) .dirty).window 0 = .staged b0 (some b1) (entriesIn .dirty) ∧
    0 < (boundIn .dirty).dirtyCount 0 ∧ (boundIn .clean).dirtyCount 0 = 0 := by decide +kernel

/-- Slot 0 is ACTIVE with its mark on the first sector of window 0, `left` marks left in all. -/
def securing (left : Nat) (s : State) : State :=
  (s.modEntry x0 fun e => { e with marks := 1, urgent := true }).setSlot 0
    { Slot.reset with state := .active, target := 1, taken := left, remaining := left }

/-- Marks that end their slot and marks that leave it ACTIVE, and a record that is detached. -/
theorem witness_ForceAndDiscardGiveUpEntries_marks :
    ((securing 1 (boundIn .dirty)).slot 0).state = .active ∧
    ((securing 1 (boundIn .dirty)).window 0).entries.countP
      (fun e => e.state.isDirty && e.marks.getLsbD 0) = 1 ∧
    ((securing 1 (boundIn .dirty)).slot 0).remaining = 1 ∧
    ((securing 2 (boundIn .dirty)).slot 0).remaining = 2 ∧
    (0 : RecIx) ∈ (working .writing .writeback .inEngine .writing).pool.order ∧
    (working .writing .writeback .inEngine .writing).record? 0 = some (recordOf .writeback .inEngine) ∧
    (recordOf .writeback .inEngine).owner = some x0 ∧
    (working .writing .writeback .inEngine .writing).endsAtForce 0 = false := by decide +kernel

theorem witness_SecureMarksTheTarget :
    ((boundIn .dirty).judgeSecure 1 true).toOption = some 0 ∧
    (boundIn .dirty).entry? x0 = some (entryIn .dirty) ∧
    (∀ k, (({ boundIn .dirty with slots := Vector.replicate 4 { Slot.reset with state := .active } } :
      State).slot k).state ≠ .free) := by decide +kernel

theorem witness_SecureStatusFreesDoneSlot :
    3 < (4 : Byte).toNat ∧ (3 : Byte).toNat = (3 : SlotIx).val ∧ (State.reset.slot 3).state = .free ∧
    SlotState.doneLate.isDone = true := by decide +kernel

theorem witness_HoldStopsAndRunResumes :
    let s := working .waitChannel .writeback .selected .writing
    (s.engine 0).state ∈ [EngineState.waitBuffer, .positioning, .waitChannel] ∧
    (s.engine 0).current = some 0 ∧ s.record? 0 = some (recordOf .writeback .selected) ∧
    (recordOf .writeback .selected).detached = false ∧ (∀ d, d ≠ 0 → (s.engine d).current ≠ some 0) ∧
    (recordOf .writeback .selected).owner = some x0 ∧ s.entry? x0 = some (entryIn .writing) ∧
    (entryIn .writing).state.inWriteback = true := by decide +kernel

theorem witness_AdoptTakesPresentVolume :
    let s := withWindow (.bound b0 (entriesIn .stranded)) .mismatch
    (s.volume 0).state = .mismatch ∧ (State.reset.volume 0).state ≠ .mismatch ∧
    s.entry? x0 = some (entryIn .stranded) ∧ s.binding? 0 = some b0 ∧ b0.gathered = false := by
  decide +kernel

theorem witness_RetryRevivesFailures :
    (boundIn .unwritten).entry? x0 = some (entryIn .unwritten) ∧ (boundIn .unwritten).binding? 0 = some b0 ∧
    b0.drive = 0 ∧ ((boundIn .unwritten).volume 0).state = .attached := by decide +kernel

def formatOne : FormatParams := { formatOf slotNineBad with drive := 0, cylinder := 1 }

theorem witness_FormatIsJudgedAndQueued :
    formatParamsGood formatOne = true ∧ formatParamsGood { formatOne with cylinder := 77 } = false ∧
    formatParamsGood (formatOf slotNineBad) = true ∧ formatOne.drive.toNat = (0 : DriveIx).val ∧
    (State.reset.volume 0).state = .empty ∧ (State.reset.setVolume 0 volume0).formatClaimed 0 formatOne = false ∧
    (State.reset.setVolume 0 volume0).formatQueued 0 formatOne = false ∧
    (boundIn .clean).formatClaimed 0 formatOne = true ∧
    (State.reset.setVolume 0 volume0).freeRecord? = some 0 := by decide +kernel

theorem witness_FormatIsJudgedAndQueued_evicted :
    let s := prefetchOnly (boundIn .clean)
    let p := { formatOne with cylinder := 2 }
    formatParamsGood p = true ∧ (s.volume 0).state ≠ .empty ∧ s.formatClaimed 0 p = false ∧
    s.formatQueued 0 p = false ∧ s.freeRecord? = none ∧ s.evictable? = some 47 ∧
    (fullPool (boundIn .clean)).evictable? = none ∧ (fullPool (boundIn .clean)).freeRecord? = none ∧
    (s.record? 47).bind Record.owner = some ⟨0, 1⟩ ∧ (s.entry? ⟨0, 1⟩).map Entry.state = some .queued ∧
    (s.engine 1).ready = false := by decide +kernel

theorem witness_ReadyRiseStartsStampRead :
    (State.reset.engine 1).ready = false ∧ (engineIn .idle).ready = true ∧
    (after .reset State.reset).power ≠ .running ∧ (fullPool State.reset).freeRecord? = none ∧
    (fullPool State.reset).evictable? = none := by decide +kernel

theorem witness_ReadyFallStrandsChanges :
    ((boundIn .redirty).volume 0).state ≠ .empty ∧ (State.reset.volume 0).state = .empty ∧
    (boundIn .redirty).entry? x0 = some (entryIn .redirty) ∧ (boundIn .redirty).binding? 0 = some b0 ∧
    (entryIn .redirty).state.inWriteback = true := by decide +kernel

theorem witness_IndexPulseMeasuresPeriod :
    (engineIn .idle).newer = none ∧ since 18400 0 = 18400 ∧ ¬(since 18401 0 ≤ 18400) ∧
    15000 ≤ since 15000 0 ∧ (engineIn .idle).bad < 3 ∧ (engineIn .idle).lostTimer = some 0 ∧
    36800 ≤ 0 + 36800 ∧ (after .supplyDip State.reset).longDipIn? 2001 = some 2000 ∧
    (after .supplyDip State.reset).longDipIn? 2000 = none ∧ State.reset.longDipIn? 36800 = none := by
  decide +kernel

theorem witness_FormatWritesTrackBetweenIndexes :
    let s := working .formatting .format .inEngine .clean
    s.power = .running ∧ s.settled = true ∧ (s.engine 0).ready = true ∧ (s.engine 0).bad < 3 ∧
    (s.engine 0).state = .formatting ∧ (s.engine 0).current = some 0 ∧
    s.record? 0 = some (recordOf .format .inEngine) ∧ (recordOf .format .inEngine).format = some formatOne ∧
    (s.engine 0).formatOn = false ∧ (s.engine 0).protect = false ∧ isStampTrack formatOne = false ∧
    isStampTrack (formatOf slotNineBad) = true := by decide +kernel

/-- A format at its first index after 16,667 ticks, one on a protected disk, and one whose track is laid
down, of the stamp track too. -/
theorem witness_FormatWritesTrackBetweenIndexes_moments :
    let s := working .formatting .format .inEngine .clean
    let t := s.passTime 16667
    let protectedOne := (s.modEngine 0 fun e => { e with protect := true }).passTime 16667
    let laid := (s.modEngine 0 fun e => { e with gate := true, formatOn := true, formatSlot := 1041 })
    let stamp := laid.modRecord 0 fun q => { q with format := some (formatOf slotNineBad) }
    (t.engine 0).ready = true ∧ (t.engine 0).state = .formatting ∧ (t.engine 0).current = some 0 ∧
    t.record? 0 = some (recordOf .format .inEngine) ∧ (t.engine 0).formatOn = false ∧
    (t.engine 0).protect = false ∧ (protectedOne.engine 0).protect = true ∧
    (protectedOne.engine 0).state = .formatting ∧ laid.settled = true ∧
    ((laid.passTime 16667).engine 0).formatOn = true ∧
    ((laid.passTime 16667).engine 0).state = .formatting ∧ stamp.settled = true ∧
    ((stamp.passTime 16667).engine 0).formatOn = true ∧ (1 : Byte).toNat ∈ [1, 3, 5, 7] := by
  decide +kernel

theorem witness_DriveFaultsHaltTheDrive :
    let s := State.reset.setEngine 0 { engineIn .recalibrating with
      bad := 3, motion := .recal, recalSteps := 80, lostTimer := some 36800 }
    3 ≤ (s.engine 0).bad ∧ (s.engine 0).lostTimer ≠ none ∧ (s.engine 0).motion = .recal ∧
    (s.engine 0).track0 = false ∧ 80 ≤ (s.engine 0).recalSteps ∧ (engineIn .idle).bad < 3 ∧
    (State.reset.engine 0).lostTimer = none ∧ (engineIn .idle).motion ≠ .recal ∧
    (∀ r, (s.engine 0).current = some r → s.record? r ≠ none) ∧ s.clock.toCoarse + (36800 - 36800) < 10000 ∧
    (∀ d, d ≠ 0 → ∀ m ∈ (s.engine d).lostTimer, m < 36800) ∧ s.longDipIn? (36800 - 36800) = none ∧
    ((after .supplyDip State.reset).modEngine 0 fun e => { e with lostTimer := some 0 }).longDipIn?
      (36800 - 0) = some 2000 := by decide +kernel

theorem witness_HeadsUnloadAndStep :
    8 ≤ ({ engineIn .idle with idle := 8 } : Engine).idle ∧ (engineIn .idle).current = none ∧
    (engineIn .idle).idle < 8 ∧ (engineIn .idle).motion = .still ∧ (engineIn .idle).cyl = some 1 ∧
    (1 : Nat) ≠ ({ engineIn .positioning with motion := .seeking, target := 0 } : Engine).target ∧
    ({ engineIn .recalibrating with motion := .recal, recalSteps := 79 } : Engine).recalSteps < 80 := by
  decide

/-- Drive 0 with an engine, 800 ticks before its next step, 800 ticks of time passed, and the same with the
index lost on the way, which ends the motion. -/
theorem witness_HeadsUnloadAndStep_waits :
    let seek := State.reset.setEngine 0
      { engineIn .positioning with motion := .seeking, target := 0, wait := 800 }
    let recal := State.reset.setEngine 0
      { engineIn .recalibrating with motion := .recal, recalSteps := 79, wait := 800 }
    let lost := (working .positioning .fill .selected .filling).modEngine 0 fun e =>
      { e with motion := .seeking, target := 0, wait := 800, lostTimer := some 36000 }
    ((seek.passTime 800).engine 0).motion = .seeking ∧ ((seek.passTime 800).engine 0).cyl = some 1 ∧
    ((seek.passTime 800).engine 0).target = 0 ∧ ((recal.passTime 800).engine 0).motion = .recal ∧
    ((recal.passTime 800).engine 0).track0 = false ∧ ((recal.passTime 800).engine 0).recalSteps = 79 ∧
    (lost.engine 0).motion = .seeking ∧ (lost.engine 0).cyl = some 1 ∧
    ((lost.passTime 800).engine 0).motion = .still := by decide +kernel

theorem witness_RecalibrationAndPositioningEnd :
    let s := (working .positioning .writeback .selected .writing).modEngine 0 fun e =>
      { e with motion := .seeking, target := 1 }
    (s.engine 0).motion = .seeking ∧ (s.engine 0).cyl = some (s.engine 0).target ∧
    (s.engine 0).state = .positioning ∧ s.record? 0 = some (recordOf .writeback .selected) ∧
    (recordOf .writeback .selected).copied = true ∧ s.chan.owner = none ∧ s.chan.queue = [] ∧
    ({ engineIn .searching with motion := .recal, track0 := true } : Engine).motion = .recal := by
  decide +kernel

/-- A recalibration within an operation, one without, and both kinds of end cut off by a lost index. -/
theorem witness_RecalibrationAndPositioningEnd_waits :
    let inside := (working .searching .fill .inEngine .filling).modEngine 0 fun e =>
      { e with motion := .recal, track0 := true, wait := 1500 }
    let alone := State.reset.setEngine 0
      { engineIn .recalibrating with motion := .recal, track0 := true, wait := 1500 }
    let seek := (working .positioning .fill .selected .filling).modEngine 0 fun e =>
      { e with motion := .seeking, target := 1, wait := 1500 }
    let back := (working .searching .fill .inEngine .filling).modEngine 0 fun e =>
      { e with motion := .seeking, target := 1 }
    let cut (s : State) := (s.modEngine 0 fun e => { e with lostTimer := some 36000 }).passTime 1500
    ((inside.passTime 1500).engine 0).motion = .recal ∧ ((inside.passTime 1500).engine 0).track0 = true ∧
    ((inside.passTime 1500).engine 0).state = .searching ∧
    ((inside.passTime 1500).engine 0).current = some 0 ∧
    (inside.passTime 1500).record? 0 = some (recordOf .fill .inEngine) ∧
    ((alone.passTime 1500).engine 0).state = .recalibrating ∧
    ((alone.passTime 1500).engine 0).motion = .recal ∧
    ((seek.passTime 1500).engine 0).motion = .seeking ∧
    ((seek.passTime 1500).engine 0).state = .positioning ∧ (seek.passTime 1500).chan.owner = none ∧
    (back.engine 0).state = .searching ∧ (back.engine 0).cyl = some (back.engine 0).target ∧
    ((cut inside).engine 0).motion = .still ∧ ((cut seek).engine 0).motion = .still := by decide +kernel

theorem witness_SearchJudgesIdFields :
    let s := working .searching .writeback .inEngine .writing
    s.settled = true ∧ (s.engine 0).bad < 3 ∧ (s.engine 0).state = .searching ∧
    (s.engine 0).motion = .still ∧ (s.engine 0).searchPulses < 2 ∧ (s.engine 0).current = some 0 ∧
    s.record? 0 = some (recordOf .writeback .inEngine) ∧ idGood (id4 0) = true ∧ idGood (id4 1) = true ∧
    idGood { id4 0 with flags := 1 } = false ∧ (id4 0).cylinder.toNat = 1 ∧ (id4 0).side.toNat = 0 ∧
    (id4 0).sector.toNat = (recordOf .writeback .inEngine).sector.getD 0 ∧ (id4 0).size = 1 ∧
    (id4 1).flags.getLsbD 0 = true ∧ (id4 0).flags.getLsbD 0 = false ∧
    (s.volume 0).state = .attached ∧ (s.volume 0).protect = false ∧
    s.entry? x0 = some (entryIn .writing) ∧ (entryIn .writing).state.inWriteback = true := by
  decide +kernel

/-- The target of a fill and of a stamp read, and an ID field in VERIFYING. -/
theorem witness_SearchJudgesIdFields_others :
    let f := working .searching .fill .inEngine .filling
    let p := working .searching .stampRead .inEngine .clean
    let v := working .verifying .writeback .inEngine .writing
    f.settled = true ∧ f.record? 0 = some (recordOf .fill .inEngine) ∧ (f.engine 0).dataHeld = false ∧
    f.entry? x0 = some (entryIn .filling) ∧ p.settled = true ∧
    p.record? 0 = some (recordOf .stampRead .inEngine) ∧ (id4 1).flags.getLsbD 0 = true ∧
    v.settled = true ∧ (v.engine 0).state = .verifying ∧ (v.engine 0).current = some 0 ∧
    (idOf 1 0 5 0 0).sector.toNat ≠ (recordOf .writeback .inEngine).sector.getD 0 := by decide +kernel

theorem witness_FailedAttemptsAreCounted :
    let s := (working .searching .fill .inEngine .filling).modEngine 0 fun e => { e with searchPulses := 2 }
    (s.engine 0).current = some 0 ∧ s.record? 0 = some (recordOf .fill .inEngine) ∧
    (s.engine 0).state = .searching ∧ (s.engine 0).motion = .still ∧ 2 ≤ (s.engine 0).searchPulses ∧
    (recordOf .fill .inEngine).attempts + 1 < (s.engine 0).retries ∧
    (({ s.engine 0 with retries := 1 } : Engine).retries ≤ (recordOf .fill .inEngine).attempts + 1) ∧
    (s.engine 0).dataHeld = false ∧ s.entry? x0 = some (entryIn .filling) ∧
    (s.engine 0).idFound = false := by decide +kernel

/-- A verify that has seen two pulses, one whose ID field is found, and a read: the ways of an attempt to
fail beside a miss; and a fill with data held under each error policy. -/
theorem witness_FailedAttemptsAreCounted_others :
    let v := (working .verifying .writeback .inEngine .writing).modEngine 0 fun e =>
      { e with searchPulses := 2, retries := 1, halt := true }
    let w := v.modEngine 0 fun e => { e with idFound := true }
    let r := (working .reading .fill .inEngine .filling).modEngine 0 fun e =>
      { e with retries := 1, dataHeld := true }
    let deliver := r.setWindow 0 (.bound { b0 with deliver := true } (entriesIn .filling))
    (v.engine 0).state = .verifying ∧ (v.engine 0).idFound = false ∧ 2 ≤ (v.engine 0).searchPulses ∧
    (v.engine 0).retries ≤ (recordOf .writeback .inEngine).attempts + 1 ∧
    v.entry? x0 = some (entryIn .writing) ∧ (w.engine 0).idFound = true ∧
    (r.engine 0).state = .reading ∧ (r.engine 0).dataHeld = true ∧ r.binding? 0 = some b0 ∧
    b0.deliver = false ∧ deliver.binding? 0 = some { b0 with deliver := true } ∧
    (∀ d, d ≠ 0 → (r.engine d).current ≠ some 0) ∧ r.placeHeld 0 = false ∧ r.pendingBehind 0 = false ∧
    r.bursts.running = none ∧ r.bursts.queue = [] ∧ (recordOf .stampRead .inEngine).kind = .stampRead ∧
    (working .reading .stampRead .inEngine .clean).record? 0 = some (recordOf .stampRead .inEngine) := by
  decide +kernel

theorem witness_DataFieldIsReadAndJudged :
    let s := working .reading .fill .inEngine .filling
    (s.engine 0).state = .reading ∧ (s.engine 0).current = some 0 ∧
    s.record? 0 = some (recordOf .fill .inEngine) ∧ data0.length = 256 ∧ dataGood data0 crc0 = true ∧
    dataGood data0 (crc0 + 1) = false ∧ (recordOf .fill .inEngine).phase = .inEngine ∧
    (recordOf .fill .inEngine).owner = some x0 ∧ (recordOf .fill .inEngine).buffer = some 0 ∧
    s.entry? x0 = some (entryIn .filling) ∧ s.placeHeld 0 = false ∧ s.pendingBehind 0 = false ∧
    s.bursts.running = none ∧ s.bursts.queue = [] := by decide +kernel

/-- A stamp as FORMAT writes it, and a sector that is none. -/
theorem witness_DataFieldIsReadAndJudged_stamp :
    (working .reading .stampRead .inEngine .clean).record? 0 = some (recordOf .stampRead .inEngine) ∧
    (stampOf? (stampBytes (formatOf slotNineBad) ++ List.replicate 245 0x40)).map Stamp.volumeId =
      some 0x00020001 ∧ stampOf? data0 = none := by decide +kernel

theorem witness_WriteBackEndsOnDisk :
    let s := (working .writing .writeback .inEngine .redirty).modEngine 0 fun e => { e with gate := true }
    (s.engine 0).current = some 0 ∧ s.record? 0 = some (recordOf .writeback .inEngine) ∧
    (recordOf .writeback .inEngine).buffer = some 0 ∧ (recordOf .writeback .inEngine).owner = some x0 ∧
    s.entry? x0 = some (entryIn .redirty) ∧ (s.engine 0).state = .writing ∧
    (recordOf .writeback .inEngine).verify = false ∧ (s.engine 0).gate = true ∧
    (entryIn .redirty).state.inWriteback = true ∧
    (recordOf .writeback .inEngine).attempts + 1 < (s.engine 0).retries := by decide +kernel

/-- A write that is to be read back, its read-back, and the write fault of a FORMAT. -/
theorem witness_WriteBackEndsOnDisk_verify :
    let s := (working .writing .writeback .inEngine .writing).modRecord 0 fun q => { q with verify := true }
    let v := (working .verifying .writeback .inEngine .writing).modEngine 0 fun e => { e with idFound := true }
    let w := v.modEngine 0 fun e => { e with retries := 1, halt := true }
    let f := (working .formatting .format .inEngine .clean).modEngine 0 fun e => { e with gate := true }
    (s.engine 0).state = .writing ∧ (s.record? 0).map Record.verify = some true ∧
    (v.engine 0).state = .verifying ∧ (v.engine 0).idFound = true ∧
    v.record? 0 = some (recordOf .writeback .inEngine) ∧ v.entry? x0 = some (entryIn .writing) ∧
    data0.length = 256 ∧ dataGood data0 crc0 = true ∧ dataGood data0 (crc0 + 1) = false ∧
    (w.engine 0).retries ≤ (recordOf .writeback .inEngine).attempts + 1 ∧
    (f.engine 0).state = .formatting ∧ (f.engine 0).gate = true ∧ (f.engine 0).current = some 0 ∧
    f.record? 0 = some (recordOf .format .inEngine) ∧
    (recordOf .format .inEngine).format = some formatOne ∧ f.bufWait = [] ∧
    ((working .formatting .format .inEngine .clean).engine 0).gate = false := by decide +kernel

theorem witness_DipsStopAndResume :
    State.reset.supplyLow = false ∧ State.reset.power = .running ∧ State.reset.store.dipTimer = none ∧
    (after .supplyDip State.reset).supplyLow = true ∧ (after .supplyDip State.reset).power = .running ∧
    (after .supplyDip State.reset).store.dipTimer = some 0 ∧
    (after .reset State.reset).power = .inReset false false := by decide +kernel

theorem witness_WarmResetRecordsDirtyEntries :
    (boundIn .dirty).power = .running ∧ (boundIn .dirty).store.list.length ≤ 32 ∧
    (boundIn .dirty).store.overflow ≤ 255 ∧
    (after .supplyDip (boundIn .dirty)).store.dipTimer ≠ none ∧
    (after .supplyDip (boundIn .dirty)).longDipIn? 2001 = some 2000 ∧
    (after .supplyDip (boundIn .dirty)).calm 2000 = true ∧
    (after .reset (boundIn .dirty)).power = .inReset false true := by decide +kernel

theorem witness_ResetEndsAndPowerComesAndGoes :
    (after .reset (boundIn .dirty)).power = .inReset false true ∧
    (after .reset (boundIn .dirty)).heldCycles = [] ∧
    (∀ w, (after .reset (boundIn .dirty)).window w = .unbound) ∧ State.reset.power = .running ∧
    (after (.powerUp false) State.reset).power = .inReset true false ∧ State.reset.store.valid = true ∧
    (after .reset (boundIn .dirty)).bursts = BurstUnit.reset ∧
    (after (.upstreamCycle (cycle 7 .readByte 0)) (after .reset (boundIn .dirty))).heldCycles =
      [cycle 7 .readByte 0] := by
  decide +kernel

/-- Each judgement of a message at its edge: 32 and 33 parameters announced, one parameter too few. -/
theorem witness_LinkMessagesAreJudged :
    (0xB0 : Byte).toNat = 2 * (0x58 + State.reset.strap.toNat) ∧
    (0xB2 : Byte).toNat ≠ 2 * (0x58 + State.reset.strap.toNat) ∧ 32 < (33 : Byte).toNat ∧
    (32 : Byte).toNat ≤ 32 ∧ [(7 : Byte)].length < (2 : Byte).toNat ∧ commandLength 0x02 = none ∧
    commandLength 0x31 = some 1 ∧ (2 : Byte).toNat ≠ 1 ∧
    linkCommand [0x31, 1, 3] = .ok (.run 3) := by decide +kernel

theorem witness_LinkCommandsReadBack :
    (Instr.format (formatOf slotNineBad)).WellFormed = true ∧
    ((Instr.format (formatOf slotNineBad)).linkBytes?.map List.length) = some 30 ∧
    Instr.linkBytes? (.run 3) = some [0x31, 1, 3] := by decide +kernel

theorem witness_invariants_at_reset :
    Memory.wf State.reset.memory = true ∧ State.reset.windowsWf = true ∧ State.reset.windowsApart = true ∧
    State.reset.marksAgree = true ∧ State.reset.inRange = true ∧ State.reset.handedOnce = true := by
  decide +kernel

/-- The invariants hold as well in a state in which an engine works and an entry carries changes. -/
theorem witness_invariants_at_work :
    let s := working .writing .writeback .inEngine .redirty
    s.windowsWf = true ∧ s.windowsApart = true ∧ s.marksAgree = true ∧ s.inRange = true ∧
    s.handedOnce = true := by decide +kernel

/-- An ACTIVE slot with its mark on one entry. -/
theorem witness_SecureCountsStayRight :
    let s := securing 1 (boundIn .dirty)
    s.windowsWf = true ∧ s.marksAgree = true ∧ (s.slot 0).state = .active ∧
    (s.entry? x0).map Entry.marks = some 1 ∧ s.markCount 0 = 1 := by decide +kernel

theorem witness_DirtyEntriesAreNeverLost :
    (Instr.readyLineFall 0).mayEndDirty = false ∧ (boundIn .dirty).entry? x0 = some (entryIn .dirty) ∧
    (Instr.sweep).mayWriteMemory = false ∧ (Instr.sweep).mayClearFlags = false ∧
    (Instr.coarseClockAdvance).mayEndDirty = false ∧ (Instr.coarseClockAdvance).mayClearFlags = false ∧
    (EventUnit.reset.raise .sweep).flags.getLsbD 11 = true := by decide +kernel

theorem witness_CostIsBounded :
    driveA.inRange = true ∧ driveA.cyl = some 20 ∧ (20 : Nat) ≤ 76 := by decide

end Sys2Proof.Tests
end

section
/-! SUPPORT. The ranges of O57 as one predicate with room for ticks, and the rule of each update for it. -/

namespace Sys2Proof.Machine

open Sys2Proof

/-! ## The ranges of an engine -/

/-- The part of `Engine.inRange` that does not speak of the hold set. -/
def Engine.countsInRange (e : Engine) : Prop :=
  (15000 ≤ e.period ∧ e.period ≤ 18400) ∧ (3 ≤ e.stepMs ∧ e.stepMs ≤ 15) ∧
    (1 ≤ e.retries ∧ e.retries ≤ 8) ∧ e.bad ≤ 3 ∧ e.idle ≤ 8

theorem Engine.inRange_iff (e : Engine) :
    e.inRange = true ↔ e.countsInRange ∧ (e.state = .notReady ↔ e.door = true) := by
  have door : decide (e.state = .notReady) = e.door ↔ (e.state = .notReady ↔ e.door = true) := by
    rw [Bool.eq_iff_iff, decide_eq_true_eq]
  simp only [Engine.inRange, Engine.countsInRange, Bool.and_eq_true, decide_eq_true_eq, beq_iff_eq,
    and_assoc, door]

/-- An engine in range whose state is not NOT-READY may take any other such state: DOOR is clear. -/
theorem Engine.inRange_work {e : Engine} (h : e.inRange = true) (now : e.state ≠ .notReady)
    {st : EngineState} (next : st ≠ .notReady) : { e with state := st }.inRange = true := by
  obtain ⟨counts, door⟩ := e.inRange_iff.mp h
  exact (Engine.inRange_iff _).mpr ⟨counts, iff_of_false next (mt door.mpr now)⟩

/-- An engine whose DOOR hold is clear may take any state but NOT-READY. -/
theorem Engine.inRange_doorless {e : Engine} (h : e.inRange = true) (door : e.door = false)
    {st : EngineState} (next : st ≠ .notReady) : { e with state := st }.inRange = true :=
  (Engine.inRange_iff _).mpr ⟨(e.inRange_iff.mp h).1, iff_of_false next (by simp [door])⟩

/-- The idle index count may return to 0 at any time (R90). -/
theorem Engine.inRange_rested {e : Engine} (h : e.inRange = true) : { e with idle := 0 }.inRange = true := by
  simp_all [Engine.inRange_iff, Engine.countsInRange]

theorem Engine.restState_eq_notReady (e : Engine) : e.restState = .notReady ↔ e.door = true := by
  unfold Engine.restState
  (repeat' split) <;> simp_all

/-- The state that the hold set gives is in range whatever the state before it was (R83). -/
theorem Engine.inRange_rest {e : Engine} (h : e.inRange = true) :
    { e with state := e.restState }.inRange = true :=
  (Engine.inRange_iff _).mpr ⟨(e.inRange_iff.mp h).1, e.restState_eq_notReady⟩

theorem Engine.door_of_unheld {e : Engine} (h : e.unheld = true) : e.door = false := by
  simp_all [Engine.unheld]

theorem Engine.beginSeek_inRange (e : Engine) (c side : Nat) : (e.beginSeek c side).inRange = e.inRange := by
  unfold Engine.beginSeek
  split <;> rfl

theorem Engine.beginSeek_state (e : Engine) (c side : Nat) : (e.beginSeek c side).state = e.state := by
  unfold Engine.beginSeek
  split <;> rfl

theorem Engine.reset_inRange (ready track0 protect : Bool) :
    (Engine.reset ready track0 protect).inRange = true := by
  cases ready <;> rfl

/-! ## The ranges of the state -/

/-- The values of the sweep timer lie in the ranges of R143. -/
def SweepTimer.Ranged (t : SweepTimer) : Prop :=
  (1 ≤ t.current ∧ t.current ≤ 65536) ∧ (1 ≤ t.next ∧ t.next ≤ 65536) ∧
    (1 ≤ t.counter ∧ t.counter ≤ t.current) ∧ (t.enabled = true ∨ t.counter = 1)

/-- The Outage Store's counts and the dip timer lie in the ranges of R157 and R159. -/
def Store.Ranged (o : Store) : Prop :=
  o.list.length ≤ 32 ∧ o.overflow ≤ 255 ∧ ∀ n, o.dipTimer = some n → n ≤ 2000

/-- Every range of `State.inRange`, with fewer than `n` ticks since the latest coarse advance in place of
fewer than 10,000: while ticks pass, the advance that they bring comes after them. -/
def State.Ranged (n : Nat) (s : State) : Prop :=
  (1 ≤ s.path.deferLimit.toNat ∧ s.path.deferLimit.toNat ≤ 32767) ∧ s.sweep.Ranged ∧ s.store.Ranged ∧
    (1 ≤ s.link.response.length ∧ s.link.response.length ≤ 32) ∧ s.clock.toCoarse < n ∧
    ∀ d, (s.engine d).inRange = true

theorem State.engine_modEngine_self (s : State) (d : DriveIx) (f : Engine → Engine) :
    (s.modEngine d f).engine d = f (s.engine d) := by
  rw [State.modEngine_eq, State.engine_setEngine_self]

theorem mem_allDrives (d : DriveIx) : d ∈ allDrives := by
  fin_cases d <;> decide

theorem Path.reset_ranged : 1 ≤ Path.reset.deferLimit.toNat ∧ Path.reset.deferLimit.toNat ≤ 32767 := by
  decide

theorem SweepTimer.reset_ranged : SweepTimer.reset.Ranged := by
  unfold SweepTimer.Ranged
  decide

theorem State.inRange_iff (s : State) : s.inRange = true ↔ s.Ranged 10000 := by
  simp only [State.inRange, State.settingsInRange, State.Ranged, SweepTimer.Ranged, Store.Ranged,
    Bool.and_eq_true, Bool.or_eq_true, decide_eq_true_eq, List.all_eq_true, mem_allDrives,
    true_implies, Option.all_eq_true, and_assoc]

namespace State.Ranged

variable {n : Nat} {s : State}

theorem mono {m : Nat} (h : s.Ranged n) (hm : n ≤ m) : s.Ranged m := by
  obtain ⟨limit, sweep, store, link, ticks, engines⟩ := h
  exact ⟨limit, sweep, store, link, by omega, engines⟩

theorem ticks (h : s.Ranged n) : s.clock.toCoarse < n := by
  obtain ⟨-, -, -, -, ticks, -⟩ := h
  exact ticks

/-- The bound on the ticks may be taken as low as they stand. -/
theorem sharpen (h : s.Ranged n) : s.Ranged (s.clock.toCoarse + 1) := by
  obtain ⟨limit, sweep, store, link, -, engines⟩ := h
  exact ⟨limit, sweep, store, link, Nat.lt_succ_self _, engines⟩

/-! ## The parts of the state that no range speaks of -/

theorem bufWait (h : s.Ranged n) (l : List DriveIx) : { s with bufWait := l }.Ranged n := h

theorem chan (h : s.Ranged n) (c : Channel) : { s with chan := c }.Ranged n := h

theorem pool (h : s.Ranged n) (p : Pool) : { s with pool := p }.Ranged n := h

theorem bursts (h : s.Ranged n) (u : BurstUnit) : { s with bursts := u }.Ranged n := h

theorem diskOut (h : s.Ranged n) (o : Option DiskOut) : { s with diskOut := o }.Ranged n := h

theorem modVolume (h : s.Ranged n) (d : DriveIx) (f : Volume → Volume) : (s.modVolume d f).Ranged n := h

theorem setWindow (h : s.Ranged n) (w : WinIx) (x : Window) : (s.setWindow w x).Ranged n := h

theorem modEntry (h : s.Ranged n) (x : SectorRef) (f : Entry → Entry) : (s.modEntry x f).Ranged n := h

theorem setSlot (h : s.Ranged n) (k : SlotIx) (x : Slot) : (s.setSlot k x).Ranged n := h

theorem modRecord (h : s.Ranged n) (r : RecIx) (f : Record → Record) : (s.modRecord r f).Ranged n := h

theorem setBuffer (h : s.Ranged n) (b : BufIx) (x : List Byte) : (s.setBuffer b x).Ranged n := h

theorem raise (h : s.Ranged n) (e : Event) : (s.raise e).Ranged n := h

theorem makeRecord (h : s.Ranged n) (r : RecIx) (q : Record) : (s.makeRecord r q).Ranged n := h

theorem dropRecord (h : s.Ranged n) (r : RecIx) : (s.dropRecord r).Ranged n := h

theorem joinQueue (h : s.Ranged n) (u : Burst) : (s.joinQueue u).Ranged n := h

theorem takeBoundId (h : s.Ranged n) (d : DriveIx) : (s.takeBoundId d).Ranged n := h

theorem forgetWindow (h : s.Ranged n) (w : WinIx) : (s.forgetWindow w).Ranged n := h

theorem noteFormat (h : s.Ranged n) (d : DriveIx) (c : Option FormatCause) (q : Record) :
    (s.noteFormat d c q).Ranged n := h

theorem answered (h : s.Ranged n) (a : Answer) (o : Option ReadData) : (s.answered a o).Ranged n := h

theorem setDeferred (h : s.Ranged n) (tag : Tag) (o : Option DeferRecord) :
    (s.setDeferred tag o).Ranged n := h

theorem takeCommand (h : s.Ranged n) (c : Byte) (params : List Byte) : (s.takeCommand c params).Ranged n := h

/-! ## The parts that a range speaks of -/

theorem modEngine (h : s.Ranged n) (d : DriveIx) (f : Engine → Engine)
    (hf : (s.engine d).inRange = true → (f (s.engine d)).inRange = true) : (s.modEngine d f).Ranged n := by
  obtain ⟨limit, sweep, store, link, ticks, engines⟩ := h
  refine ⟨limit, sweep, store, link, ticks, fun d' => ?_⟩
  rw [State.modEngine_eq, State.engine_setEngine]
  split
  · exact hf (engines d)
  · exact engines d'

theorem mapEngines (h : s.Ranged n) (f : Engine → Engine)
    (hf : ∀ e, e.inRange = true → (f e).inRange = true) :
    { s with engines := s.engines.map f }.Ranged n := by
  obtain ⟨limit, sweep, store, link, ticks, engines⟩ := h
  refine ⟨limit, sweep, store, link, ticks, fun d => ?_⟩
  rw [State.engine, Fin.getElem_fin, Vector.getElem_map]
  exact hf _ (engines d)

theorem withSweep (h : s.Ranged n) {x : SweepTimer} (hx : x.Ranged) : { s with sweep := x }.Ranged n := by
  obtain ⟨limit, -, store, link, ticks, engines⟩ := h
  exact ⟨limit, hx, store, link, ticks, engines⟩

theorem withStore (h : s.Ranged n) {o : Store} (ho : o.Ranged) : { s with store := o }.Ranged n := by
  obtain ⟨limit, sweep, -, link, ticks, engines⟩ := h
  exact ⟨limit, sweep, ho, link, ticks, engines⟩

theorem withClock {m : Nat} (h : s.Ranged n) {c : Clock} (hc : c.toCoarse < m) :
    { s with clock := c }.Ranged m := by
  obtain ⟨limit, sweep, store, link, -, engines⟩ := h
  exact ⟨limit, sweep, store, link, hc, engines⟩

theorem withPath (h : s.Ranged n) {p : Path}
    (hp : 1 ≤ p.deferLimit.toNat ∧ p.deferLimit.toNat ≤ 32767) : { s with path := p }.Ranged n := by
  obtain ⟨-, sweep, store, link, ticks, engines⟩ := h
  exact ⟨hp, sweep, store, link, ticks, engines⟩

theorem sweep (h : s.Ranged n) : s.sweep.Ranged := by
  obtain ⟨-, sweep, -⟩ := h
  exact sweep

theorem store (h : s.Ranged n) : s.store.Ranged := by
  obtain ⟨-, -, store, -⟩ := h
  exact store

theorem respond (h : s.Ranged n) (r : Result) {data : List Byte} (hd : data.length ≤ 31) :
    (s.respond r data).Ranged n := by
  obtain ⟨limit, sweep, store, -, ticks, engines⟩ := h
  refine ⟨limit, sweep, store, ?_, ticks, engines⟩
  simp only [State.respond, List.length_cons]
  omega

/-- A command that is refused, or whose answer is DONE alone. -/
theorem respondAlone (h : s.Ranged n) (r : Result) : (s.respond r []).Ranged n := h.respond r (Nat.zero_le _)

/-! ## Branches, folds and commands -/

theorem ite {p : Prop} [Decidable p] {t : State} (hs : s.Ranged n) (ht : t.Ranged n) :
    (if p then s else t).Ranged n := by
  split
  · exact hs
  · exact ht

theorem foldl {α : Type} (h : s.Ranged n) (f : State → α → State)
    (hf : ∀ (t : State) (a : α), t.Ranged n → (f t a).Ranged n) (l : List α) : (l.foldl f s).Ranged n :=
  foldl_invariant (State.Ranged n) f hf l s h

theorem whileRunning (h : s.Ranged n) {f : State → State} (hf : s.Ranged n → (f s).Ranged n) :
    (s.whileRunning f).Ranged n := (hf h).ite h

end State.Ranged

end Sys2Proof.Machine
end

section
/-! SUPPORT. What the inner work of the part (records, bursts, buffers, engines, windows) does to the ranges. -/

namespace Sys2Proof.Machine

open Sys2Proof

namespace State.Ranged

variable {n : Nat} {s : State}

/-! ## Slots and the pool -/

theorem endSlot (h : s.Ranged n) (k : SlotIx) : (s.endSlot k).Ranged n := by
  unfold State.endSlot
  exact ((h.setSlot k _).raise _).ite h

theorem markGone (h : s.Ranged n) (failure : Bool) (k : SlotIx) : (s.markGone failure k).Ranged n :=
  ((h.setSlot k _).endSlot k).ite h

theorem marksGone (h : s.Ranged n) (failure : Bool) (marks : BitVec 4) :
    (s.marksGone failure marks).Ranged n :=
  h.foldl _ (fun _ k ht => (ht.markGone failure k).ite ht) _

theorem requestWrite (h : s.Ranged n) (x : SectorRef) (u : Urgency) : (s.requestWrite x u).Ranged n := by
  obtain e | ⟨r, -, -, e⟩ | ⟨y, -, -, -, -, e⟩ | ⟨y, r, -, -, -, -, -, -, e⟩ :=
    s.requestWrite_cases x u <;> rw [e] <;> exact h

theorem provide (h : s.Ranged n) (x : SectorRef) (retry : Bool) : (s.provide x retry).Ranged n := by
  obtain e | e | e := s.provide_cases x retry <;> rw [e]
  · exact h
  · exact h.requestWrite x .urgent
  · exact h.requestWrite x .normal

theorem evict (h : s.Ranged n) (r : RecIx) : (s.evict r).Ranged n := by
  unfold State.evict
  split <;> exact h

theorem makeOrEvict (h : s.Ranged n) {q : Record} {t : State} (e : s.makeOrEvict q = some t) :
    t.Ranged n := by
  obtain ⟨r, -, rfl⟩ | ⟨-, r, -, rfl⟩ := State.makeOrEvict_cases e
  · exact h.makeRecord r q
  · exact (h.evict r).makeRecord r q

theorem requestFill (h : s.Ranged n) (x : SectorRef) (e : Entry) : (s.requestFill x e).Ranged n := by
  unfold State.requestFill
  split
  · exact h
  · split
    · next t ht => exact (h.makeOrEvict ht).modEntry x _
    · exact h

theorem raiseFill (h : s.Ranged n) (x : SectorRef) : (s.raiseFill x).Ranged n := by
  unfold State.raiseFill
  split <;> exact h

theorem requestStamp (h : s.Ranged n) (d : DriveIx) : (s.requestStamp d).Ranged n := by
  unfold State.requestStamp
  split
  · next t ht => exact h.makeOrEvict ht
  · exact h.ite (h.pool _)

theorem handOut (h : s.Ranged n) (r : RecIx) : (s.handOut r).Ranged n := by
  obtain ⟨-, -, e⟩ | ⟨d, rest, -, e⟩ | ⟨x, y, -, -, -, e⟩ := s.handOut_cases r <;> rw [e]
  all_goals exact h

theorem readAhead (h : s.Ranged n) (w : WinIx) (k j : Nat) : (s.readAhead w k j).Ranged n := by
  induction k generalizing s j with
  | zero => exact h
  | succ k ih =>
    unfold State.readAhead
    split
    · split
      · exact h
      · split
        · exact h
        · split
          · exact ih h (j + 1)
          · split
            · exact h
            · split
              · exact h
              · next r _ => exact ih ((h.makeRecord r _).modEntry _ _) (j + 1)
    · exact h

/-! ## Bursts -/

theorem startNext (h : s.Ranged n) : s.startNext.Ranged n := by
  obtain e | ⟨u, rest, -, -, e⟩ := s.startNext_cases <;> rw [e] <;> exact h

theorem requestBurst (h : s.Ranged n) (q : BurstRequest) : (s.requestBurst q).Ranged n := by
  obtain e | e | ⟨u, -, e⟩ := s.requestBurst_cases q <;> rw [e]
  · exact h
  · exact h
  · exact (h.joinQueue u).startNext

theorem placeFreed (h : s.Ranged n) (d : DriveIx) : (s.placeFreed d).Ranged n := by
  unfold State.placeFreed
  split
  · exact h
  · dsimp only
    split <;> exact h

theorem endRunning (h : s.Ranged n) : s.endRunning.Ranged n := by
  unfold State.endRunning
  split
  · exact h
  · exact ((h.bursts _).placeFreed _).startNext

theorem withdraw (h : s.Ranged n) (p : Burst → Bool) : (s.withdraw p).Ranged n :=
  ((h.bursts _).foldl _ (fun _ u ht => ht.placeFreed u.drive) _).startNext

theorem withdrawRecord (h : s.Ranged n) (r : RecIx) : (s.withdrawRecord r).Ranged n :=
  (h.bursts _).withdraw _

theorem stopCopyOut (h : s.Ranged n) (r : RecIx) : (s.stopCopyOut r).Ranged n := by
  unfold State.stopCopyOut
  split
  · exact h.endRunning.ite h
  · exact h

theorem moveWord (h : s.Ranged n) (u : Burst) : (s.moveWord u).Ranged n := by
  unfold State.moveWord
  dsimp only
  split <;> exact h

/-! ## Positioning, buffers and the channel -/

/-- An engine that is not NOT-READY takes another such state, its counts and hold set standing. -/
theorem work (h : s.Ranged n) (d : DriveIx) (f : Engine → Engine)
    (now : (s.engine d).state ≠ .notReady) {st : EngineState} (next : st ≠ .notReady)
    (same : (f (s.engine d)).inRange = { s.engine d with state := st }.inRange) :
    (s.modEngine d f).Ranged n :=
  h.modEngine d f fun he => same.trans (Engine.inRange_work he now next)

theorem startPositioning (h : s.Ranged n) (d : DriveIx) (r : RecIx)
    (now : (s.engine d).state ≠ .notReady) : (s.startPositioning d r).Ranged n := by
  unfold State.startPositioning
  split
  · refine h.modEngine d _ fun he => ?_
    rw [← Engine.beginSeek_inRange] at he
    exact Engine.inRange_work he (by rwa [Engine.beginSeek_state]) (by decide)
  · exact h


/-- A request of a burst leaves every engine as it is. -/
theorem engine_requestBurst (s : State) (q : BurstRequest) (d : DriveIx) :
    (s.requestBurst q).engine d = s.engine d := by
  obtain e | e | ⟨u, -, e⟩ := s.requestBurst_cases q <;> rw [e]
  · rfl
  · obtain e | ⟨v, rest, -, -, e⟩ := (s.joinQueue u).startNext_cases <;> rw [e] <;> rfl

theorem giveBuffer (h : s.Ranged n) (d : DriveIx) (r : RecIx) (b : BufIx)
    (now : (s.engine d).state ≠ .notReady) : (s.giveBuffer d r b).Ranged n := by
  unfold State.giveBuffer
  split
  · exact h
  · dsimp only
    have t := h.modRecord r fun q => { q with buffer := some b, copied := false }
    split
    · exact (t.modEntry _ _).startPositioning d r now
    · exact (t.modEntry _ _).startPositioning d r now
    · refine (t.requestBurst _).startPositioning d r ?_
      rw [engine_requestBurst]
      exact now
    · exact t.startPositioning d r now

theorem handBuffer (h : s.Ranged n) (b : BufIx) : (s.handBuffer b).Ranged n := by
  obtain e | ⟨d, rest, -, -, e | ⟨r, waits, -, e⟩⟩ := s.handBuffer_cases b <;> rw [e]
  · exact h
  · exact h
  · refine (h.bufWait rest).giveBuffer d r b ?_
    change (s.engine d).state ≠ .notReady
    rw [waits]
    decide

theorem handBuffers (h : s.Ranged n) : s.handBuffers.Ranged n :=
  h.foldl _ (fun _ b ht => ht.handBuffer b) _

theorem releaseRecord (h : s.Ranged n) (r : RecIx) : (s.releaseRecord r).Ranged n :=
  (h.dropRecord r).handOut r

theorem freeRecord (h : s.Ranged n) (r : RecIx) : (s.freeRecord r).Ranged n :=
  (h.releaseRecord r).handBuffers

theorem grant (h : s.Ranged n) (d : DriveIx) : (s.grant d).Ranged n := by
  unfold State.grant
  dsimp only
  split
  · next waits _ =>
    have now : (s.engine d).state ≠ .notReady := by
      rw [waits]
      decide
    exact ((h.chan _).modRecord _ _).work d _ now (by split <;> decide) rfl
  · exact h

theorem requestChannel (h : s.Ranged n) (d : DriveIx) (now : (s.engine d).state ≠ .notReady) :
    (s.requestChannel d).Ranged n := by
  have t := h.work d (fun e => { e with state := .waitChannel, motion := .still }) now
    (st := .waitChannel) (by decide) rfl
  exact (t.grant d).ite (t.chan _)

theorem leaveChannel (h : s.Ranged n) (d : DriveIx) : (s.leaveChannel d).Ranged n := by
  obtain ⟨-, -, e⟩ | ⟨x, rest, -, -, e⟩ | ⟨-, e⟩ := s.leaveChannel_cases d <;> rw [e]
  · exact h
  · exact (h.chan _).grant x
  · exact h

/-! ## Volumes -/

theorem reviveEntry (h : s.Ranged n) (adopt : Bool) (x : SectorRef) :
    (State.reviveEntry adopt s x).Ranged n := by
  unfold State.reviveEntry
  split
  · exact h
  · split
    · exact (h.modEntry x _).provide x false
    · exact (h.modEntry x _).ite h
    · exact h

theorem attach (h : s.Ranged n) (d : DriveIx) (adopt : Bool) : (s.attach d adopt).Ranged n :=
  (h.modVolume d _).foldl _ (fun _ x ht => ht.reviveEntry adopt x) _

theorem dropBoundId (h : s.Ranged n) (d : DriveIx) : (s.dropBoundId d).Ranged n := by
  unfold State.dropBoundId
  exact ((((h.modVolume d _).attach d false).raise _).ite (h.modVolume d _)).ite h

theorem stampVerdict (h : s.Ranged n) (d : DriveIx) (bytes : Option (List Byte)) :
    (s.stampVerdict d bytes).Ranged n := by
  unfold State.stampVerdict
  split
  · exact h
  · split
    · exact h
    · exact (((h.modVolume d _).attach d false).raise _).ite (((h.modVolume d _).modVolume d _).raise _)

/-! ## The end of an operation, and holds -/

theorem noteFault (h : s.Ranged n) (d : DriveIx) (c : Cause) (o : FaultOutcome) (q : Option Record) :
    (s.noteFault d c o q).Ranged n := h.modEngine d _ fun he => he

theorem endOperation (h : s.Ranged n) (d : DriveIx) : (s.endOperation d).Ranged n :=
  h.modEngine d _ Engine.inRange_rest

theorem returnEntry (h : s.Ranged n) (q : Record) : (s.returnEntry q).Ranged n := by
  unfold State.returnEntry
  split
  · exact (h.modEntry _ _).provide _ false
  all_goals exact h

theorem returnRecord (h : s.Ranged n) (d : DriveIx) : (s.returnRecord d).Ranged n := by
  unfold State.returnRecord
  split
  · exact h
  · next r _ =>
    split
    · exact h
    · next q _ =>
      dsimp only
      have t (waits : List DriveIx) :=
        ((((h.endOperation d).bufWait waits).leaveChannel d).withdrawRecord r).stopCopyOut r
      exact ((t _).freeRecord r).ite (((t _).modRecord r _).returnEntry q).handBuffers

theorem stopForHold (h : s.Ranged n) (d : DriveIx) : (s.stopForHold d).Ranged n := by
  unfold State.stopForHold
  split
  · exact h.modEngine d _ Engine.inRange_rest
  · exact h.modEngine d _ Engine.inRange_rest
  · exact h.returnRecord d
  · exact h.returnRecord d
  · exact h.returnRecord d
  · exact h

theorem haltFault (h : s.Ranged n) (d : DriveIx) : (s.haltFault d).Ranged n :=
  ((h.modEngine d (fun e => { e with fault := true }) fun he => he).raise _).stopForHold d

theorem speedFails (h : s.Ranged n) (d : DriveIx) : (s.speedFails d).Ranged n :=
  (((h.raise _).noteFault d _ _ _).returnRecord d).haltFault d

theorem startRecal (h : s.Ranged n) (d : DriveIx) (unheld : (s.engine d).unheld = true) :
    (s.startRecal d).Ranged n := by
  refine h.modEngine d _ fun he => ?_
  exact Engine.inRange_doorless (Engine.inRange_rested he) (Engine.door_of_unheld unheld) (by decide)

theorem resume (h : s.Ranged n) (d : DriveIx) : (s.resume d).Ranged n := by
  obtain e | ⟨unheld, -, e⟩ | ⟨unheld, -, e⟩ := s.resume_cases d <;> rw [e]
  · exact h
  · exact h.startRecal d unheld
  · exact h.modEngine d _ fun he =>
      Engine.inRange_doorless he (Engine.door_of_unheld unheld) (by decide)

/-! ## Failures and completions -/

theorem entryUnwritten (h : s.Ranged n) (x : SectorRef) (c : Cause) : (s.entryUnwritten x c).Ranged n := by
  unfold State.entryUnwritten
  split
  · exact h
  · exact ((h.modEntry x _).marksGone true _).ite h

theorem writeFails (h : s.Ranged n) (d : DriveIx) (r : RecIx) (c : Cause) :
    (s.writeFails d r c).Ranged n := by
  unfold State.writeFails
  split
  · exact h
  · next q _ =>
    dsimp only
    have ended {t : State} (ht : t.Ranged n) : (((t.endOperation d).leaveChannel d).freeRecord r).Ranged n :=
      ((ht.endOperation d).leaveChannel d).freeRecord r
    cases q.owner with
    | some x =>
      have t := ended (((h.entryUnwritten x c).noteFault d c .unwritten (some q)).raise
        (if c = Cause.protect then Event.protect else Event.writeFailed))
      exact (t.haltFault d).ite t
    | none => exact ((ended h).haltFault d).ite (ended h)

theorem fillFails (h : s.Ranged n) (d : DriveIx) (r : RecIx) (c : Cause) :
    (s.fillFails d r c).Ranged n := by
  unfold State.fillFails
  split
  · exact h
  · dsimp only
    split
    · exact ((h.endOperation d).leaveChannel d).freeRecord r
    · have delivered (c : Cause) (q : Record) (b : BurstRequest) :=
        (((((h.noteFault d c .damagedDelivered (some q)).endOperation d).leaveChannel d).requestBurst b).raise
          .damagedDelivered)
      have failed (c : Cause) (q : Record) (x : SectorRef) :=
        (((((h.modEntry x (Entry.fillFailed c)).noteFault d c .failed (some q)).endOperation d).leaveChannel
          d).freeRecord r).raise .fillFailed
      exact (delivered _ _ _).ite (failed _ _ _)

theorem stampFails (h : s.Ranged n) (d : DriveIx) (r : RecIx) (c : Cause) :
    (s.stampFails d r c).Ranged n :=
  ((((h.noteFault d _ _ _).endOperation d).leaveChannel d).freeRecord r).stampVerdict d none

theorem operationFails (h : s.Ranged n) (d : DriveIx) (r : RecIx) (c : Cause) :
    (s.operationFails d r c).Ranged n := by
  unfold State.operationFails
  split
  · exact h
  · split
    · exact h.fillFails d r c
    · exact h.fillFails d r c
    · exact h.stampFails d r c
    · exact h.writeFails d r c
    · exact h

/-- An engine that is not NOT-READY searches again. -/
theorem searchAgain (h : s.Ranged n) (d : DriveIx) (now : (s.engine d).state ≠ .notReady) :
    (s.modEngine d Engine.beginSearch).Ranged n := h.work d _ now (st := .searching) (by decide) rfl

theorem attemptFails (h : s.Ranged n) (d : DriveIx) (r : RecIx) (c : Cause)
    (now : (s.engine d).state ≠ .notReady) : (s.attemptFails d r c).Ranged n := by
  unfold State.attemptFails
  dsimp only
  split
  · exact (h.modRecord r _).operationFails d r c
  · exact (h.modRecord r _).work d _ now (st := .searching) (by decide) rfl

theorem writeCompletes (h : s.Ranged n) (d : DriveIx) (r : RecIx) : (s.writeCompletes d r).Ranged n := by
  unfold State.writeCompletes
  split
  · exact h
  · next q _ =>
    dsimp only
    have t : (((s.endOperation d).leaveChannel d).noteWritten d q).Ranged n :=
      ((h.endOperation d).leaveChannel d).modVolume d _
    split
    · exact t.freeRecord r
    · split
      · exact t.freeRecord r
      · have u (x : SectorRef) (marks : BitVec 4) :=
          ((t.modEntry x Entry.written).freeRecord r).marksGone false marks
        exact ((u _ _).provide _ false).ite (u _ _)

theorem formatFails (h : s.Ranged n) (d : DriveIx) (r : RecIx) (c : FormatCause) :
    (s.formatFails d r c).Ranged n := by
  unfold State.formatFails
  split
  · exact h
  · next q _ =>
    have t := ((((h.noteFormat d (some c) q).raise .formatFailed).endOperation d).leaveChannel d).freeRecord r
    exact (t.haltFault d).ite t

theorem adoptFormat (h : s.Ranged n) (d : DriveIx) (p : FormatParams) : (s.adoptFormat d p).Ranged n :=
  ((h.modVolume d _).pool _).attach d false

theorem formatCompletes (h : s.Ranged n) (d : DriveIx) (r : RecIx) : (s.formatCompletes d r).Ranged n := by
  unfold State.formatCompletes
  split
  · exact h
  · split
    · exact h
    · next p _ =>
      have t (o : Option DiskOut) := ((h.diskOut o).endOperation d).leaveChannel d
      exact (((((t _).adoptFormat d p).ite ((t _).modVolume d _)).freeRecord r).raise _).noteFormat d none _

end State.Ranged

end Sys2Proof.Machine
end

section
/-! SUPPORT. What choices and swaps, the memory path and the judgements of an advance do to the ranges. -/

namespace Sys2Proof.Machine

open Sys2Proof

/-- The drive of the next choice has an engine that is IDLE. -/
theorem State.idle_of_nextChoice? {s : State} {d : DriveIx} {r : RecIx}
    (h : s.nextChoice? = some (d, r)) : (s.engine d).state = .idle := by
  obtain ⟨d', -, choice⟩ := List.exists_of_findSome?_eq_some h
  split at choice
  · next may =>
    obtain ⟨r', -, pair⟩ := Option.map_eq_some_iff.mp choice
    obtain ⟨rfl, -⟩ := Prod.mk.inj pair
    simp_all [Engine.mayChoose]
  · simp at choice

namespace State.Ranged

variable {n : Nat} {s : State}

/-! ## The choice -/

theorem waitForBuffer (h : s.Ranged n) (d : DriveIx) (now : (s.engine d).state ≠ .notReady) :
    (s.waitForBuffer d).Ranged n :=
  (h.bufWait _).work d _ now (st := .waitBuffer) (by decide) rfl

/-- An engine that is not NOT-READY takes a record: SELECT, with the idle index count 0 (R90, R91). -/
theorem select (h : s.Ranged n) (d : DriveIx) (r : RecIx) (now : (s.engine d).state ≠ .notReady) :
    (s.modEngine d fun e =>
      { e with state := .select, current := some r, dataHeld := false, idle := 0 }).Ranged n :=
  h.modEngine d _ fun he => Engine.inRange_work (Engine.inRange_rested he) now (st := .select) (by decide)

theorem takeChoice (h : s.Ranged n) (d : DriveIx) (r : RecIx) (now : (s.engine d).state ≠ .notReady) :
    (s.takeChoice d r).Ranged n := by
  unfold State.takeChoice
  split
  · exact h
  · have selected (t : State) : ((t.modEngine d fun e => { e with
        state := .select, current := some r, dataHeld := false, idle := 0 }).engine d).state
          ≠ .notReady := by
      rw [State.engine_modEngine_self]
      exact EngineState.noConfusion
    have t (f : Record → Record) := (h.modRecord r f).select d r now
    refine ((t _).writeFails d r _).ite (((t _).operationFails d r _).ite
      (((t _).startPositioning d r (selected _)).ite ?_))
    split
    · exact (t _).giveBuffer d r _ (selected _)
    · exact (t _).waitForBuffer d (selected _)

/-! ## Windows -/

theorem replaceWindow (h : s.Ranged n) (w : WinIx) (next : Option Binding) :
    (s.replaceWindow w next).Ranged n := by
  unfold State.replaceWindow
  have t := (h.forgetWindow w).setWindow w (Window.ofBinding next)
  dsimp only
  cases next with
  | some b =>
    split
    · exact (t.takeBoundId b.drive).dropBoundId _
    · exact t.takeBoundId b.drive
  | none =>
    split
    · exact t.dropBoundId _
    · exact t

theorem swapWindow (h : s.Ranged n) (w : WinIx) : (s.swapWindow w).Ranged n := by
  unfold State.swapWindow
  split
  · exact h.replaceWindow w _
  all_goals exact h

theorem cancelFills (h : s.Ranged n) (w : WinIx) : (s.cancelFills w).Ranged n :=
  (h.foldl _ (fun _ x ht => ht.modEntry x _) _).foldl _ (fun _ r ht => ht.freeRecord r) _

theorem drainEntry (h : s.Ranged n) (x : SectorRef) : (s.drainEntry x).Ranged n := by
  unfold State.drainEntry
  split
  · exact (h.requestWrite x .urgent).ite h
  · exact h

theorem enterStaged (h : s.Ranged n) (w : WinIx) : (s.enterStaged w).Ranged n :=
  (((h.cancelFills w).withdraw _).foldl _ (fun _ x ht => ht.modEntry x _) _).foldl _
    (fun _ x ht => ht.drainEntry x) _

theorem stageWindow (h : s.Ranged n) (w : WinIx) (next : Option Binding) :
    (s.stageWindow w next).Ranged n := by
  unfold State.stageWindow
  split
  · exact h
  · exact (h.setWindow w _).enterStaged w
  · exact h.setWindow w _

theorem endForced (h : s.Ranged n) (r : RecIx) : (s.endForced r).Ranged n := by
  unfold State.endForced
  split
  · exact h
  · exact (((h.bufWait _).endOperation _).releaseRecord r).ite (h.releaseRecord r)

theorem failMarks (h : s.Ranged n) (w : WinIx) : (s.failMarks w).Ranged n :=
  h.foldl _ (fun _ e ht => (ht.marksGone true e.marks).ite ht) _

theorem dropBursts (h : s.Ranged n) (w : WinIx) (ending : List RecIx) :
    (s.dropBursts w ending).Ranged n :=
  ((h.bursts _).withdraw _).foldl _ (fun _ r ht => ht.stopCopyOut r) _

theorem noteDiscard (h : s.Ranged n) (w : WinIx) (count : Nat) (b : Option Binding) :
    (s.noteDiscard w count b).Ranged n := by
  unfold State.noteDiscard
  split
  · have t (o : Option DiscardRecord) : { s with lastDiscard := o }.Ranged n := h
    exact h.ite ((t _).raise .discarded)
  · exact h

theorem giveUpWindow (h : s.Ranged n) (w : WinIx) (next : Option Binding) :
    (s.giveUpWindow w next).Ranged n :=
  ((((((h.failMarks w).dropBursts w _).foldl _ (fun _ r ht => ht.modRecord r _) _).replaceWindow w
    next).foldl _ (fun _ r ht => ht.endForced r) _).handBuffers).noteDiscard w _ _

/-! ## What follows at once -/

theorem settle (h : s.Ranged n) : s.settle.Ranged n := by
  refine State.settle_invariant (State.Ranged n) (fun s t h e => ?_) s h
  obtain ⟨w, -, rfl⟩ | ⟨-, d, r, choice, rfl⟩ := State.settleOne_cases e
  · exact h.swapWindow w
  · refine h.takeChoice d r ?_
    rw [State.idle_of_nextChoice? choice]
    decide

theorem perform (h : s.Ranged n) {f : State → State} (hf : s.Ranged n → (f s).Ranged n) :
    (s.perform f).Ranged n := (hf h).settle.ite h

/-! ## The Memory Path -/

theorem noteDefer (h : s.Ranged n) (tag : Tag) (x : SectorRef) : (s.noteDefer tag x).Ranged n := by
  unfold State.noteDefer
  split <;> exact h

theorem noteServed (h : s.Ranged n) (tag : Tag) (x : SectorRef) : (s.noteServed tag x).Ranged n := by
  unfold State.noteServed
  split <;> exact h

theorem writeFor (h : s.Ranged n) (a : Nat) (c : Access) : (s.writeFor a c).Ranged n := by
  cases c <;> exact h

theorem requestBlank (h : s.Ranged n) (x : SectorRef) (d : DriveIx) : (s.requestBlank x d).Ranged n :=
  h.ite ((h.modEntry x _).joinQueue _).startNext

theorem askFor (h : s.Ranged n) (x : SectorRef) (b : Binding) (e : Entry) : (s.askFor x b e).Ranged n := by
  unfold State.askFor
  split
  · exact ((h.requestBlank x b.drive).ite (h.requestFill x e)).ite h
  · exact h.raiseFill x
  · exact h.raiseFill x
  all_goals exact h

theorem noteWrite (h : s.Ranged n) (x : SectorRef) (b : Binding) (e : Entry) :
    (s.noteWrite x b e).Ranged n := by
  unfold State.noteWrite
  split
  · exact ((h.modEntry x _).requestWrite x .normal).ite (h.modEntry x _)
  all_goals exact h

theorem refuseWrite (h : s.Ranged n) (c : UpCycle) (x : SectorRef) : (s.refuseWrite c x).Ranged n := by
  have t (r : Option RefusalRecord) : { s with path := { s.path with lastRefusal := r } }.Ranged n := h
  exact (((t _).raise _).noteServed c.tag x).answered _ _

theorem expireCycle (h : s.Ranged n) (c : UpCycle) (x : SectorRef) (e : Entry) (q : DeferRecord) :
    (s.expireCycle c x e q).Ranged n := by
  have t (r : Option ExpiryRecord) : { s with path := { s.path with lastExpiry := r } }.Ranged n := h
  exact (((t _).raise _).setDeferred c.tag none).answered _ _

theorem judge (h : s.Ranged n) (c : UpCycle) (x : SectorRef) (b : Binding) (e : Entry) :
    (s.judge c x b e).Ranged n := by
  unfold State.judge
  refine (h.refuseWrite c x).ite ?_
  split
  · exact ((((h.noteWrite x b e).ite h).noteServed c.tag x).answered _ _).writeFor _ _
  · exact (h.noteServed c.tag x).answered _ _
  · split
    · exact h.expireCycle c x e _
    · exact ((h.ite (h.askFor x b e)).noteDefer c.tag x).answered _ _

theorem decodeCycle (h : s.Ranged n) (c : UpCycle) : (s.decodeCycle c).Ranged n := by
  have outside := (h.answered .pass (s.readFor c.addr.toNat c.access)).writeFor c.addr.toNat c.access
  unfold State.decodeCycle
  split
  · exact outside
  · split
    · exact h.judge c _ _ _
    · exact outside

theorem judgeExpiry (h : s.Ranged n) : s.judgeExpiry.Ranged n := by
  have t : s.expireRecords.Ranged n := h
  exact t.ite h

theorem beginCopy (h : s.Ranged n) (u : Burst) : (s.beginCopy u).Ranged n := by
  unfold State.beginCopy
  refine ite ?_ h
  split <;> exact h

theorem endDelivery (h : s.Ranged n) (u : Burst) : (s.endDelivery u).Ranged n := by
  unfold State.endDelivery
  split
  · exact h.handBuffers
  · next r _ =>
    split
    · exact h.handBuffers
    · split
      · exact h.freeRecord r
      · have t (x : SectorRef) := (h.modEntry x (Entry.delivered u.damaged)).freeRecord r
        dsimp only
        split
        · exact (t _).readAhead _ _ _
        · exact t _

theorem endCopyOut (h : s.Ranged n) (u : Burst) : (s.endCopyOut u).Ranged n := by
  unfold State.endCopyOut
  split
  · exact h.handBuffers
  · next r _ =>
    have ended {t : State} (ht : t.Ranged n) (same : t.engine u.drive = s.engine u.drive) :
        (if (s.engine u.drive).current = some r ∧ (s.engine u.drive).state = .positioning ∧
            (s.engine u.drive).inPlace = true then t.requestChannel u.drive else t).Ranged n := by
      split
      · next place =>
        obtain ⟨-, positioning, -⟩ := place
        refine ht.requestChannel u.drive ?_
        rw [same, positioning]
        decide
      · exact ht
    cases s.burstOwner u with
    | some x => exact ended ((h.modEntry x Entry.copyEnds).modRecord r _) rfl
    | none => exact ended (h.modRecord r _) rfl

theorem endBlank (h : s.Ranged n) (u : Burst) : (s.endBlank u).Ranged n := by
  unfold State.endBlank
  split
  · exact h
  · split
    · exact h
    · have t (x : SectorRef) (f : Entry → Entry) := h.modEntry x f
      exact (t _ _).ite (((t _ _).requestWrite _ .urgent).ite ((t _ _).ite ((t _ _).requestWrite _ .normal)))

theorem burstTurn (h : s.Ranged n) : s.burstTurn.Ranged n := by
  unfold State.burstTurn
  split
  · exact h
  · next u _ =>
    have t := (h.beginCopy (s.firstWord u)).moveWord (s.firstWord u)
    refine (t.bursts _).ite ?_
    unfold State.endBurst
    split
    · exact t.endRunning.endDelivery _
    · exact t.endRunning.endCopyOut _
    · exact t.endRunning.endBlank _

theorem upCycle (h : s.Ranged n) (c : UpCycle) : (s.upCycle c).Ranged n := by
  have paid : s.payBurst.Ranged n := h.burstTurn.settle.ite h
  exact ((paid.judgeExpiry).decodeCycle c).settle.bursts _

/-! ## The judgements of an advance -/

theorem sweepEntry (h : s.Ranged n) (x : SectorRef) : (s.sweepEntry x).Ranged n := by
  unfold State.sweepEntry
  split
  · exact (h.requestWrite x .normal).ite h
  · exact h

/-- A period's end reloads the sweep timer from its next period (R143). -/
theorem sweepNow (h : s.Ranged n) : s.sweepNow.Ranged n := by
  obtain ⟨-, next, -, -⟩ := h.sweep
  have reloaded : { s.sweep with current := s.sweep.next, counter := 1 }.Ranged :=
    ⟨next, next, ⟨Nat.le_refl 1, next.1⟩, .inr rfl⟩
  have t (d : Due) : { s with
      sweep := { s.sweep with current := s.sweep.next, counter := 1 }
      clock := { s.clock with due := d } }.Ranged n := h.withSweep reloaded
  exact ((t _).raise .sweep).foldl _ (fun _ x ht => ht.sweepEntry x) _

theorem judgeSweep (h : s.Ranged n) : s.judgeSweep.Ranged n := h.sweepNow.ite h

theorem promoteEntry (h : s.Ranged n) (x : SectorRef) : (s.promoteEntry x).Ranged n := by
  unfold State.promoteEntry
  split
  · exact ((h.modEntry x _).requestWrite x .urgent).ite h
  · exact h

theorem judgeAges (h : s.Ranged n) : s.judgeAges.Ranged n := by
  have promoted {t : State} (ht : t.Ranged n) : t.promoteAll.Ranged n := by
    have u (d : Due) : { t with clock := { t.clock with due := d } }.Ranged n := ht
    exact (u _).ite ((u _).foldl _ (fun _ x ht => ht.promoteEntry x) _)
  exact (promoted h.judgeSweep).ite h

theorem lateSlot (h : s.Ranged n) (k : SlotIx) : (s.lateSlot k).Ranged n := by
  have t (v : Vector Window 16) : { s with windows := v }.Ranged n := h
  exact (((t _).setSlot k _).raise _).ite h

theorem judgeDeadlines (h : s.Ranged n) : s.judgeDeadlines.Ranged n := by
  have t (d : Due) : { s with clock := { s.clock with due := d } }.Ranged n := h
  exact ((t _).foldl _ (fun _ k ht => ht.lateSlot k) _).ite h

theorem judgeAll (h : s.Ranged n) : s.judgeAll.Ranged n :=
  h.judgeSweep.judgeAges.judgeDeadlines.judgeExpiry

theorem judgeLimits (h : s.Ranged n) : s.judgeLimits.Ranged n := h.judgeAges.settle.judgeExpiry.ite h

end State.Ranged

end Sys2Proof.Machine
end

section
/-! SUPPORT. What the passing of time and a warm reset do to the ranges: an advance ends every 10,000 ticks. -/

namespace Sys2Proof.Machine

open Sys2Proof

/-! ## The power phase is kept while time passes -/

theorem State.power_of_steady {s t : State} (h : t.steady = s.steady) : t.power = s.power :=
  congrArg Steady.power h

/-- What follows a command at once leaves the steady part alone. -/
theorem State.settle_steady (s : State) : s.settle.steady = s.steady := by
  refine State.settle_invariant (fun t => t.steady = s.steady) (fun t u ht e => ?_) s rfl
  obtain ⟨w, -, rfl⟩ | ⟨-, d, r, -, rfl⟩ := State.settleOne_cases e
  · rw [State.swapWindow_steady, ht]
  · rw [State.takeChoice_steady, ht]

theorem State.settle_power (s : State) : s.settle.power = s.power := State.power_of_steady s.settle_steady

theorem State.indexGone_power (s : State) (d : DriveIx) : (s.indexGone d).power = s.power := by
  refine (State.settle_power _).trans (State.power_of_steady ?_)
  rw [State.speedFails_steady, State.modEngine_steady]

theorem State.passLost_power (s : State) (k m limit : Nat) : (s.passLost k m limit).power = s.power :=
  State.passLost_invariant (fun t => t.power = s.power) (fun _ _ ht => (State.passTicks_power _ _).trans ht)
    (fun _ _ ht => (State.indexGone_power _ _).trans ht) _ _ _ s rfl

theorem State.judgeSweep_power (s : State) : s.judgeSweep.power = s.power := by
  have entry (t : State) (x : SectorRef) : (t.sweepEntry x).power = t.power := by
    unfold State.sweepEntry
    split
    · split
      · exact State.power_of_steady (t.requestWrite_steady x .normal)
      · rfl
    · rfl
  unfold State.judgeSweep
  split
  · exact foldl_keeps State.power _ entry _ _
  · rfl

theorem State.judgeAges_power (s : State) : s.judgeAges.power = s.power := by
  have entry (t : State) (x : SectorRef) : (t.promoteEntry x).power = t.power := by
    unfold State.promoteEntry
    split
    · split
      · exact State.power_of_steady ((t.modEntry x _).requestWrite_steady x .urgent)
      · rfl
    · rfl
  have promoted (t : State) : t.promoteAll.power = t.power := by
    unfold State.promoteAll
    dsimp only
    split
    · rfl
    · exact foldl_keeps State.power _ entry _ _
  unfold State.judgeAges
  split
  · rw [promoted, State.judgeSweep_power]
  · rfl

theorem State.judgeDeadlines_power (s : State) : s.judgeDeadlines.power = s.power := by
  have late (t : State) (k : SlotIx) : (t.lateSlot k).power = t.power := by
    unfold State.lateSlot
    split <;> rfl
  unfold State.judgeDeadlines
  split
  · exact foldl_keeps State.power _ late _ _
  · rfl

theorem State.judgeExpiry_power (s : State) : s.judgeExpiry.power = s.power := by
  unfold State.judgeExpiry
  split <;> rfl

theorem State.judgePast_power (s : State) : s.judgePast.power = s.power := by
  obtain ⟨-, e⟩ | ⟨-, e⟩ := s.judgePast_cases <;> rw [e]
  rw [State.settle_power, State.judgeAll, State.judgeExpiry_power, State.judgeDeadlines_power,
    State.judgeAges_power, State.judgeSweep_power]

theorem State.sweepTick_power (s : State) : s.sweepTick.power = s.power := by
  obtain ⟨-, e⟩ | ⟨-, -, e⟩ | ⟨-, -, e⟩ := s.sweepTick_cases <;> rw [e]

theorem State.coarseMoment_power (s : State) : s.coarseMoment.power = s.power := by
  obtain ⟨-, e⟩ | ⟨-, e⟩ | ⟨-, e⟩ := s.coarseMoment_cases <;> rw [e]
  · rfl
  · exact State.sweepTick_power _

/-! ## The moment of a lost index -/

/-- An index that is lost next is lost in fewer than `limit` ticks. -/
theorem State.nextLost?_lt {s : State} {limit m : Nat} {d : DriveIx}
    (h : s.nextLost? limit = some (d, m)) : m < limit := by
  unfold State.nextLost? at h
  split at h
  · refine foldl_invariant (fun best : Option (DriveIx × Nat) => ∀ p, best = some p → p.2 < limit) _
      (fun best d hb p hp => ?_) allDrives none (fun _ hp => nomatch hp) _ h
    split at hp
    · exact hb p hp
    · cases best with
      | none =>
        dsimp only at hp
        split at hp
        · next sooner => exact Option.some.inj hp ▸ sooner
        · exact hb p hp
      | some q =>
        dsimp only at hp
        split at hp
        · next sooner => exact Option.some.inj hp ▸ Nat.lt_trans sooner (hb q rfl)
        · exact hb p hp
  · cases h

/-! ## The end of a reset -/

/-- The part as its reset ends, before any drive rises: it runs, with its lines inactive (R158). -/
def State.released (powerUp : Bool) (s : State) : State :=
  { s with
    power := .running
    resetLine := false
    supplyLow := false
    clock := if powerUp then { tick := 0, coarse := 0, toCoarse := 0, due := Due.none } else s.clock
    engines := s.engines.map Engine.cleared
    heldCycles := []
    heldAnswers := [] }

/-- Every drive that is ready rises, with what follows at once (R107, R131). -/
def State.risen (s : State) : State := (allDrives.foldl State.riseIfReady s).settle

/-- The part before it decodes the held cycles: the drives have risen, and OUTAGE-RECORDED is raised where
it is called for (R158). -/
def State.reopened (powerUp raised : Bool) (s : State) : State :=
  if raised then (s.released powerUp).risen.raise .outageRecorded else (s.released powerUp).risen

/-- Outside a reset its end does nothing. -/
theorem State.resetEnds_off {s : State} (h : s.power = .off ∨ s.power = .running) : s.resetEnds = s := by
  unfold State.resetEnds
  obtain h | h := h <;> rw [h]

/-- The end of a reset: the part is open again, and the held cycles are decoded (R20, R158). -/
theorem State.resetEnds_inReset {s : State} {powerUp raised : Bool} (h : s.power = .inReset powerUp raised) :
    s.resetEnds = s.heldCycles.foldl State.heldCycle (s.reopened powerUp raised) := by
  unfold State.resetEnds
  rw [h]
  rfl

/-! ## The Outage Store -/

theorem Store.Ranged.record {o : Store} (h : o.Ranged) (x : OutageEntry) : (o.record x).Ranged := by
  obtain ⟨list, overflow, dip⟩ := h
  unfold Store.record
  split
  · refine ⟨?_, overflow, dip⟩
    rw [List.length_append, List.length_singleton]
    omega
  · exact ⟨list, Nat.min_le_left _ _, dip⟩

namespace State.Ranged

variable {n : Nat} {s : State}

theorem recorded (h : s.Ranged n) (cause : WarmCause) (k : Nat) : (s.recorded cause k).Ranged :=
  foldl_invariant Store.Ranged _ (fun _ x ho => ho.record x) _ _ h.store

/-- After a reset every range holds, the Outage Store's and the clocks' values standing. -/
theorem cleared (h : s.Ranged n) : s.cleared.Ranged n := by
  obtain ⟨-, -, ⟨list, overflow, -⟩, -, ticks, -⟩ := h
  refine ⟨Path.reset_ranged, SweepTimer.reset_ranged, ⟨list, overflow, fun _ none => nomatch none⟩,
    ⟨Nat.le_refl 1, (by decide : 1 ≤ 32)⟩, ticks, fun d => ?_⟩
  rw [State.engine, Fin.getElem_fin]
  simp only [State.cleared, Vector.getElem_map]
  exact Engine.reset_inRange _ _ _

theorem warmReset (h : s.Ranged n) (cause : WarmCause) : (s.warmReset cause).Ranged n :=
  (h.withStore (h.recorded cause _)).cleared

/-! ## Ticks -/

theorem passTicks (h : s.Ranged n) (m : Nat) : (s.passTicks m).Ranged (n + m) := by
  unfold State.passTicks
  split
  · exact h.mono (Nat.le_add_right n m)
  · obtain ⟨limit, sweep, ⟨list, overflow, dip⟩, link, ticks, engines⟩ := h
    refine ⟨limit, sweep, ⟨list, overflow, fun k hk => ?_⟩, link, Nat.add_lt_add_right ticks m,
      fun d => ?_⟩
    · obtain ⟨t, -, rfl⟩ := Option.map_eq_some_iff.mp hk
      exact Nat.min_le_right _ _
    · rw [State.engine, Fin.getElem_fin, Vector.getElem_map]
      exact engines d

theorem indexGone (h : s.Ranged n) (d : DriveIx) : (s.indexGone d).Ranged n :=
  ((h.modEngine d (fun e => { e with lostTimer := none }) fun he => he).speedFails d).settle

/-- Ticks with lost indexes among them are no more than the ticks alone. -/
theorem passLost (h : s.Ranged n) (k m limit : Nat) (hl : limit ≤ m + 1) :
    (s.passLost k m limit).Ranged (n + m) := by
  induction k generalizing s n m limit with
  | zero => exact h.passTicks m
  | succ k ih =>
    rw [State.passLost]
    split
    · exact h.passTicks m
    · next d lost next =>
      have sooner := State.nextLost?_lt next
      exact (ih ((h.passTicks lost).indexGone d) (m - lost) (limit - lost) (by omega)).mono (by omega)

theorem judgePast (h : s.Ranged n) : s.judgePast.Ranged n := by
  obtain ⟨-, e⟩ | ⟨-, e⟩ := s.judgePast_cases <;> rw [e]
  · exact h.judgeAll.settle
  · exact h

theorem sweepTick (h : s.Ranged n) : s.sweepTick.Ranged n := by
  obtain ⟨current, next, ⟨counted, -⟩, -⟩ := h.sweep
  obtain ⟨-, e⟩ | ⟨enabled, less, e⟩ | ⟨-, -, e⟩ := s.sweepTick_cases <;> rw [e]
  · exact h
  · exact h.withSweep ⟨current, next, ⟨Nat.le_succ_of_le counted, less⟩, .inl enabled⟩
  · exact h

/-- The advance that ends 10,000 ticks leaves none since it (R1). -/
theorem coarseMoment (h : s.Ranged 10001) (on : s.power ≠ .off) : s.coarseMoment.Ranged 1 := by
  have ticks := h.ticks
  have counted : s.countCoarse.Ranged 1 := h.withClock (by dsimp only; omega)
  obtain ⟨off, -⟩ | ⟨-, e⟩ | ⟨-, e⟩ := s.coarseMoment_cases
  · exact absurd off on
  · rw [e]
    exact counted
  · rw [e]
    exact counted.sweepTick

/-- `k` advances among `m` ticks that bring no more than these: fewer than 10,000 ticks are left (R1). -/
theorem passAdvances {c : Nat} (h : s.Ranged (c + 1)) (on : s.power ≠ .off) (hc : c < 10000) (k m : Nat)
    (hm : c + m < 10000 * (k + 1)) : (s.passAdvances k m).Ranged 10000 := by
  induction k generalizing s c m with
  | zero => exact (h.passLost 4 m (m + 1) (Nat.le_refl _)).mono (by omega)
  | succ k ih =>
    have ticks := h.ticks
    have full (w : Nat) (hw : w = 10000 - s.clock.toCoarse) :
        (s.judgePast.passLost 4 w w).Ranged 10001 :=
      (h.sharpen.judgePast.passLost 4 w w (Nat.le_succ w)).mono (by omega)
    have still (w : Nat) : (s.judgePast.passLost 4 w w).power ≠ .off := by
      rwa [State.passLost_power, State.judgePast_power]
    refine ih (c := 0) ((full _ rfl).coarseMoment (still _)) ?_ (by decide) _ (by omega)
    rw [State.coarseMoment_power]
    exact still _

theorem passClocks (h : s.Ranged 10000) (m : Nat) : (s.passClocks m).Ranged 10000 := by
  unfold State.passClocks
  split
  · exact h
  · next on => exact h.sharpen.passAdvances on h.ticks _ m (by omega)

theorem passTime (h : s.Ranged 10000) (m : Nat) : (s.passTime m).Ranged 10000 := by
  obtain ⟨-, e⟩ | ⟨k, -, e⟩ := s.passTime_cases m <;> rw [e]
  · exact h.passClocks m
  · exact ((h.passClocks k).warmReset .longDip).passClocks _

/-- An advance lets pass the ticks that lack to it, in the reset of a long dip too (R1, R157). -/
theorem coarseAdvance (h : s.Ranged 10000) : s.coarseAdvance.Ranged 10000 := by
  have advance {t : State} {m : Nat} (ht : t.Ranged 10000) (hm : m ≤ 10000) :
      (if t.power = .off then t else t.passAdvances 1 m).Ranged 10000 := by
    split
    · exact ht
    · next on =>
      have ticks := ht.ticks
      exact ht.sharpen.passAdvances on ticks 1 m (by omega)
  unfold State.coarseAdvance State.acrossDip
  split
  · exact advance h (by omega)
  · exact advance ((h.passClocks _).warmReset .longDip) (by omega)

end State.Ranged

end Sys2Proof.Machine
end

section
/-! SUPPORT. What the lines and the disk work of a drive and the supply do to the ranges. -/

namespace Sys2Proof.Machine

open Sys2Proof

/-! ## Engines at the lines of their drives -/

theorem Engine.rise_inRange {e : Engine} (h : e.inRange = true) : e.rise.inRange = true := by
  simp_all [Engine.inRange_iff, Engine.countsInRange, Engine.rise]

theorem Engine.fall_inRange {e : Engine} (h : e.inRange = true) : e.fall.inRange = true := by
  simp_all [Engine.inRange_iff, Engine.countsInRange, Engine.fall]

/-- A captured interval becomes the period only within its range (R88). -/
theorem Engine.capture_inRange {e : Engine} (h : e.inRange = true) (now : Tick) :
    (e.capture now).inRange = true := by
  obtain ⟨⟨period, step, tries, bad, idle⟩, door⟩ := e.inRange_iff.mp h
  unfold Engine.capture
  split
  · exact h
  · dsimp only
    split
    · next good =>
      simp only [intervalGood, Bool.and_eq_true, decide_eq_true_eq] at good
      exact (Engine.inRange_iff _).mpr ⟨⟨good, step, tries, Nat.zero_le 3, idle⟩, door⟩
    · exact (Engine.inRange_iff _).mpr ⟨⟨period, step, tries, Nat.min_le_left _ _, idle⟩, door⟩

theorem Engine.countPulse_inRange {e : Engine} (h : e.inRange = true) : e.countPulse.inRange = true := by
  have counted : { e with idle := min 8 (e.idle + 1) }.inRange = true := by
    obtain ⟨⟨period, step, tries, bad, -⟩, door⟩ := e.inRange_iff.mp h
    exact (Engine.inRange_iff _).mpr ⟨⟨period, step, tries, bad, Nat.min_le_left _ _⟩, door⟩
  unfold Engine.countPulse
  split
  · split <;> exact h
  · exact h
  · split <;> [exact counted; exact h]
  · split <;> [exact counted; exact h]
  all_goals exact h

theorem Engine.step_inRange (e : Engine) (track0 : Bool) : (e.step track0).inRange = e.inRange := by
  unfold Engine.step
  split <;> rfl

/-- A dip stops an engine without an operation and leaves the state of another to the return of its record
(R103). -/
theorem Engine.dipped_inRange {e : Engine} (h : e.inRange = true) : e.dipped.inRange = true := by
  unfold Engine.dipped
  cases e.current with
  | none => exact Engine.inRange_rest h
  | some r => exact h

/-! ## The lengths of replies -/

theorem length_padded (n : Nat) (l : List Byte) : (padded n l).length = n := by
  rw [padded, List.length_take, List.length_append, List.length_replicate]
  omega

theorem State.statusData?_length {s : State} {part : Nat} {data : List Byte}
    (h : s.statusData? part = some data) : data.length ≤ 31 := by
  unfold State.statusData? at h
  split at h <;> cases h
  · simp [State.statusPool, driveBytes, bytes2, length_padded, allBuffers]
  · simp [State.statusLimits, bytes2]
  · unfold State.statusRefusal
    split <;> simp [bytes2, bytes3]
  · unfold State.statusExpiry
    split <;> simp [bytes2, bytes3]
  · unfold State.statusDiscard
    split <;> simp [bytes2]

theorem bindingBytes_length (o : Option Binding) : (bindingBytes o).length = 12 := by
  cases o with
  | none => rfl
  | some b => simp [bindingBytes, Binding.bytes, bytes2]

theorem Window.data?_length {x : Window} {part : Nat} {data : List Byte}
    (h : x.data? part = some data) : data.length ≤ 31 := by
  unfold Window.data? at h
  split at h <;> cases h
  · simp [Window.stateBytes, bindingBytes_length]
  all_goals simp [Window.perSector]

theorem State.driveData?_length {s : State} {d : DriveIx} {part : Nat} {data : List Byte}
    (h : s.driveData? d part = some data) : data.length ≤ 31 := by
  unfold State.driveData? at h
  split at h <;> cases h
  · have held : (s.engineRecordBytes d).length = 7 := by
      unfold State.engineRecordBytes
      (repeat' split) <;> rfl
    simp [State.driveEngine, bytes2, held]
  · unfold Volume.bytes
    split <;> simp [bytes4]
  · unfold Engine.faultBytes
    split <;> simp [bytes2]
  · unfold Volume.removalBytes
    split <;> simp [bytes2, bytes4]
  · unfold Volume.formatBytes
    split <;> simp [bytes2]

theorem Slot.bytes_length (k : Slot) : k.bytes.length ≤ 31 := by
  unfold Slot.bytes
  split
  · simp
  · split <;> simp [bytes2]

/-- At most five entries of five bytes follow the counts and the cause (R161). -/
theorem Store.bytes_length (o : Store) (start : Nat) : (o.bytes start).length ≤ 31 := by
  have entries (l : List OutageEntry) : (l.flatMap OutageEntry.bytes).length = 5 * l.length := by
    induction l with
    | nil => rfl
    | cons x rest ih =>
      rw [List.flatMap_cons, List.length_append, ih, List.length_cons]
      simp only [OutageEntry.bytes, List.length_cons, List.length_nil]
      omega
  rw [Store.bytes, List.length_append, entries]
  have five : ((o.list.drop start).take 5).length ≤ 5 := List.length_take_le _ _
  simp only [List.length_cons, List.length_nil]
  omega

namespace State.Ranged

variable {n : Nat} {s : State}

/-! ## The ready line -/

theorem driveRisen (h : s.Ranged n) (d : DriveIx) : (s.driveRisen d).Ranged n :=
  (((h.modEngine d _ Engine.rise_inRange).modVolume d _).requestStamp d).resume d

theorem readyRises (h : s.Ranged n) (d : DriveIx) (protect : Bool) : (s.readyRises d protect).Ranged n :=
  h.ite ((h.modEngine d (fun e => { e with ready := true, protect := protect }) fun he => he).perform
    fun ht => ht.driveRisen d)

theorem doorEntry (h : s.Ranged n) (x : SectorRef) : (s.doorEntry x).Ranged n := by
  unfold State.doorEntry
  split
  · exact h
  · split
    · exact h.modEntry x _
    · exact (h.modEntry x _).ite h
    all_goals exact h

theorem doorRecord (h : s.Ranged n) (d : DriveIx) (r : RecIx) : (State.doorRecord d s r).Ranged n := by
  unfold State.doorRecord
  split
  · exact h
  · exact (((h.noteFormat d _ _).raise _).releaseRecord r).ite (h.releaseRecord r)

theorem doorBursts (h : s.Ranged n) (d : DriveIx) : (s.doorBursts d).Ranged n := (h.bursts _).withdraw _

theorem driveFallen (h : s.Ranged n) (d : DriveIx) : (s.driveFallen d).Ranged n := by
  unfold State.driveFallen
  extract_lets mine fallen unbuffered idle entries pool waitless ended count
  have hfallen : fallen.Ranged n := h.modEngine d _ Engine.fall_inRange
  have hunbuffered : unbuffered.Ranged n := hfallen.bufWait _
  have hidle : idle.Ranged n := (hunbuffered.doorBursts d).leaveChannel d
  have hentries : entries.Ranged n := hidle.foldl _ (fun _ x ht => ht.doorEntry x) _
  have hwaitless : waitless.Ranged n := hentries.pool _
  have hended : ended.Ranged n := (hwaitless.foldl _ (fun _ r ht => ht.doorRecord d r) _).handBuffers
  exact (hended.modVolume d _).raise _

theorem readyFalls (h : s.Ranged n) (d : DriveIx) : (s.readyFalls d).Ranged n :=
  (h.modEngine d (fun e => { e with ready := false }) fun he => he).perform
    (f := fun t => if (t.volume d).state = .empty then t else t.driveFallen d)
    fun ht => ht.ite (ht.driveFallen d)

/-! ## Misses, speed and idleness -/

theorem countMiss (h : s.Ranged n) (d : DriveIx) (r : RecIx) (now : (s.engine d).state ≠ .notReady) :
    (s.countMiss d r).Ranged n := by
  unfold State.countMiss
  dsimp only
  split
  · exact h
  · have t (f : Record → Record) := h.modRecord r f
    refine ((t _).operationFails d r _).ite (ite ?_ ((t _).searchAgain d now))
    exact ((t _).modRecord r _).modEngine d _ Engine.inRange_rested

theorem searchMissed (h : s.Ranged n) (d : DriveIx) : (State.searchMissed d s).Ranged n := by
  unfold State.searchMissed
  split
  · exact h
  · split
    · next due =>
      obtain ⟨searches, -⟩ := due
      refine h.countMiss d _ fun now => ?_
      simp [Engine.searches, now] at searches
    · exact h

theorem verifyMissed (h : s.Ranged n) (d : DriveIx) : (State.verifyMissed d s).Ranged n := by
  unfold State.verifyMissed
  split
  · exact h
  · dsimp only
    split
    · next due =>
      obtain ⟨verifying, -⟩ := due
      exact h.attemptFails d _ .verify (by rw [verifying]; decide)
    · exact h

theorem badPeriods (h : s.Ranged n) (d : DriveIx) : (State.badPeriods d s).Ranged n := by
  refine (speedFails (h.modEngine d _ fun he => ?_) d).ite h
  obtain ⟨⟨period, step, tries, -, idle⟩, door⟩ := (Engine.inRange_iff _).mp he
  exact (Engine.inRange_iff _).mpr ⟨⟨period, step, tries, Nat.zero_le 3, idle⟩, door⟩

theorem indexLost (h : s.Ranged 10000) (d : DriveIx) : (State.indexLost d s).Ranged 10000 := by
  unfold State.indexLost
  split
  · exact h
  · exact h.passTime _

theorem unloadHeads (h : s.Ranged n) (d : DriveIx) : (State.unloadHeads d s).Ranged n :=
  (h.modEngine d (fun e => { e with loaded := false }) fun he => he).ite h

theorem takeDue (h : s.Ranged n) (d : DriveIx) : (State.takeDue d s).Ranged n :=
  (((h.badPeriods d).searchMissed d).verifyMissed d).unloadHeads d

/-! ## Index pulses -/

theorem beginTrack (h : s.Ranged n) (d : DriveIx) (r : RecIx) : (s.beginTrack d r).Ranged n :=
  (h.formatFails d r .protect).ite ((h.modEngine d (fun e =>
    { e with gate := true, formatOn := true, formatSlot := e.slotTime }) fun he => he).modVolume d _)

theorem formatPulse (h : s.Ranged n) (d : DriveIx) : (s.formatPulse d).Ranged n := by
  unfold State.formatPulse
  split
  · exact (h.formatCompletes d _).ite (h.beginTrack d _)
  · exact h

theorem pulse (h : s.Ranged n) (d : DriveIx) : (State.pulse d s).Ranged n :=
  ((h.modEngine d (fun e => (e.capture s.clock.tick).countPulse) fun he =>
    Engine.countPulse_inRange (Engine.capture_inRange he _)).formatPulse d).ite h

theorem indexPulse (h : s.Ranged 10000) (d : DriveIx) (elapsed : Nat) :
    (State.indexPulse d elapsed s).Ranged 10000 :=
  ((h.perform fun ht => ht.takeDue d).passTime elapsed).perform fun ht => ht.pulse d

/-! ## Steps and settles -/

theorem afterWait (h : s.Ranged 10000) (d : DriveIx) (awaits : Engine → Bool) {event : State → State}
    (he : ∀ t : State, t.Ranged 10000 → (event t).Ranged 10000) :
    (s.afterWait d awaits event).Ranged 10000 := by
  obtain ⟨-, e⟩ | ⟨-, -, e⟩ | ⟨-, -, e⟩ := s.afterWait_cases d awaits event <;> rw [e]
  · exact h
  · exact h.passTime _
  · exact he _ (h.passTime _)

theorem stepPulse (h : s.Ranged 10000) (d : DriveIx) (track0 : Bool) :
    (State.stepPulse d track0 s).Ranged 10000 :=
  h.afterWait d _ fun _ ht => ht.modEngine d _ fun he => (Engine.step_inRange _ _).trans he

theorem endRecal (h : s.Ranged n) (d : DriveIx) : (s.endRecal d).Ranged n := by
  have t := h.modEngine d (fun e => { e with cyl := some 0, motion := .still }) fun he => he
  unfold State.endRecal
  dsimp only
  split
  · exact t.modEngine d _ fun he => (Engine.beginSeek_inRange _ _ _).trans he
  · exact t.modEngine d _ Engine.inRange_rest

theorem recalibrated (h : s.Ranged 10000) (d : DriveIx) : (State.recalibrated d s).Ranged 10000 :=
  h.afterWait d _ fun _ ht => ht.endRecal d

theorem seekFails (h : s.Ranged n) (d : DriveIx) : (State.seekFails d s).Ranged n := by
  have t (q : Option Record) := (h.raise .seekFault).noteFault d .seekFault .driveFault q
  have stopped (q : Option Record) :=
    ((t q).endOperation d).ite (p := (s.engine d).current = none) ((t q).returnRecord d)
  exact (((stopped _).modEngine d (fun e => { e with cyl := none }) fun he => he).haltFault d).ite h

theorem endSeek (h : s.Ranged n) (d : DriveIx) : (s.endSeek d).Ranged n := by
  have t := h.modEngine d (fun e => { e with loaded := true }) fun he => he
  have now (st : (s.engine d).state ≠ .notReady) :
      ((s.modEngine d fun e => { e with loaded := true }).engine d).state ≠ .notReady := by
    rwa [State.engine_modEngine_self]
  unfold State.endSeek
  dsimp only
  split
  · next positioning _ => exact t.ite (t.requestChannel d (now (by rw [positioning]; decide)))
  · next searching _ => exact t.searchAgain d (now (by rw [searching]; decide))
  · exact t

theorem positioned (h : s.Ranged 10000) (d : DriveIx) : (State.positioned d s).Ranged 10000 :=
  h.afterWait d _ fun _ ht => ht.endSeek d

/-! ## Disk work -/

theorem targetFound (h : s.Ranged n) (d : DriveIx) (r : RecIx) (q : Record)
    (now : (s.engine d).state ≠ .notReady) : (s.targetFound d r q).Ranged n := by
  have t := h.modRecord r fun q => { q with misses := 0 }
  have writes := t.work d (fun e => { e with state := .writing, gate := true }) now
    (st := .writing) (by decide) rfl
  have reads := t.work d (fun e => { e with state := .reading }) now (st := .reading) (by decide) rfl
  exact ((writes.modVolume d _).ite (t.writeFails d r .protect)).ite reads

theorem searchField (h : s.Ranged n) (d : DriveIx) (r : RecIx) (q : Record) (f : IdField)
    (now : (s.engine d).state ≠ .notReady) : (s.searchField d r q f).Ranged n :=
  (h.modEngine d (fun e => { e with badId := true }) fun he => he).ite
    (h.ite ((h.operationFails d r .defective).ite (h.targetFound d r q now)))

theorem idField (h : s.Ranged n) (d : DriveIx) (f : IdField) : (State.idField d f s).Ranged n := by
  unfold State.idField
  dsimp only
  split
  · exact h
  · split
    · exact h
    · split
      · next searches =>
        refine h.searchField d _ _ f fun now => ?_
        simp [Engine.searches, now] at searches
      · exact ((h.modEngine d (fun e => { e with idFound := true }) fun he => he).ite h).ite h

theorem markMissing (h : s.Ranged n) (d : DriveIx) : (State.markMissing d s).Ranged n := by
  unfold State.markMissing
  dsimp only
  split
  · exact h
  · split
    · next reading => exact h.attemptFails d _ .notFound (by rw [reading]; decide)
    · split
      · next due =>
        obtain ⟨verifying, -⟩ := due
        exact h.attemptFails d _ .verify (by rw [verifying]; decide)
      · exact h

theorem readDone (h : s.Ranged n) (d : DriveIx) (r : RecIx) (q : Record) (data : List Byte) :
    (s.readDone d r q data).Ranged n := by
  have t := (h.endOperation d).leaveChannel d
  unfold State.readDone
  dsimp only
  split
  · exact (t.requestBurst _).ite (t.freeRecord r)
  · exact (t.requestBurst _).ite (t.freeRecord r)
  · exact (t.freeRecord r).stampVerdict d _
  · exact h
  · exact h

theorem fieldRead (h : s.Ranged n) (d : DriveIx) (data : List Byte) (crc : BitVec 16) :
    (State.fieldRead d data crc s).Ranged n := by
  unfold State.fieldRead
  dsimp only
  split
  · exact h
  · next r _ =>
    split
    · exact h
    · next q _ =>
      split
      · next reading =>
        have taken : (s.takeField d q data).Ranged n ∧
            ((s.takeField d q data).engine d).state = .reading := by
          unfold State.takeField
          dsimp only
          rw [State.engine_modEngine_self]
          cases q.buffer with
          | some b =>
            have t := h.setBuffer b data
            exact ⟨t.modEngine d (fun e => { e with dataHeld := true }) fun he => he, reading⟩
          | none => exact ⟨h.modEngine d (fun e => { e with dataHeld := true }) fun he => he, reading⟩
        obtain ⟨t, still⟩ := taken
        exact (t.readDone d r q data).ite (t.attemptFails d r .dataCrc (by rw [still]; decide))
      · exact h

theorem fieldWritten (h : s.Ranged n) (d : DriveIx) : (State.fieldWritten d s).Ranged n := by
  unfold State.fieldWritten
  dsimp only
  split
  · exact h
  · next r _ =>
    split
    · exact h
    · split
      · next writing =>
        have t (o : Option DiskOut) := (h.diskOut o).modEngine d (fun e => { e with gate := false })
          fun he => he
        refine ite ?_ ((t _).writeCompletes d r)
        refine (t _).work d _ ?_ (st := .verifying) (by decide) rfl
        rw [State.engine_modEngine_self]
        change (s.engine d).state ≠ .notReady
        rw [writing]
        decide
      · exact h

theorem writeFaulted (h : s.Ranged n) (d : DriveIx) : (State.writeFaulted d s).Ranged n := by
  unfold State.writeFaulted
  dsimp only
  split
  · exact h
  · exact h.ite ((h.writeFails d _ _).ite ((h.formatFails d _ _).ite h))

theorem fieldVerified (h : s.Ranged n) (d : DriveIx) (data : List Byte) (crc : BitVec 16) :
    (State.fieldVerified d data crc s).Ranged n := by
  unfold State.fieldVerified
  dsimp only
  split
  · exact h
  · split
    · next due =>
      obtain ⟨verifying, -⟩ := due
      exact (h.writeCompletes d _).ite (h.attemptFails d _ .verify (by rw [verifying]; decide))
    · exact h

/-! ## The supply -/

theorem setDip (h : s.Ranged n) : s.setDip.Ranged n := by
  have dipped := h.mapEngines (fun e => { e with dip := true }) fun _ he => he
  exact ((dipped.chan _).bufWait _).foldl _ (fun _ d ht =>
    (ht.modEngine d _ Engine.dipped_inRange).returnRecord d) _

theorem supplyFalls (h : s.Ranged n) : s.supplyFalls.Ranged n := by
  have low : { s with supplyLow := true }.Ranged n := h
  refine h.ite (low.perform fun ht => ?_)
  obtain ⟨list, overflow, -⟩ := h.store
  have timed : { s.store with dipTimer := some 0 }.Ranged :=
    ⟨list, overflow, fun _ e => Option.some.inj e ▸ Nat.zero_le 2000⟩
  exact ((ht.withStore timed).raise _).setDip

theorem supplyReturns (h : s.Ranged n) : s.supplyReturns.Ranged n := by
  obtain ⟨list, overflow, -⟩ := h.store
  have calm : { s with supplyLow := false, store := { s.store with dipTimer := none } }.Ranged n :=
    h.withStore ⟨list, overflow, fun _ none => nomatch none⟩
  unfold State.supplyReturns
  split
  · exact h
  · exact (calm.mapEngines Engine.undip fun _ he => he).foldl _ (fun _ d ht => ht.resume d) _

theorem resetLineActs (h : s.Ranged n) : s.resetLineActs.Ranged n := by
  unfold State.resetLineActs
  split
  · exact h
  · exact h
  · exact h.warmReset .resetLine

theorem dipRunsOut (h : s.Ranged 10000) : s.dipRunsOut.Ranged 10000 := by
  unfold State.dipRunsOut
  split
  · exact h
  · exact (h.passTime _).warmReset .longDip

theorem heldCycle (h : s.Ranged n) (c : UpCycle) : (s.heldCycle c).Ranged n := h.upCycle c

theorem resetEnds (h : s.Ranged 10000) : s.resetEnds.Ranged 10000 := by
  cases power : s.power with
  | off => rwa [State.resetEnds_off (.inl power)]
  | running => rwa [State.resetEnds_off (.inr power)]
  | inReset powerUp raised =>
    have released : (s.released powerUp).Ranged 10000 := by
      have clock : (if powerUp then { tick := 0, coarse := 0, toCoarse := 0, due := Due.none }
          else s.clock : Clock).toCoarse < 10000 := by
        split
        · exact Nat.zero_lt_succ 9999
        · exact h.ticks
      exact (h.withClock clock).mapEngines Engine.cleared fun _ _ => Engine.reset_inRange _ _ _
    have risen : (s.released powerUp).risen.Ranged 10000 :=
      (released.foldl _ (fun _ d ht => (ht.driveRisen d).ite ht) _).settle
    rw [State.resetEnds_inReset power]
    exact ((risen.raise _).ite risen).foldl _ (fun _ c ht => ht.heldCycle c) _

theorem powersUp (h : s.Ranged n) (kept : Bool) : (State.powersUp kept s).Ranged n := by
  obtain ⟨list, overflow, dip⟩ := h.store
  refine cleared (s := { s with store := _, heldCycles := [] }) (h.withStore ?_)
  split
  · exact ⟨list, overflow, dip⟩
  · exact ⟨Nat.zero_le _, Nat.zero_le _, dip⟩

theorem supplyFails (h : s.Ranged n) (cut : Option (WarmCause × Nat)) :
    (State.supplyFails cut s).Ranged n := by
  refine cleared (s := { s with store := _, heldCycles := [] }) (h.withStore ?_)
  split
  · exact h.recorded _ _
  · exact h.store

end State.Ranged

end Sys2Proof.Machine
end

section
/-! SUPPORT. What the link commands do to the ranges, every command, and O57. -/

namespace Sys2Proof.Machine

open Sys2Proof

/-! ## Settings as they are stored -/

theorem clamp_inRange (low high k : Nat) (h : low ≤ high) :
    low ≤ clamp low high k ∧ clamp low high k ≤ high := by
  unfold clamp
  omega

theorem storedDeferLimit_inRange (k : BitVec 16) :
    1 ≤ (storedDeferLimit k).toNat ∧ (storedDeferLimit k).toNat ≤ 32767 := by
  obtain ⟨low, high⟩ := clamp_inRange 1 32767 k.toNat (by decide)
  rw [storedDeferLimit, BitVec.toNat_ofNat, Nat.mod_eq_of_lt (by omega)]
  exact ⟨low, high⟩

theorem storedPeriod_inRange (period : BitVec 16) :
    1 ≤ storedPeriod period.toNat ∧ storedPeriod period.toNat ≤ 65536 := by
  have bound := period.isLt
  unfold storedPeriod
  split <;> omega

/-- SET SWEEP restarts the counter wherever it replaces the current period (R144). -/
theorem SweepTimer.Ranged.set {t : SweepTimer} (h : t.Ranged) (period : BitVec 16) (enable restart : Bool) :
    (t.set period.toNat enable restart).Ranged := by
  obtain ⟨enabled, current, next, counter⟩ := t
  obtain ⟨hcurrent, -, hcounter, resting⟩ := h
  have stored := storedPeriod_inRange period
  cases enabled <;> cases enable
  · exact ⟨hcurrent, stored, hcounter, resting⟩
  · exact ⟨stored, stored, ⟨Nat.le_refl 1, stored.1⟩, .inl rfl⟩
  · exact ⟨hcurrent, stored, ⟨Nat.le_refl 1, hcurrent.1⟩, .inr rfl⟩
  · cases restart
    · exact ⟨hcurrent, stored, hcounter, .inl rfl⟩
    · exact ⟨stored, stored, ⟨Nat.le_refl 1, stored.1⟩, .inl rfl⟩

namespace State.Ranged

variable {n : Nat} {s : State}

/-! ## The commands that report -/

theorem reply (h : s.Ranged n) (refusal : Result) (o : Option (List Byte))
    (ho : ∀ data, o = some data → data.length ≤ 31) : (s.reply refusal o).Ranged n := by
  cases o with
  | some data => exact h.respond .done (ho data rfl)
  | none => exact h.respondAlone refusal

theorem linkStatus (h : s.Ranged n) (part : Byte) : (State.linkStatus part s).Ranged n :=
  (h.takeCommand _ _).reply _ _ fun _ hd => State.statusData?_length hd

theorem linkWindowStates (h : s.Ranged n) (window part : Byte) :
    (State.linkWindowStates window part s).Ranged n := by
  refine (h.takeCommand _ _).reply _ _ fun data hd => ?_
  obtain ⟨w, -, hd⟩ := Option.bind_eq_some_iff.mp hd
  exact Window.data?_length hd

theorem linkReadDrive (h : s.Ranged n) (drive part : Byte) : (State.linkReadDrive drive part s).Ranged n := by
  refine (h.takeCommand _ _).reply _ _ fun data hd => ?_
  obtain ⟨d, -, hd⟩ := Option.bind_eq_some_iff.mp hd
  exact State.driveData?_length hd

theorem linkReadOutage (h : s.Ranged n) (start : Byte) : (State.linkReadOutage start s).Ranged n := by
  refine (h.takeCommand _ _).reply _ _ fun data hd => ?_
  split at hd
  · cases hd
    exact s.store.bytes_length _
  · cases hd

/-! ## The commands on windows and slots -/

theorem linkBind (h : s.Ranged n) (window : Byte) (record : BindRecord) :
    (State.linkBind window record s).Ranged n := by
  have t (params : List Byte) := h.takeCommand 0x10 params
  unfold State.linkBind
  dsimp only
  split
  · exact (t _).respondAlone _
  · exact (((t _).setWindow _ _).takeBoundId _).respondAlone .done

theorem linkStage (h : s.Ranged n) (window : Byte) (record : BindRecord) :
    (State.linkStage window record s).Ranged n := by
  have t (params : List Byte) := h.takeCommand 0x11 params
  unfold State.linkStage
  dsimp only
  split
  · exact (t _).respondAlone _
  · exact ((t _).stageWindow _ _).respondAlone .done

theorem linkForce (h : s.Ranged n) (window : Byte) : (State.linkForce window s).Ranged n := by
  have t := h.takeCommand 0x12 [window]
  unfold State.linkForce
  dsimp only
  split
  · exact t.respondAlone .badParam
  · split
    · exact t.respondAlone .wrongState
    · exact t.respondAlone .wrongState
    · exact (t.giveUpWindow _ _).respondAlone .done

theorem linkRelease (h : s.Ranged n) (window : Byte) : (State.linkRelease window s).Ranged n := by
  have t := h.takeCommand 0x13 [window, 0]
  unfold State.linkRelease
  dsimp only
  split
  · exact t.respondAlone .badParam
  · split
    · exact t.respondAlone .wrongState
    · exact (t.stageWindow _ none).respondAlone .done
    · exact (t.stageWindow _ none).respondAlone .done

theorem linkReleaseDiscard (h : s.Ranged n) (window : Byte) :
    (State.linkReleaseDiscard window s).Ranged n := by
  have t := h.takeCommand 0x13 [window, 1]
  unfold State.linkReleaseDiscard
  dsimp only
  split
  · exact t.respondAlone .badParam
  · split
    · exact t.respondAlone .wrongState
    · exact (t.giveUpWindow _ none).respondAlone .done
    · exact (t.giveUpWindow _ none).respondAlone .done

theorem swapIfQuiet (h : s.Ranged n) (w : WinIx) : (State.swapIfQuiet w s).Ranged n := (h.swapWindow w).ite h

theorem secureEntry (h : s.Ranged n) (k : SlotIx) (x : SectorRef) : (State.secureEntry k s x).Ranged n := by
  unfold State.secureEntry
  split
  · exact h
  · exact (((h.modEntry x _).requestWrite x .urgent).setSlot k _).ite ((h.setSlot k _).ite h)

theorem linkSecure (h : s.Ranged n) (target : BitVec 16) (stampLast : Bool) (deadline : BitVec 16) :
    (State.linkSecure target stampLast deadline s).Ranged n := by
  have t (params : List Byte) := h.takeCommand 0x20 params
  have opened {t : State} (ht : t.Ranged n) (k : SlotIx) :
      (t.openSlot k target stampLast deadline).Ranged n :=
    ((ht.setSlot k _).foldl _ (fun _ x hu => hu.secureEntry k x) _).endSlot k
  unfold State.linkSecure
  dsimp only
  split
  · exact (t _).respondAlone _
  · exact (opened (t _) _).respond .done (by decide : 1 ≤ 31)

theorem linkSecureStatus (h : s.Ranged n) (slot : Byte) : (State.linkSecureStatus slot s).Ranged n := by
  have t := h.takeCommand 0x21 [slot]
  unfold State.linkSecureStatus
  dsimp only
  split
  · exact t.respondAlone .badParam
  · next k _ =>
    have told := t.respond .done (s.slot k).bytes_length
    exact (told.setSlot k _).ite told

/-! ## The commands on drives -/

theorem linkHold (h : s.Ranged n) (drive : Byte) : (State.linkHold drive s).Ranged n := by
  have t := h.takeCommand 0x30 [drive]
  unfold State.linkHold
  dsimp only
  split
  · exact t.respondAlone .badParam
  · next d _ =>
    exact ((t.modEngine d (fun e => { e with link := true }) fun he => he).stopForHold d).respondAlone .done

theorem linkRun (h : s.Ranged n) (drive : Byte) : (State.linkRun drive s).Ranged n := by
  have t := h.takeCommand 0x31 [drive]
  unfold State.linkRun
  dsimp only
  split
  · exact t.respondAlone .badParam
  · next d _ =>
    exact ((t.modEngine d (fun e => { e with link := false, fault := false }) fun he => he).resume
      d).respondAlone .done

theorem linkAdopt (h : s.Ranged n) (drive : Byte) : (State.linkAdopt drive s).Ranged n := by
  have t := h.takeCommand 0x32 [drive]
  unfold State.linkAdopt
  dsimp only
  split
  · exact t.respondAlone .badParam
  · next d _ =>
    exact ((((t.modVolume d _).attach d true).raise _).respondAlone .done).ite (t.respondAlone .wrongState)

theorem retryEntry (h : s.Ranged n) (d : DriveIx) (x : SectorRef) : (State.retryEntry d s x).Ranged n := by
  unfold State.retryEntry
  split
  · exact h
  · split
    · exact ((h.modEntry x _).provide x true).ite (h.modEntry x _)
    · exact h.modEntry x _
    all_goals exact h

theorem linkRetry (h : s.Ranged n) (drive : Byte) : (State.linkRetry drive s).Ranged n := by
  have t := h.takeCommand 0x33 [drive]
  unfold State.linkRetry
  dsimp only
  split
  · exact t.respondAlone .badParam
  · next d _ =>
    have entries := t.foldl _ (fun _ x ht => ht.retryEntry d x) ((s.takeCommand 0x33 [drive]).refsOfDrive d)
    have cleared := entries.modEngine d (fun e => { e with fault := false }) fun he => he
    exact (cleared.resume d).respondAlone .done

theorem linkFormat (h : s.Ranged n) (p : FormatParams) : (State.linkFormat p s).Ranged n := by
  have t := h.takeCommand 0x34 (formatParamBytes p)
  unfold State.linkFormat
  dsimp only
  split
  · exact t.respondAlone _
  · split
    · next u hu => exact (t.makeOrEvict hu).respondAlone .done
    · exact t.respondAlone .noRoom

theorem linkSetDrive (h : s.Ranged n) (drive stepMs retries : Byte) (halt : Bool) :
    (State.linkSetDrive drive stepMs retries halt s).Ranged n := by
  have t := h.takeCommand 0x38 [drive, stepMs, retries, flagByte halt]
  unfold State.linkSetDrive
  dsimp only
  split
  · exact t.respondAlone .badParam
  · refine (t.modEngine _ _ fun he => ?_).respondAlone .done
    obtain ⟨⟨period, -, -, bad, idle⟩, door⟩ := (Engine.inRange_iff _).mp he
    exact (Engine.inRange_iff _).mpr ⟨⟨period, clamp_inRange 3 15 _ (by decide),
      clamp_inRange 1 8 _ (by decide), bad, idle⟩, door⟩

/-! ## The commands on settings, events and the Outage List -/

theorem linkSetSweep (h : s.Ranged n) (period : BitVec 16) (enable restart : Bool) :
    (State.linkSetSweep period enable restart s).Ranged n := by
  have t (params : List Byte) (d : Due) :=
    ((h.takeCommand 0x40 params).withSweep (h.sweep.set period enable restart)).withClock
      (c := { s.clock with due := d }) h.ticks
  exact (t _ _).respondAlone .done

theorem linkSetLimits (h : s.Ranged n) (deferLimit ageLimit : BitVec 16) (blank : Byte) :
    (State.linkSetLimits deferLimit ageLimit blank s).Ranged n := by
  have t (params : List Byte) (p : Path) (hp : p.deferLimit = storedDeferLimit deferLimit) :=
    (h.judgeLimits.takeCommand 0x41 params).withPath (p := p) (hp ▸ storedDeferLimit_inRange deferLimit)
  exact respondAlone (t _ _ rfl) .done

theorem linkReadEvents (h : s.Ranged n) : s.linkReadEvents.Ranged n :=
  respond (h.takeCommand 0x50 []) .done (by simp [EventUnit.bytes, bytes3])

theorem linkClearEvents (h : s.Ranged n) (tag : Byte) (mask : BitVec 24) :
    (State.linkClearEvents tag mask s).Ranged n := by
  have t (params : List Byte) := h.takeCommand 0x51 params
  have told (params : List Byte) (u : EventUnit) :
      ({ s.takeCommand 0x51 params with events := u }.respond .done []).Ranged n :=
    respondAlone (t params) .done
  exact (told _ _).ite ((t _).respondAlone .wrongState)

theorem linkSetAlertMask (h : s.Ranged n) (mask : BitVec 24) : (State.linkSetAlertMask mask s).Ranged n :=
  respondAlone (h.takeCommand 0x52 _) .done

theorem linkClearOutage (h : s.Ranged n) : s.linkClearOutage.Ranged n := by
  obtain ⟨-, -, dip⟩ := h.store
  have emptied : { s.store with list := [], overflow := 0 }.Ranged :=
    ⟨Nat.zero_le 32, Nat.zero_le 255, dip⟩
  exact ((h.takeCommand 0x61 []).withStore emptied).respondAlone .done

theorem linkReset (h : s.Ranged n) : s.linkReset.Ranged n := (h.takeCommand 0x7F []).warmReset .resetCommand

/-! ## Messages on the service link -/

theorem linkDo (h : s.Ranged n) (c : Instr) : (s.linkDo c).Ranged n := by
  cases c with
  | status part => exact h.linkStatus part
  | bind window record => exact h.linkBind window record
  | stage window record => exact h.linkStage window record
  | force window => exact h.linkForce window
  | release window => exact h.linkRelease window
  | releaseDiscard window => exact h.linkReleaseDiscard window
  | windowStates window part => exact h.linkWindowStates window part
  | secure target stampLast deadline => exact h.linkSecure target stampLast deadline
  | secureStatus slot => exact h.linkSecureStatus slot
  | hold drive => exact h.linkHold drive
  | run drive => exact h.linkRun drive
  | adopt drive => exact h.linkAdopt drive
  | retry drive => exact h.linkRetry drive
  | format params => exact h.linkFormat params
  | readDrive drive part => exact h.linkReadDrive drive part
  | setDrive drive stepMs retries halt => exact h.linkSetDrive drive stepMs retries halt
  | setSweep period enable restart => exact h.linkSetSweep period enable restart
  | setLimits deferLimit ageLimit blank => exact h.linkSetLimits deferLimit ageLimit blank
  | readEvents => exact h.linkReadEvents
  | clearEvents tag mask => exact h.linkClearEvents tag mask
  | setAlertMask mask => exact h.linkSetAlertMask mask
  | readOutage start => exact h.linkReadOutage start
  | clearOutage => exact h.linkClearOutage
  | reset => exact h.linkReset
  | _ => exact h

theorem linkMessage (h : s.Ranged n) (address : Byte) (bytes : List Byte) :
    (State.linkMessage address bytes s).Ranged n := by
  have taken : (s.takeMessage bytes).Ranged n := by
    unfold State.takeMessage
    dsimp only
    split
    · exact h.linkDo _
    · exact h.respondAlone _
  exact (taken.perform (f := id) fun ht => ht).ite h

/-! ## Every step -/

/-- What an engine does by itself and what its pulses have made due (log 1, log 3). -/
theorem driveDue (h : s.Ranged 10000) (d : DriveIx) : (s.driveDue d).Ranged 10000 := by
  have due := h.takeDue d
  unfold State.driveDue State.engineDue
  dsimp only
  exact due.ite ((due.stepPulse d _).ite (((due.seekFails d).recalibrated d).positioned d))

theorem idle (h : s.Ranged 10000) : s.idle.Ranged 10000 := by
  unfold State.idle
  split
  · exact h
  · exact (h.passTime 1).ite h.resetEnds
  · have judged := h.judgeAll.settle
    exact judged.dipRunsOut.ite ((judged.foldl _ (fun _ d ht => ht.driveDue d) _).settle.passTime 1)

theorem exec {c : Instr} {t : State} (h : s.Ranged 10000) (e : Machine.exec c s = .next t) :
    t.Ranged 10000 := by
  have next {u : State} (hu : u.Ranged 10000) (same : Machine.exec c s = .next u) : t.Ranged 10000 :=
    Host.Outcome.next.inj (same.symm.trans e) ▸ hu
  cases c with
  | upstreamCycle cycle =>
    refine next ?_ rfl
    split
    · exact h
    · exact h
    · exact h.upCycle cycle
  | burstWord => exact next (h.perform fun hu => hu.burstTurn) rfl
  | coarseClockAdvance => exact next h.coarseAdvance rfl
  | deferredRecordExpiry => exact next (h.whileRunning fun hu => hu.judgeExpiry) rfl
  | sweep => exact next (h.perform fun hu => hu.judgeSweep) rfl
  | agePromotion => exact next (h.perform fun hu => hu.judgeAges) rfl
  | secureDeadline => exact next (h.perform fun hu => hu.judgeDeadlines) rfl
  | linkWriteMessage address bytes => exact next (h.whileRunning fun hu => hu.linkMessage address bytes) rfl
  | status part => exact next (h.whileRunning fun hu => hu.linkStatus part) rfl
  | bind window record => exact next (h.perform fun hu => hu.linkBind window record) rfl
  | stage window record => exact next (h.perform fun hu => hu.linkStage window record) rfl
  | swap window => exact next (h.perform fun hu => hu.swapIfQuiet window) rfl
  | force window => exact next (h.perform fun hu => hu.linkForce window) rfl
  | release window => exact next (h.perform fun hu => hu.linkRelease window) rfl
  | releaseDiscard window => exact next (h.perform fun hu => hu.linkReleaseDiscard window) rfl
  | windowStates window part => exact next (h.whileRunning fun hu => hu.linkWindowStates window part) rfl
  | secure target stampLast deadline =>
    exact next (h.perform fun hu => hu.linkSecure target stampLast deadline) rfl
  | secureStatus slot => exact next (h.whileRunning fun hu => hu.linkSecureStatus slot) rfl
  | hold drive => exact next (h.perform fun hu => hu.linkHold drive) rfl
  | run drive => exact next (h.perform fun hu => hu.linkRun drive) rfl
  | adopt drive => exact next (h.perform fun hu => hu.linkAdopt drive) rfl
  | retry drive => exact next (h.perform fun hu => hu.linkRetry drive) rfl
  | format params => exact next (h.perform fun hu => hu.linkFormat params) rfl
  | readDrive drive part => exact next (h.whileRunning fun hu => hu.linkReadDrive drive part) rfl
  | setDrive drive stepMs retries halt =>
    exact next (h.whileRunning fun hu => hu.linkSetDrive drive stepMs retries halt) rfl
  | setSweep period enable restart =>
    exact next (h.whileRunning fun hu => hu.linkSetSweep period enable restart) rfl
  | setLimits deferLimit ageLimit blank =>
    exact next (h.whileRunning fun hu => hu.linkSetLimits deferLimit ageLimit blank) rfl
  | readEvents => exact next (h.whileRunning fun hu => hu.linkReadEvents) rfl
  | clearEvents tag mask => exact next (h.whileRunning fun hu => hu.linkClearEvents tag mask) rfl
  | setAlertMask mask => exact next (h.whileRunning fun hu => hu.linkSetAlertMask mask) rfl
  | readOutage start => exact next (h.whileRunning fun hu => hu.linkReadOutage start) rfl
  | clearOutage => exact next (h.whileRunning fun hu => hu.linkClearOutage) rfl
  | reset => exact next (h.whileRunning fun hu => hu.linkReset) rfl
  | readyLineRise drive protect => exact next (h.readyRises drive protect) rfl
  | readyLineFall drive => exact next (h.readyFalls drive) rfl
  | indexPulse drive elapsed => exact next (h.indexPulse drive elapsed) rfl
  | speedFault drive => exact next (h.perform fun hu => hu.badPeriods drive) rfl
  | indexLost drive => exact next (h.perform fun hu => hu.indexLost drive) rfl
  | headUnload drive => exact next (h.whileRunning fun hu => hu.unloadHeads drive) rfl
  | stepPulse drive track0 => exact next (h.whileRunning fun hu => hu.stepPulse drive track0) rfl
  | recalibrationEnd drive => exact next (h.perform fun hu => hu.recalibrated drive) rfl
  | seekFault drive => exact next (h.perform fun hu => hu.seekFails drive) rfl
  | positioningEnd drive => exact next (h.perform fun hu => hu.positioned drive) rfl
  | idFieldRead drive field =>
    exact next ((h.perform fun hu => hu.takeDue drive).perform fun hu => hu.idField drive field) rfl
  | miss drive => exact next (h.perform fun hu => hu.searchMissed drive) rfl
  | dataMarkNotFound drive => exact next (h.perform fun hu => hu.markMissing drive) rfl
  | dataFieldRead drive data crc => exact next (h.perform fun hu => hu.fieldRead drive _ crc) rfl
  | dataFieldWritten drive => exact next (h.perform fun hu => hu.fieldWritten drive) rfl
  | writeFault drive => exact next (h.perform fun hu => hu.writeFaulted drive) rfl
  | verifyRead drive data crc => exact next (h.perform fun hu => hu.fieldVerified drive _ crc) rfl
  | verifyMiss drive => exact next (h.perform fun hu => hu.verifyMissed drive) rfl
  | supplyDip => exact next h.supplyFalls rfl
  | shortDip => exact next (h.perform fun hu => hu.supplyReturns) rfl
  | longDip => exact next (h.whileRunning fun hu => hu.dipRunsOut) rfl
  | resetLine => exact next h.resetLineActs rfl
  | resetEnd => exact next h.resetEnds rfl
  | powerUp standbyKept => exact next (h.powersUp standbyKept) rfl
  | mainSupplyFailure cut => exact next (h.supplyFails cut) rfl

theorem step {t : State} (h : s.Ranged 10000) (e : Machine.step s = .next t) : t.Ranged 10000 := by
  unfold Machine.step at e
  split at e
  · cases e
    exact h.idle
  · next c rest _ => exact State.Ranged.exec (s := { s with pending := rest }) h e

end State.Ranged

/-- Settles O57: every range is kept by every operation a step is made of, an advance of the coarse clock
coming before 10,000 ticks have passed since the one before. -/
theorem rangesAreKept : Obligations.RangesAreKept := by
  refine ⟨by decide, fun s t h e => ?_⟩
  exact t.inRange_iff.mpr ((s.inRange_iff.mp h).step e)

end Sys2Proof.Machine
end

section
/-! SUPPORT. The end of a reset: the drives that rise and the held cycles; power, the supply's failure; O50. -/

namespace Sys2Proof.Machine

open Sys2Proof

/-! ## A state in which nothing follows at once -/

theorem State.nextSwap?_eq_none {s : State} (unbound : ∀ w, s.window w = .unbound) : s.nextSwap? = none :=
  List.find?_eq_none.mpr fun w _ => by simp [unbound w, Window.quiet]

theorem State.nextChoice?_eq_none {s : State} (busy : ∀ d, (s.engine d).state ≠ .idle) :
    s.nextChoice? = none := by
  refine List.findSome?_eq_none_iff.mpr fun d _ => ?_
  rw [if_neg]
  simp [Engine.mayChoose, busy d]

/-- With every window UNBOUND and no engine IDLE, no swap and no choice follows. -/
theorem State.settle_eq_self {s : State} (unbound : ∀ w, s.window w = .unbound)
    (busy : ∀ d, (s.engine d).state ≠ .idle) : s.settle = s := by
  have none : s.settleOne = none := by
    rw [State.settleOne, State.nextSwap?_eq_none unbound, State.nextChoice?_eq_none busy]
  rw [State.settle, State.settleFor, none]

/-! ## The drives rise -/

/-- The engine stands as a reset leaves it, or recalibrates after the rise of its ready line (R85, R107). -/
def Engine.Fresh (e : Engine) : Prop :=
  (e.link = false ∧ e.fault = false ∧ e.dip = false) ∧ e.door = !e.ready ∧
    e.state = if e.ready then .recalibrating else .notReady

theorem Engine.Fresh.not_idle {e : Engine} (h : e.Fresh) : e.state ≠ .idle := by
  obtain ⟨-, -, state⟩ := h
  rw [state]
  split <;> decide

theorem Engine.cleared_fresh (e : Engine) : e.cleared.Fresh := ⟨⟨rfl, rfl, rfl⟩, rfl, rfl⟩

/-- A request for a stamp read changes the pool alone, but for the entry of an evicted prefetch. -/
theorem State.requestStamp_frame (s : State) (d : DriveIx) :
    (s.requestStamp d).steady = s.steady ∧ (s.requestStamp d).engines = s.engines ∧
      (s.requestStamp d).volumes = s.volumes ∧ (s.requestStamp d).events = s.events ∧
      (s.requestStamp d).bursts = s.bursts ∧
      ∀ w, s.window w = .unbound → (s.requestStamp d).window w = .unbound := by
  unfold State.requestStamp
  split
  · next t made =>
    obtain ⟨r, -, rfl⟩ | ⟨-, r, -, rfl⟩ := State.makeOrEvict_cases made
    · exact ⟨rfl, rfl, rfl, rfl, rfl, fun _ h => h⟩
    · have evicted : (s.evict r).engines = s.engines ∧ (s.evict r).volumes = s.volumes ∧
          (s.evict r).events = s.events ∧ (s.evict r).bursts = s.bursts ∧
          ∀ w, s.window w = .unbound → (s.evict r).window w = .unbound := by
        unfold State.evict
        split
        · next x _ =>
          refine ⟨rfl, rfl, rfl, rfl, fun w h => ?_⟩
          rw [State.window_congr (State.dropRecord_windows _ r), State.modEntry_eq, State.window_setWindow]
          split
          · next same => rw [← same, h, Window.modEntry]
          · exact h
        · exact ⟨rfl, rfl, rfl, rfl, fun _ h => h⟩
      exact ⟨s.evict_steady r, evicted⟩
  · split <;> exact ⟨rfl, rfl, rfl, rfl, rfl, fun _ h => h⟩

/-- What stands while the drives rise at the end of a reset: `t` is on the way from `s`. -/
structure State.Rising (s t : State) : Prop where
  steady  : t.steady = s.steady
  events  : t.events = s.events
  bursts  : t.bursts = s.bursts
  unbound : ∀ w, t.window w = .unbound
  ready   : ∀ d, (t.engine d).ready = (s.engine d).ready
  fresh   : ∀ d, (t.engine d).Fresh

/-- A fresh engine whose ready line has risen is without holds and begins to recalibrate (R85). -/
theorem State.driveRisen_eq {s : State} {d : DriveIx} (fresh : (s.engine d).Fresh) :
    s.driveRisen d = (((s.modEngine d Engine.rise).modVolume d Volume.rise).requestStamp d).startRecal d := by
  obtain ⟨-, engines, -⟩ := ((s.modEngine d Engine.rise).modVolume d Volume.rise).requestStamp_frame d
  have risen : ((((s.modEngine d Engine.rise).modVolume d Volume.rise).requestStamp d).engine d) =
      (s.engine d).rise := (State.engine_congr engines d).trans (State.engine_modEngine_self s d _)
  obtain ⟨⟨link, fault, dip⟩, -⟩ := fresh
  rw [State.driveRisen, State.resume]
  simp [risen, Engine.rise, Engine.unheld, link, fault, dip]

/-- A fresh engine at the rise of its ready line: it recalibrates, and the other engines stand (R85). -/
theorem State.engine_driveRisen {s : State} {d : DriveIx} (fresh : (s.engine d).Fresh) (d' : DriveIx) :
    (s.driveRisen d).engine d' =
      if d' = d then { (s.engine d).rise.beginRecal with state := .recalibrating } else s.engine d' := by
  obtain ⟨-, engines, -⟩ := ((s.modEngine d Engine.rise).modVolume d Volume.rise).requestStamp_frame d
  have engine (d' : DriveIx) :
      (((s.modEngine d Engine.rise).modVolume d Volume.rise).requestStamp d).engine d' =
        (s.modEngine d Engine.rise).engine d' := State.engine_congr engines d'
  rw [State.driveRisen_eq fresh, State.startRecal, State.modEngine_eq, State.engine_setEngine, engine,
    engine, State.engine_modEngine_self, State.modEngine_eq, State.engine_setEngine]
  split <;> rfl

namespace State.Rising

variable {s t : State}

theorem riseIfReady (h : s.Rising t) (d : DriveIx) : s.Rising (t.riseIfReady d) := by
  unfold State.riseIfReady
  split
  · next high =>
    have engine := State.engine_driveRisen (h.fresh d)
    rw [State.driveRisen_eq (h.fresh d)] at engine ⊢
    obtain ⟨steady, -, -, events, bursts, windows⟩ :=
      ((t.modEngine d Engine.rise).modVolume d Volume.rise).requestStamp_frame d
    refine ⟨steady.trans h.steady, events.trans h.events, bursts.trans h.bursts,
      fun w => windows w (h.unbound w), fun d' => ?_, fun d' => ?_⟩
    · rw [engine d', ← h.ready d']
      split
      · next same => rw [same]; rfl
      · rfl
    · rw [engine d']
      split
      · obtain ⟨holds, -, -⟩ := h.fresh d
        refine ⟨holds, ?_, ?_⟩ <;> simp [Engine.rise, Engine.beginRecal, high]
      · exact h.fresh d'
  · exact h

theorem foldl (h : s.Rising t) (l : List DriveIx) : s.Rising (l.foldl State.riseIfReady t) :=
  foldl_invariant s.Rising _ (fun _ d ht => ht.riseIfReady d) l t h

/-- Nothing follows at once on the rise of the drives. -/
theorem settle (h : s.Rising t) : t.settle = t :=
  State.settle_eq_self h.unbound fun d => (h.fresh d).not_idle

end State.Rising

/-- A drive that rises has its stamp read, and no other volume record changes (R133). -/
theorem State.riseIfReady_volume {t : State} (fresh : ∀ d, (t.engine d).Fresh) (d d' : DriveIx) :
    (t.riseIfReady d).volume d' =
      if d' = d ∧ (t.engine d').ready = true then (t.volume d').rise else t.volume d' := by
  unfold State.riseIfReady
  split
  · next high =>
    rw [State.driveRisen_eq (fresh d)]
    obtain ⟨-, -, volumes, -⟩ :=
      ((t.modEngine d Engine.rise).modVolume d Volume.rise).requestStamp_frame d
    change (((t.modEngine d Engine.rise).modVolume d Volume.rise).requestStamp d).volume d' = _
    rw [State.volume_congr volumes, State.modVolume_eq, State.volume_setVolume]
    by_cases same : d' = d
    · subst same
      simp [high]
      rfl
    · simp [same]
      rfl
  · next low =>
    by_cases same : d' = d
    · subst same
      simp [low]
    · simp [same]

/-- Of the drives of a list, those that are ready have their stamp read after all have risen. -/
theorem State.Rising.foldl_volume {s t : State} (h : s.Rising t) (l : List DriveIx) (d : DriveIx) :
    (l.foldl State.riseIfReady t).volume d =
      if d ∈ l ∧ (t.engine d).ready = true then (t.volume d).rise else t.volume d := by
  induction l generalizing t with
  | nil => simp
  | cons a rest ih =>
    have ready : ((t.riseIfReady a).engine d).ready = (t.engine d).ready :=
      ((h.riseIfReady a).ready d).trans (h.ready d).symm
    rw [List.foldl_cons, ih (h.riseIfReady a), ready, State.riseIfReady_volume h.fresh]
    by_cases high : (t.engine d).ready = true
    · by_cases same : d = a
      · subst same
        simp [high, Volume.rise]
      · simp [same]
    · simp [high]

/-! ## The held cycles -/

/-- The part runs with no window bound, no burst and no engine at a choice: a cycle has nothing to wait for. -/
structure State.Bare (s : State) : Prop where
  running : s.power = .running
  unbound : ∀ w, s.window w = .unbound
  bursts  : s.bursts = BurstUnit.reset
  busy    : ∀ d, (s.engine d).state ≠ .idle

theorem State.locate_eq_none {s : State} (unbound : ∀ w, s.window w = .unbound) (a : Nat) :
    s.locate a = none :=
  List.findSome?_eq_none_iff.mpr fun w _ => by simp [State.binding?, unbound w, Window.current?]

/-- Memory after an access to a 20-bit address, as the part performs it (R2). -/
theorem State.writeFor_memory (s : State) (a : BitVec 20) (c : Access) :
    (s.writeFor a.toNat c).memory = memoryAfter s.memory a.toNat c := by
  have bound : a.toNat < memorySize := a.isLt
  have word : a.toNat / 2 * 2 + 1 < memorySize := by
    unfold memorySize at *
    omega
  cases c with
  | readByte => rfl
  | readWord => rfl
  | writeByte v => rw [State.writeFor, State.writeByte, memoryAfter, Nat.mod_eq_of_lt bound]
  | writeWord v =>
    rw [State.writeFor, State.writeWord, State.writeByte, State.writeByte, memoryAfter,
      Nat.mod_eq_of_lt word, Nat.mod_eq_of_lt (Nat.lt_of_succ_lt word)]

theorem State.readFor_eq (s : State) (a : BitVec 20) (c : Access) :
    s.readFor a.toNat c = memoryData s.memory a.toNat c := by
  have bound : a.toNat < memorySize := a.isLt
  have word : a.toNat / 2 * 2 + 1 < memorySize := by
    unfold memorySize at *
    omega
  cases c with
  | readByte => rw [State.readFor, State.readByte, memoryData, Nat.mod_eq_of_lt bound]
  | readWord =>
    rw [State.readFor, State.readWord, State.readByte, State.readByte, memoryData,
      Nat.mod_eq_of_lt word, Nat.mod_eq_of_lt (Nat.lt_of_succ_lt word)]
  | writeByte v => rfl
  | writeWord v => rfl

theorem State.writeFor_eq (s : State) (a : BitVec 20) (c : Access) :
    s.writeFor a.toNat c = { s with memory := memoryAfter s.memory a.toNat c } := by
  rw [← State.writeFor_memory]
  cases c <;> rfl

namespace State.Bare

variable {s : State}

theorem settle (h : s.Bare) : s.settle = s := State.settle_eq_self h.unbound h.busy

theorem expireRecords (h : s.Bare) : s.expireRecords.Bare := ⟨h.running, h.unbound, h.bursts, h.busy⟩

theorem judgeExpiry (h : s.Bare) : s.judgeExpiry.Bare := by
  unfold State.judgeExpiry
  split
  · exact h.expireRecords
  · exact h

/-- A cycle that lies in no window passes with memory's own answer, and changes memory alone (R3). -/
theorem decodeCycle (h : s.Bare) (c : UpCycle) :
    s.decodeCycle c = { s with
      answer := some { answer := .pass, data := memoryData s.memory c.addr.toNat c.access }
      memory := memoryAfter s.memory c.addr.toNat c.access } := by
  rw [State.decodeCycle, State.locate_eq_none h.unbound]
  dsimp only
  rw [State.writeFor_eq, State.readFor_eq]
  rfl

/-- An upstream cycle on a bare part: its answer and its write come after the expiry judgement alone. -/
theorem upCycle (h : s.Bare) (c : UpCycle) :
    s.upCycle c = { s.judgeExpiry with
      answer := some { answer := .pass, data := memoryData s.memory c.addr.toNat c.access }
      memory := memoryAfter s.memory c.addr.toNat c.access } := by
  have paid : s.payBurst = s := by
    rw [State.payBurst, h.bursts]
    rfl
  have memory : s.judgeExpiry.memory = s.memory := by
    unfold State.judgeExpiry
    split <;> rfl
  have decoded := h.judgeExpiry.decodeCycle c
  rw [memory] at decoded
  have bare : (s.judgeExpiry.decodeCycle c).Bare := by
    rw [decoded]
    exact ⟨h.judgeExpiry.running, h.judgeExpiry.unbound, h.judgeExpiry.bursts, h.judgeExpiry.busy⟩
  have bursts := h.judgeExpiry.bursts
  rw [State.upCycle, paid, bare.settle, decoded]
  dsimp only
  rw [bursts]
  rfl

end State.Bare

/-- Memory and the answers after one more held cycle (R20). -/
def heldStep (p : Memory × List Reply) (c : UpCycle) : Memory × List Reply :=
  (memoryAfter p.1 c.addr.toNat c.access,
    p.2 ++ [{ answer := .pass, data := memoryData p.1 c.addr.toNat c.access }])

namespace State.Bare

variable {s : State}

/-- A held cycle on a bare part is answered PASS by memory itself, and the answer is kept last (R20). -/
theorem heldCycle (h : s.Bare) (c : UpCycle) :
    (s.heldCycle c).Bare ∧ (s.heldCycle c).heldCycles = s.heldCycles ∧
      ((s.heldCycle c).memory, (s.heldCycle c).heldAnswers) = heldStep (s.memory, s.heldAnswers) c ∧
      (s.heldCycle c).answer = (s.heldCycle c).heldAnswers.getLast? := by
  obtain ⟨running, unbound, bursts, busy⟩ := h.judgeExpiry
  have kept : s.judgeExpiry.heldCycles = s.heldCycles ∧ s.judgeExpiry.heldAnswers = s.heldAnswers := by
    unfold State.judgeExpiry
    split <;> exact ⟨rfl, rfl⟩
  obtain ⟨cycles, answers⟩ := kept
  rw [State.heldCycle, h.upCycle]
  dsimp only
  rw [answers]
  refine ⟨⟨running, unbound, bursts, busy⟩, cycles, rfl, ?_⟩
  rw [Option.toList_some, List.getLast?_concat]

/-- The held cycles are answered one after another, each on the memory that those before it left (R20). -/
theorem foldl_heldCycle (h : s.Bare) (l : List UpCycle) : ∃ t, l.foldl State.heldCycle s = t ∧ t.Bare ∧
    t.heldCycles = s.heldCycles ∧ (t.memory, t.heldAnswers) = l.foldl heldStep (s.memory, s.heldAnswers) ∧
    (l ≠ [] → t.answer = t.heldAnswers.getLast?) := by
  induction l using List.reverseRecOn with
  | nil => exact ⟨s, rfl, h, rfl, rfl, fun none => absurd rfl none⟩
  | append_singleton l c ih =>
    obtain ⟨t, folded, bare, cycles, answers, -⟩ := ih
    obtain ⟨bare', cycles', answers', last⟩ := bare.heldCycle c
    rw [List.foldl_concat, List.foldl_concat, folded, ← answers]
    exact ⟨_, rfl, bare', cycles'.trans cycles, answers', fun _ => last⟩

end State.Bare

/-! ## The end of a reset -/

/-- What an event raised leaves as it is stands as after the rise of the drives. -/
theorem State.reopened_keeps {β : Type} (g : State → β)
    (hg : ∀ u : State, g (u.raise .outageRecorded) = g u) (s : State) (powerUp raised : Bool) : g (s.reopened powerUp raised) = g (s.released powerUp).risen := by
  unfold State.reopened
  split
  · exact hg _
  · rfl

theorem State.engine_released (s : State) (powerUp : Bool) (d : DriveIx) :
    (s.released powerUp).engine d = (s.engine d).cleared := by
  rw [State.engine, Fin.getElem_fin]
  simp only [State.released, Vector.getElem_map]
  rfl

section

variable {s : State} (powerUp : Bool) (unbound : ∀ w, s.window w = .unbound)

include unbound

theorem State.released_rising : (s.released powerUp).Rising (s.released powerUp) :=
  ⟨rfl, rfl, rfl, unbound, fun _ => rfl, fun d => s.engine_released powerUp d ▸ Engine.cleared_fresh _⟩

theorem State.risen_eq :
    (s.released powerUp).risen = allDrives.foldl State.riseIfReady (s.released powerUp) :=
  ((State.released_rising powerUp unbound).foldl allDrives).settle

theorem State.risen_rising : (s.released powerUp).Rising (s.released powerUp).risen := by
  rw [State.risen_eq powerUp unbound]
  exact (State.released_rising powerUp unbound).foldl allDrives

theorem State.reopened_steady (raised : Bool) :
    (s.reopened powerUp raised).steady = (s.released powerUp).steady :=
  (s.reopened_keeps State.steady (fun _ => rfl) powerUp raised).trans
    (State.risen_rising powerUp unbound).steady

theorem State.reopened_window (raised : Bool) (w : WinIx) :
    (s.reopened powerUp raised).window w = .unbound :=
  (s.reopened_keeps (State.window · w) (fun _ => rfl) powerUp raised).trans
    ((State.risen_rising powerUp unbound).unbound w)

theorem State.reopened_fresh (raised : Bool) (d : DriveIx) :
    ((s.reopened powerUp raised).engine d).Fresh ∧
      ((s.reopened powerUp raised).engine d).ready = (s.engine d).ready := by
  have risen := State.risen_rising powerUp unbound
  rw [s.reopened_keeps (State.engine · d) (fun _ => rfl)]
  exact ⟨risen.fresh d, (risen.ready d).trans (by rw [s.engine_released]; rfl)⟩

/-- Of the volume records the ready drives' are as after the rise of their lines (R107, R131). -/
theorem State.reopened_volume (raised : Bool) (d : DriveIx) : (s.reopened powerUp raised).volume d =
    if (s.engine d).ready = true then (s.volume d).rise else s.volume d := by
  rw [s.reopened_keeps (State.volume · d) (fun _ => rfl), State.risen_eq powerUp unbound,
    (State.released_rising powerUp unbound).foldl_volume, s.engine_released]
  simp only [mem_allDrives, true_and]
  rfl

/-- The part is bare as it opens again where no burst was under way. -/
theorem State.reopened_bare (raised : Bool) (bursts : s.bursts = BurstUnit.reset) :
    (s.reopened powerUp raised).Bare := by
  refine ⟨congrArg Steady.power (State.reopened_steady powerUp unbound raised),
    State.reopened_window powerUp unbound raised, ?_, fun d => ?_⟩
  · rw [s.reopened_keeps State.bursts (fun _ => rfl), (State.risen_rising powerUp unbound).bursts]
    exact bursts
  · obtain ⟨fresh, -⟩ := State.reopened_fresh powerUp unbound raised d
    exact fresh.not_idle

end

theorem EventUnit.raised_raise (u : EventUnit) (e : Event) : (u.raise e).raised e = true := by
  have bound : e.number < 22 := by cases e <;> decide
  have again : (u.raise e).again.getLsbD e.number = true := by
    simp [EventUnit.raise, Event.bit, bound]
  rw [EventUnit.raised, EventUnit.raise_flags, again]
  simp

/-! ## The recording of dirty entries -/

theorem Store.foldl_record_list (o : Store) (l : List OutageEntry) (h : o.list.length ≤ 32) :
    (l.foldl Store.record o).list = o.list ++ l.take (32 - o.list.length) := by
  induction l generalizing o with
  | nil => simp
  | cons x rest ih =>
    rw [List.foldl_cons]
    by_cases room : o.list.length < 32
    · have added : o.record x = { o with list := o.list ++ [x] } := if_pos room
      obtain ⟨k, hk⟩ : ∃ k, 32 - o.list.length = k + 1 := ⟨31 - o.list.length, by omega⟩
      have less : 32 - (o.list ++ [x]).length = k := by
        rw [List.length_append, List.length_singleton]
        omega
      rw [added, ih _ (by simp only [List.length_append, List.length_singleton]; omega), less, hk,
        List.take_succ_cons, List.append_assoc, List.singleton_append]
    · have full : o.record x = { o with overflow := min 255 (o.overflow + 1) } := if_neg room
      rw [full, ih { o with overflow := min 255 (o.overflow + 1) } h]
      simp [show 32 - o.list.length = 0 by omega]

/-- What a recording notes of the entry at a place, if it is dirty: its disk address and its window (R159). -/
def State.lostEntry? (s : State) (x : SectorRef) : Option OutageEntry :=
  match s.entry? x with
  | some e => if e.state.isDirty then some { addr := e.addr, win := x.win } else none
  | none => none

/-- The first dirty entries, as a recording notes them, are the first of what it notes of all entries. -/
theorem State.take_dirtyRefs (s : State) (n : Nat) :
    (s.dirtyRefs.take n).filterMap s.outageEntry? = (s.allRefs.filterMap s.lostEntry?).take n := by
  unfold State.dirtyRefs
  induction s.allRefs generalizing n with
  | nil => simp
  | cons x rest ih =>
    cases entry : s.entry? x with
    | none => simp [State.lostEntry?, entry, ih]
    | some e =>
      by_cases dirty : e.state.isDirty = true
      · cases n with
        | zero => simp
        | succ n => simp [State.lostEntry?, State.outageEntry?, entry, dirty, ih]
      · simp [State.lostEntry?, entry, dirty, ih]

/-- The Outage List after the recording of the first `n` dirty entries (R159). -/
theorem State.recorded_list (s : State) (cause : WarmCause) (n : Nat) (h : s.store.list.length ≤ 32) :
    (s.recorded cause n).list =
      s.store.list ++ ((s.allRefs.filterMap s.lostEntry?).take n).take (32 - s.store.list.length) := by
  rw [State.recorded, State.take_dirtyRefs]
  exact Store.foldl_record_list { s.store with cause := warmCause cause } _ h

/-! ## The clauses of O50 -/

theorem State.window_powersUp (s : State) (kept : Bool) (w : WinIx) :
    (State.powersUp kept s).window w = .unbound := by
  simp [State.window, State.powersUp, State.cleared]

theorem State.window_supplyFails (s : State) (cut : Option (WarmCause × Nat)) (w : WinIx) :
    (State.supplyFails cut s).window w = .unbound := by
  simp [State.window, State.supplyFails, State.cleared]

/-- The end of a reset with no cycle held off (R1, R107, R158). -/
theorem resetEnd_withoutCycles {s : State} {p raised : Bool} (power : s.power = .inReset p raised)
    (held : s.heldCycles = []) (unbound : ∀ w, s.window w = .unbound) :
    ∃ t, exec .resetEnd s = .next t ∧ t.power = .running ∧
      t.resetLine = false ∧ t.supplyLow = false ∧ t.memory = s.memory ∧ t.store = s.store ∧
      t.clock.coarse = (if p then 0 else s.clock.coarse) ∧ t.clock.tick = (if p then 0 else s.clock.tick) ∧
      (raised = true → t.events.raised .outageRecorded) ∧ (raised = false → t.events = s.events) ∧
      (∀ d, (s.engine d).ready = true → (t.engine d).state = .recalibrating ∧
        (t.engine d).door = false ∧ (t.volume d).state = .readingStamp) ∧
      (∀ d, (s.engine d).ready = false → (t.engine d).state = .notReady ∧
        (t.engine d).door = true ∧ t.volume d = s.volume d) := by
  have steady := State.reopened_steady p unbound raised
  have clock : (s.reopened p raised).clock = (s.released p).clock := congrArg Steady.clock steady
  have ended : s.resetEnds = s.reopened p raised := by
    rw [State.resetEnds_inReset power, held, List.foldl_nil]
  refine ⟨s.reopened p raised, congrArg Host.Outcome.next ended, congrArg Steady.power steady,
    congrArg Steady.resetLine steady, congrArg Steady.supplyLow steady, congrArg Steady.memory steady,
    congrArg Steady.store steady, ?_, ?_, ?_, ?_, fun d high => ?_, fun d low => ?_⟩
  · rw [clock]
    cases p <;> rfl
  · rw [clock]
    cases p <;> rfl
  · rintro rfl
    exact EventUnit.raised_raise _ _
  · rintro rfl
    exact (State.risen_rising p unbound).events
  · obtain ⟨⟨-, door, state⟩, ready⟩ := State.reopened_fresh p unbound raised d
    rw [state, door, ready, high, State.reopened_volume p unbound raised, high]
    exact ⟨rfl, rfl, rfl⟩
  · obtain ⟨⟨-, door, state⟩, ready⟩ := State.reopened_fresh p unbound raised d
    rw [state, door, ready, low, State.reopened_volume p unbound raised, low]
    exact ⟨rfl, rfl, rfl⟩

/-- The cycles that a reset has held off pass at its end, each with memory's own answer (R20). -/
theorem resetEnd_heldCycles {s : State} {p raised : Bool} (power : s.power = .inReset p raised)
    (unbound : ∀ w, s.window w = .unbound) (bursts : s.bursts = BurstUnit.reset) :
    ∃ t, exec .resetEnd s = .next t ∧ t.power = .running ∧ t.heldCycles = [] ∧
      (t.memory, t.heldAnswers) = s.heldCycles.foldl heldStep (s.memory, []) ∧
      (s.heldCycles ≠ [] → t.answer = t.heldAnswers.getLast?) := by
  have steady := State.reopened_steady p unbound raised
  have memory : (s.reopened p raised).memory = s.memory := congrArg Steady.memory steady
  have answers : (s.reopened p raised).heldAnswers = [] := congrArg Steady.heldAnswers steady
  obtain ⟨t, ended, bare, cycles, folded, last⟩ :=
    (State.reopened_bare p unbound raised bursts).foldl_heldCycle s.heldCycles
  rw [memory, answers] at folded
  exact ⟨t, congrArg Host.Outcome.next ((State.resetEnds_inReset power).trans ended), bare.running,
    cycles.trans (congrArg Steady.heldCycles steady), folded, last⟩

/-- Power applied clears the part and keeps the Outage Store where it is found valid (R160). -/
theorem powerUp_outcome (s : State) (kept : Bool) : ∃ t, exec (.powerUp kept) s = .next t ∧
    t.memory = s.memory ∧ (∀ w, t.window w = .unbound) ∧ t.pool = Pool.reset ∧ t.events = EventUnit.reset ∧
    t.link.response = [0x00] ∧ t.store.valid = true ∧
    (kept = true → s.store.valid = true → t.store.list = s.store.list ∧
      t.store.overflow = s.store.overflow ∧ t.store.cause = .powerUp ∧
      t.power = .inReset true (decide (s.store.list ≠ []))) ∧
    (kept = false ∨ s.store.valid = false → t.store.list = [] ∧ t.store.overflow = 0 ∧
      t.store.cause = .coldStart ∧ t.power = .inReset true false) := by
  refine ⟨_, rfl, rfl, s.window_powersUp kept, rfl, rfl, rfl, ?_, ?_, ?_⟩
  · cases kept <;> cases valid : s.store.valid <;> simp [State.powersUp, State.cleared, valid]
  · rintro rfl valid
    simp [State.powersUp, State.cleared, valid]
  · rintro (rfl | invalid)
    · exact ⟨rfl, rfl, rfl, rfl⟩
    · simp [State.powersUp, State.cleared, invalid]

/-- Settles O50: the drives that rise at the end of a reset leave every held cycle to memory itself, power
applied and the supply's failure clear every block, and a recording cut short has noted a first part. -/
theorem resetEndsAndPowerComesAndGoes : Obligations.ResetEndsAndPowerComesAndGoes := by
  refine ⟨fun s power => ?_, fun s p raised => resetEnd_withoutCycles,
    fun s p raised => resetEnd_heldCycles, powerUp_outcome, fun s => ?_, fun s cause n running room => ?_⟩
  · exact congrArg Host.Outcome.next (State.resetEnds_off power.symm)
  · refine ⟨_, rfl, rfl, ?_, s.window_supplyFails none, rfl, rfl⟩
    cases power : s.power <;> simp [State.supplyFails, State.cleared, power]
  · refine ⟨_, rfl, rfl, ?_⟩
    have recorded : (State.supplyFails (some (cause, n)) s).store.list = (s.recorded cause n).list := by
      simp [State.supplyFails, State.cleared, running]
    exact recorded.trans (s.recorded_list cause n room)

end Sys2Proof.Machine
end

section
/-! SUPPORT. What the inner work of the part leaves alone: memory, power and the dip stand, no flag is cleared. -/

namespace Sys2Proof.Machine

open Sys2Proof

/-! ## The relation -/

/-- No event flag that is set in `s` is clear in `t` (R169). -/
def State.FlagsKept (s t : State) : Prop :=
  ∀ n, s.events.flags.getLsbD n = true → t.events.flags.getLsbD n = true

/-- From `s` to `t` the part has only worked on its own tables: main memory, the power, the cause of the
latest reset and the running of the dip timer stand, no event flag is cleared (R169), and no burst comes to
be owed a turn of the port (R19). -/
def State.Onward (s t : State) : Prop :=
  t.memory = s.memory ∧ t.power = s.power ∧ t.store.cause = s.store.cause ∧
    t.store.dipTimer.isSome = s.store.dipTimer.isSome ∧ s.FlagsKept t ∧
    (s.bursts.owed = false → t.bursts.owed = false)

theorem State.FlagsKept.trans {s t u : State} (h : s.FlagsKept t) (k : t.FlagsKept u) : s.FlagsKept u :=
  fun n hn => k n (h n hn)

theorem State.flagsKept_raise (s : State) (e : Event) : s.FlagsKept (s.raise e) := fun n hn => by
  rw [State.raise_events, EventUnit.raise_flags, hn, Bool.true_or]

namespace State.Onward

variable {o s : State}

theorem refl (s : State) : s.Onward s := ⟨rfl, rfl, rfl, rfl, fun _ h => h, fun h => h⟩

theorem trans {t : State} (h : o.Onward s) (k : s.Onward t) : o.Onward t := by
  obtain ⟨memory, power, cause, dip, flags, owed⟩ := h
  obtain ⟨memory', power', cause', dip', flags', owed'⟩ := k
  exact ⟨memory'.trans memory, power'.trans power, cause'.trans cause, dip'.trans dip, flags.trans flags',
    fun h => owed' (owed h)⟩

theorem memory (h : o.Onward s) : s.memory = o.memory := by
  obtain ⟨memory, -⟩ := h
  exact memory

theorem power (h : o.Onward s) : s.power = o.power := by
  obtain ⟨-, power, -⟩ := h
  exact power

theorem flags (h : o.Onward s) : o.FlagsKept s := by
  obtain ⟨-, -, -, -, flags, -⟩ := h
  exact flags

theorem owed (h : o.Onward s) (turn : o.bursts.owed = false) : s.bursts.owed = false := by
  obtain ⟨-, -, -, -, -, owed⟩ := h
  exact owed turn

/-! ## Branches and folds -/

theorem ite {p : Prop} [Decidable p] {t : State} (hs : o.Onward s) (ht : o.Onward t) :
    o.Onward (if p then s else t) := by
  split
  · exact hs
  · exact ht

theorem foldl {α : Type} (h : o.Onward s) (f : State → α → State)
    (hf : ∀ (t : State) (a : α), o.Onward t → o.Onward (f t a)) (l : List α) : o.Onward (l.foldl f s) :=
  foldl_invariant o.Onward f hf l s h

/-! ## One update -/

theorem raise (h : o.Onward s) (e : Event) : o.Onward (s.raise e) :=
  h.trans ⟨rfl, rfl, rfl, rfl, s.flagsKept_raise e, fun h => h⟩

/-- Bursts come, wait and go, the debt of the port's turn standing. -/
theorem bursts (h : o.Onward s) (running : Option Burst) (queue : List Burst) (behind : List BurstRequest) :
    o.Onward { s with bursts :=
      { running := running, queue := queue, behind := behind, owed := s.bursts.owed } } := h

/-- A burst that has taken its turn is owed none. -/
theorem paid (h : o.Onward s) {u : BurstUnit} (none : u.owed = false) : o.Onward { s with bursts := u } :=
  h.trans ⟨rfl, rfl, rfl, rfl, fun _ h => h, fun _ => none⟩

theorem bufWait (h : o.Onward s) (l : List DriveIx) : o.Onward { s with bufWait := l } := h

theorem chan (h : o.Onward s) (c : Channel) : o.Onward { s with chan := c } := h

theorem pool (h : o.Onward s) (p : Pool) : o.Onward { s with pool := p } := h

theorem path (h : o.Onward s) (p : Path) : o.Onward { s with path := p } := h

theorem clock (h : o.Onward s) (c : Clock) : o.Onward { s with clock := c } := h

theorem diskOut (h : o.Onward s) (x : Option DiskOut) : o.Onward { s with diskOut := x } := h

theorem engines (h : o.Onward s) (v : Vector Engine 4) : o.Onward { s with engines := v } := h

theorem modEngine (h : o.Onward s) (d : DriveIx) (f : Engine → Engine) : o.Onward (s.modEngine d f) := h

theorem modVolume (h : o.Onward s) (d : DriveIx) (f : Volume → Volume) : o.Onward (s.modVolume d f) := h

theorem setWindow (h : o.Onward s) (w : WinIx) (x : Window) : o.Onward (s.setWindow w x) := h

theorem modEntry (h : o.Onward s) (x : SectorRef) (f : Entry → Entry) : o.Onward (s.modEntry x f) := h

theorem setSlot (h : o.Onward s) (k : SlotIx) (x : Slot) : o.Onward (s.setSlot k x) := h

theorem modRecord (h : o.Onward s) (r : RecIx) (f : Record → Record) : o.Onward (s.modRecord r f) := h

theorem makeRecord (h : o.Onward s) (r : RecIx) (q : Record) : o.Onward (s.makeRecord r q) := h

theorem dropRecord (h : o.Onward s) (r : RecIx) : o.Onward (s.dropRecord r) := h

theorem setBuffer (h : o.Onward s) (b : BufIx) (x : List Byte) : o.Onward (s.setBuffer b x) := h

theorem takeCommand (h : o.Onward s) (c : Byte) (params : List Byte) :
    o.Onward (s.takeCommand c params) := h

theorem respond (h : o.Onward s) (r : Result) (data : List Byte) : o.Onward (s.respond r data) := h

/-! ## Slots and the pool -/

theorem endSlot (h : o.Onward s) (k : SlotIx) : o.Onward (s.endSlot k) := by
  unfold State.endSlot
  exact ((h.setSlot k _).raise _).ite h

theorem markGone (h : o.Onward s) (failure : Bool) (k : SlotIx) : o.Onward (s.markGone failure k) :=
  ((h.setSlot k _).endSlot k).ite h

theorem marksGone (h : o.Onward s) (failure : Bool) (marks : BitVec 4) :
    o.Onward (s.marksGone failure marks) :=
  h.foldl _ (fun _ k ht => (ht.markGone failure k).ite ht) _

theorem requestWrite (h : o.Onward s) (x : SectorRef) (u : Urgency) : o.Onward (s.requestWrite x u) := by
  obtain e | ⟨r, -, -, e⟩ | ⟨y, -, -, -, -, e⟩ | ⟨y, r, -, -, -, -, -, -, e⟩ :=
    s.requestWrite_cases x u <;> rw [e]
  · exact h
  · exact h.modRecord r _
  · exact (h.pool _).raise .backlog
  · exact h.makeRecord r _

theorem provide (h : o.Onward s) (x : SectorRef) (retry : Bool) : o.Onward (s.provide x retry) := by
  obtain e | e | e := s.provide_cases x retry <;> rw [e]
  · exact h
  · exact h.requestWrite x .urgent
  · exact h.requestWrite x .normal

theorem makeOrEvict (h : o.Onward s) {q : Record} {t : State} (e : s.makeOrEvict q = some t) :
    o.Onward t := by
  obtain ⟨r, -, rfl⟩ | ⟨-, r, -, rfl⟩ := State.makeOrEvict_cases e
  · exact h
  · have evicted : o.Onward (s.evict r) := by
      unfold State.evict
      split <;> exact h
    exact evicted.makeRecord r q

theorem requestFill (h : o.Onward s) (x : SectorRef) (e : Entry) : o.Onward (s.requestFill x e) := by
  unfold State.requestFill
  split
  · exact h
  · split
    · next t made => exact (h.makeOrEvict made).modEntry x _
    · exact h

theorem raiseFill (h : o.Onward s) (x : SectorRef) : o.Onward (s.raiseFill x) := by
  unfold State.raiseFill
  split <;> exact h

theorem requestStamp (h : o.Onward s) (d : DriveIx) : o.Onward (s.requestStamp d) := by
  unfold State.requestStamp
  split
  · next t made => exact h.makeOrEvict made
  · exact h.ite (h.pool _)

theorem handOut (h : o.Onward s) (r : RecIx) : o.Onward (s.handOut r) := by
  obtain ⟨-, -, e⟩ | ⟨d, rest, -, e⟩ | ⟨x, y, -, -, -, e⟩ := s.handOut_cases r <;> rw [e]
  all_goals exact h

theorem readAhead (h : o.Onward s) (w : WinIx) (k j : Nat) : o.Onward (s.readAhead w k j) := by
  induction k generalizing s j with
  | zero => exact h
  | succ k ih =>
    unfold State.readAhead
    split
    · refine h.ite ?_
      split
      · exact h
      · refine (ih h (j + 1)).ite (h.ite ?_)
        split
        · exact h
        · next r _ => exact ih ((h.makeRecord r _).modEntry _ _) (j + 1)
    · exact h

/-! ## Bursts -/

theorem startNext (h : o.Onward s) : o.Onward s.startNext := by
  obtain e | ⟨u, rest, -, -, e⟩ := s.startNext_cases <;> rw [e]
  · exact h
  · exact h.bursts _ _ _

theorem joinQueue (h : o.Onward s) (u : Burst) : o.Onward (s.joinQueue u) := h.bursts _ _ _

theorem requestBurst (h : o.Onward s) (q : BurstRequest) : o.Onward (s.requestBurst q) := by
  obtain e | e | ⟨u, -, e⟩ := s.requestBurst_cases q <;> rw [e]
  · exact h
  · exact h.bursts _ _ _
  · exact (h.joinQueue u).startNext

theorem placeFreed (h : o.Onward s) (d : DriveIx) : o.Onward (s.placeFreed d) := by
  unfold State.placeFreed
  split
  · exact h
  · next q _ =>
    have t : o.Onward { s with bursts := { s.bursts with behind := s.bursts.behind.erase q } } :=
      h.bursts _ _ _
    dsimp only
    split
    · exact t.joinQueue _
    · exact t

theorem endRunning (h : o.Onward s) : o.Onward s.endRunning := by
  unfold State.endRunning
  split
  · exact h
  · exact ((h.paid rfl).placeFreed _).startNext

theorem withdraw (h : o.Onward s) (p : Burst → Bool) : o.Onward (s.withdraw p) :=
  ((h.bursts _ _ _).foldl _ (fun _ u ht => ht.placeFreed u.drive) _).startNext

theorem withdrawRecord (h : o.Onward s) (r : RecIx) : o.Onward (s.withdrawRecord r) :=
  (h.bursts _ _ _).withdraw _

theorem stopCopyOut (h : o.Onward s) (r : RecIx) : o.Onward (s.stopCopyOut r) := by
  unfold State.stopCopyOut
  split
  · exact h.endRunning.ite h
  · exact h

/-! ## Positioning, buffers and the channel -/

theorem startPositioning (h : o.Onward s) (d : DriveIx) (r : RecIx) : o.Onward (s.startPositioning d r) := by
  unfold State.startPositioning
  split <;> exact h

theorem giveBuffer (h : o.Onward s) (d : DriveIx) (r : RecIx) (b : BufIx) :
    o.Onward (s.giveBuffer d r b) := by
  unfold State.giveBuffer
  split
  · exact h
  · have t := h.modRecord r fun q => { q with buffer := some b, copied := false }
    dsimp only
    split
    · exact (t.modEntry _ _).startPositioning d r
    · exact (t.modEntry _ _).startPositioning d r
    · exact (t.requestBurst _).startPositioning d r
    · exact t.startPositioning d r

theorem handBuffer (h : o.Onward s) (b : BufIx) : o.Onward (s.handBuffer b) := by
  obtain e | ⟨d, rest, -, -, e | ⟨r, -, -, e⟩⟩ := s.handBuffer_cases b <;> rw [e]
  · exact h
  · exact h
  · exact (h.bufWait rest).giveBuffer d r b

theorem handBuffers (h : o.Onward s) : o.Onward s.handBuffers :=
  h.foldl _ (fun _ b ht => ht.handBuffer b) _

theorem releaseRecord (h : o.Onward s) (r : RecIx) : o.Onward (s.releaseRecord r) :=
  (h.dropRecord r).handOut r

theorem freeRecord (h : o.Onward s) (r : RecIx) : o.Onward (s.freeRecord r) :=
  (h.releaseRecord r).handBuffers

theorem grant (h : o.Onward s) (d : DriveIx) : o.Onward (s.grant d) := by
  unfold State.grant
  dsimp only
  split <;> exact h

theorem requestChannel (h : o.Onward s) (d : DriveIx) : o.Onward (s.requestChannel d) :=
  ((h.modEngine d fun e => { e with state := .waitChannel, motion := .still }).grant d).ite
    ((h.modEngine d _).chan _)

theorem leaveChannel (h : o.Onward s) (d : DriveIx) : o.Onward (s.leaveChannel d) := by
  obtain ⟨-, -, e⟩ | ⟨x, rest, -, -, e⟩ | ⟨-, e⟩ := s.leaveChannel_cases d <;> rw [e]
  · exact h
  · exact (h.chan _).grant x
  · exact h

/-! ## Volumes -/

theorem reviveEntry (h : o.Onward s) (adopt : Bool) (x : SectorRef) :
    o.Onward (State.reviveEntry adopt s x) := by
  unfold State.reviveEntry
  split
  · exact h
  · split
    · exact (h.modEntry x _).provide x false
    · exact (h.modEntry x _).ite h
    · exact h

theorem attach (h : o.Onward s) (d : DriveIx) (adopt : Bool) : o.Onward (s.attach d adopt) :=
  (h.modVolume d _).foldl _ (fun _ x ht => ht.reviveEntry adopt x) _

theorem takeBoundId (h : o.Onward s) (d : DriveIx) : o.Onward (s.takeBoundId d) := h

theorem dropBoundId (h : o.Onward s) (d : DriveIx) : o.Onward (s.dropBoundId d) := by
  unfold State.dropBoundId
  exact ((((h.modVolume d _).attach d false).raise _).ite (h.modVolume d _)).ite h

theorem stampUnknown (h : o.Onward s) (d : DriveIx) (x : StampOutcome) : o.Onward (s.stampUnknown d x) :=
  (h.modVolume d _).raise _

theorem stampVerdict (h : o.Onward s) (d : DriveIx) (bytes : Option (List Byte)) :
    o.Onward (s.stampVerdict d bytes) := by
  unfold State.stampVerdict
  split
  · exact h.stampUnknown d _
  · split
    · exact h.stampUnknown d _
    · exact (((h.modVolume d _).attach d false).raise _).ite (((h.modVolume d _).modVolume d _).raise _)

/-! ## The end of an operation, and holds -/

theorem noteFault (h : o.Onward s) (d : DriveIx) (c : Cause) (x : FaultOutcome) (q : Option Record) :
    o.Onward (s.noteFault d c x q) := h

theorem endOperation (h : o.Onward s) (d : DriveIx) : o.Onward (s.endOperation d) := h

theorem returnEntry (h : o.Onward s) (q : Record) : o.Onward (s.returnEntry q) := by
  unfold State.returnEntry
  split
  · exact (h.modEntry _ _).provide _ false
  all_goals exact h

theorem returnRecord (h : o.Onward s) (d : DriveIx) : o.Onward (s.returnRecord d) := by
  unfold State.returnRecord
  split
  · exact h
  · next r _ =>
    split
    · exact h
    · next q _ =>
      have t (waits : List DriveIx) :=
        ((((h.endOperation d).bufWait waits).leaveChannel d).withdrawRecord r).stopCopyOut r
      exact ((t _).freeRecord r).ite (((t _).modRecord r _).returnEntry q).handBuffers

theorem stopForHold (h : o.Onward s) (d : DriveIx) : o.Onward (s.stopForHold d) := by
  unfold State.stopForHold
  split
  · exact h
  · exact h
  · exact h.returnRecord d
  · exact h.returnRecord d
  · exact h.returnRecord d
  · exact h

theorem haltFault (h : o.Onward s) (d : DriveIx) : o.Onward (s.haltFault d) :=
  ((h.modEngine d _).raise _).stopForHold d

theorem speedFails (h : o.Onward s) (d : DriveIx) : o.Onward (s.speedFails d) :=
  (((h.raise _).noteFault d _ _ _).returnRecord d).haltFault d

theorem resume (h : o.Onward s) (d : DriveIx) : o.Onward (s.resume d) := by
  obtain e | ⟨-, -, e⟩ | ⟨-, -, e⟩ := s.resume_cases d <;> rw [e] <;> exact h

/-! ## Failures and completions -/

theorem entryUnwritten (h : o.Onward s) (x : SectorRef) (c : Cause) : o.Onward (s.entryUnwritten x c) := by
  unfold State.entryUnwritten
  split
  · exact h
  · exact ((h.modEntry x _).marksGone true _).ite h

/-- The end of an operation whose record is freed. -/
theorem ended (h : o.Onward s) (d : DriveIx) (r : RecIx) :
    o.Onward (((s.endOperation d).leaveChannel d).freeRecord r) :=
  ((h.endOperation d).leaveChannel d).freeRecord r

theorem writeFails (h : o.Onward s) (d : DriveIx) (r : RecIx) (c : Cause) : o.Onward (s.writeFails d r c) := by
  unfold State.writeFails
  split
  · exact h
  · next q _ =>
    dsimp only
    cases q.owner with
    | some x =>
      have t := ((((h.entryUnwritten x c).noteFault d c .unwritten (some q)).raise
        (if c = Cause.protect then Event.protect else Event.writeFailed)).ended d r)
      exact (t.haltFault d).ite t
    | none => exact ((h.ended d r).haltFault d).ite (h.ended d r)

theorem fillFails (h : o.Onward s) (d : DriveIx) (r : RecIx) (c : Cause) : o.Onward (s.fillFails d r c) := by
  unfold State.fillFails
  split
  · exact h
  · dsimp only
    split
    · exact h.ended d r
    · have delivered (c : Cause) (q : Record) (b : BurstRequest) :=
        ((((h.noteFault d c .damagedDelivered (some q)).endOperation d).leaveChannel d).requestBurst b).raise
          .damagedDelivered
      have failed (c : Cause) (q : Record) (x : SectorRef) :=
        (((h.modEntry x (Entry.fillFailed c)).noteFault d c .failed (some q)).ended d r).raise .fillFailed
      exact (delivered _ _ _).ite (failed _ _ _)

theorem stampFails (h : o.Onward s) (d : DriveIx) (r : RecIx) (c : Cause) : o.Onward (s.stampFails d r c) :=
  ((h.noteFault d _ _ _).ended d r).stampVerdict d none

theorem operationFails (h : o.Onward s) (d : DriveIx) (r : RecIx) (c : Cause) :
    o.Onward (s.operationFails d r c) := by
  unfold State.operationFails
  split
  · exact h
  · split
    · exact h.fillFails d r c
    · exact h.fillFails d r c
    · exact h.stampFails d r c
    · exact h.writeFails d r c
    · exact h

theorem attemptFails (h : o.Onward s) (d : DriveIx) (r : RecIx) (c : Cause) :
    o.Onward (s.attemptFails d r c) :=
  ((h.modRecord r _).operationFails d r c).ite ((h.modRecord r _).modEngine d _)

theorem writeCompletes (h : o.Onward s) (d : DriveIx) (r : RecIx) : o.Onward (s.writeCompletes d r) := by
  unfold State.writeCompletes
  split
  · exact h
  · next q _ =>
    have t : o.Onward (((s.endOperation d).leaveChannel d).noteWritten d q) :=
      ((h.endOperation d).leaveChannel d).modVolume d _
    dsimp only
    split
    · exact t.freeRecord r
    · split
      · exact t.freeRecord r
      · have u (x : SectorRef) (marks : BitVec 4) :=
          ((t.modEntry x Entry.written).freeRecord r).marksGone false marks
        exact ((u _ _).provide _ false).ite (u _ _)

theorem noteFormat (h : o.Onward s) (d : DriveIx) (c : Option FormatCause) (q : Record) :
    o.Onward (s.noteFormat d c q) := h

theorem formatFails (h : o.Onward s) (d : DriveIx) (r : RecIx) (c : FormatCause) :
    o.Onward (s.formatFails d r c) := by
  unfold State.formatFails
  split
  · exact h
  · next q _ =>
    have t := ((h.noteFormat d (some c) q).raise .formatFailed).ended d r
    exact (t.haltFault d).ite t

theorem formatCompletes (h : o.Onward s) (d : DriveIx) (r : RecIx) : o.Onward (s.formatCompletes d r) := by
  unfold State.formatCompletes
  split
  · exact h
  · next q _ =>
    split
    · exact h
    · next p _ =>
      have t (x : Option DiskOut) := ((h.diskOut x).endOperation d).leaveChannel d
      have adopted (x : Option DiskOut) : o.Onward
          (((({ s with diskOut := x } : State).endOperation d).leaveChannel d).adoptFormat d p) :=
        (((t x).modVolume d _).pool _).attach d false
      exact ((((adopted _).ite ((t _).modVolume d _)).freeRecord r).raise _).noteFormat d none q

/-! ## The choice and the windows -/

theorem takeChoice (h : o.Onward s) (d : DriveIx) (r : RecIx) : o.Onward (s.takeChoice d r) := by
  unfold State.takeChoice
  split
  · exact h
  · have t (f : Record → Record) (g : Engine → Engine) := (h.modRecord r f).modEngine d g
    refine ((t _ _).writeFails d r _).ite (((t _ _).operationFails d r _).ite
      (((t _ _).startPositioning d r).ite ?_))
    split
    · exact (t _ _).giveBuffer d r _
    · exact ((t _ _).bufWait _).modEngine d _

theorem replaceWindow (h : o.Onward s) (w : WinIx) (next : Option Binding) :
    o.Onward (s.replaceWindow w next) := by
  have t : o.Onward ((s.forgetWindow w).setWindow w (Window.ofBinding next)) := h
  unfold State.replaceWindow
  cases next with
  | some b =>
    dsimp only
    split
    · exact (t.takeBoundId b.drive).dropBoundId _
    · exact t.takeBoundId b.drive
  | none =>
    dsimp only
    split
    · exact t.dropBoundId _
    · exact t

theorem swapWindow (h : o.Onward s) (w : WinIx) : o.Onward (s.swapWindow w) := by
  unfold State.swapWindow
  split
  · exact h.replaceWindow w _
  all_goals exact h

theorem settle (h : o.Onward s) : o.Onward s.settle := by
  refine State.settle_invariant o.Onward (fun t u ht e => ?_) s h
  obtain ⟨w, -, rfl⟩ | ⟨-, d, r, -, rfl⟩ := State.settleOne_cases e
  · exact ht.swapWindow w
  · exact ht.takeChoice d r

theorem perform (h : o.Onward s) {f : State → State} (hf : ∀ t, o.Onward t → o.Onward (f t)) :
    o.Onward (s.perform f) := (hf s h).settle.ite h

theorem whileRunning (h : o.Onward s) {f : State → State} (hf : ∀ t, o.Onward t → o.Onward (f t)) :
    o.Onward (s.whileRunning f) := (hf s h).ite h

theorem stageWindow (h : o.Onward s) (w : WinIx) (next : Option Binding) :
    o.Onward (s.stageWindow w next) := by
  have drain (t : State) (x : SectorRef) (ht : o.Onward t) : o.Onward (t.drainEntry x) := by
    unfold State.drainEntry
    split
    · exact (ht.requestWrite x .urgent).ite ht
    · exact ht
  have cancelled {t : State} (ht : o.Onward t) : o.Onward (t.cancelFills w) :=
    (ht.foldl _ (fun _ x hu => hu.modEntry x _) _).foldl _ (fun _ r hu => hu.freeRecord r) _
  unfold State.stageWindow
  split
  · exact h
  · exact (((cancelled (h.setWindow w _)).withdraw _).foldl _ (fun _ x hu => hu.modEntry x _) _).foldl _
      drain _
  · exact h

theorem endForced (h : o.Onward s) (r : RecIx) : o.Onward (s.endForced r) := by
  unfold State.endForced
  split
  · exact h
  · exact (((h.bufWait _).endOperation _).releaseRecord r).ite (h.releaseRecord r)

theorem noteDiscard (h : o.Onward s) (w : WinIx) (count : Nat) (b : Option Binding) :
    o.Onward (s.noteDiscard w count b) := by
  unfold State.noteDiscard
  split
  · have t (x : Option DiscardRecord) : o.Onward { s with lastDiscard := x } := h
    exact h.ite ((t _).raise .discarded)
  · exact h

theorem giveUpWindow (h : o.Onward s) (w : WinIx) (next : Option Binding) :
    o.Onward (s.giveUpWindow w next) := by
  have failed : o.Onward (s.failMarks w) :=
    h.foldl _ (fun _ e ht => (ht.marksGone true e.marks).ite ht) _
  have dropped (ending : List RecIx) : o.Onward ((s.failMarks w).dropBursts w ending) :=
    ((failed.bursts _ _ _).withdraw _).foldl _ (fun _ r ht => ht.stopCopyOut r) _
  exact (((((dropped _).foldl _ (fun _ r ht => ht.modRecord r _) _).replaceWindow w next).foldl _
    (fun _ r ht => ht.endForced r) _).handBuffers).noteDiscard w _ _

end State.Onward

end Sys2Proof.Machine
end

section
/-! SUPPORT. What judgements, cycles, burst words and the work of drives leave alone; which of them write memory. -/

namespace Sys2Proof.Machine

open Sys2Proof

namespace State.Onward

variable {o s : State}

/-! ## The judgements of an advance -/

theorem judgeSweep (h : o.Onward s) : o.Onward s.judgeSweep := by
  have entry (t : State) (x : SectorRef) (ht : o.Onward t) : o.Onward (t.sweepEntry x) := by
    unfold State.sweepEntry
    split
    · exact (ht.requestWrite x .normal).ite ht
    · exact ht
  have t (d : Due) : o.Onward { s with
      sweep := { s.sweep with current := s.sweep.next, counter := 1 }
      clock := { s.clock with due := d } } := h
  have swept : o.Onward s.sweepNow := ((t _).raise .sweep).foldl _ entry _
  exact swept.ite h

theorem judgeAges (h : o.Onward s) : o.Onward s.judgeAges := by
  have entry (t : State) (x : SectorRef) (ht : o.Onward t) : o.Onward (t.promoteEntry x) := by
    unfold State.promoteEntry
    split
    · exact ((ht.modEntry x _).requestWrite x .urgent).ite ht
    · exact ht
  have promoted {t : State} (ht : o.Onward t) : o.Onward t.promoteAll :=
    (ht.clock _).ite ((ht.clock _).foldl _ entry _)
  exact (promoted h.judgeSweep).ite h

theorem judgeDeadlines (h : o.Onward s) : o.Onward s.judgeDeadlines := by
  have late (t : State) (k : SlotIx) (ht : o.Onward t) : o.Onward (t.lateSlot k) := by
    have u (v : Vector Window 16) : o.Onward { t with windows := v } := ht
    exact (((u _).setSlot k _).raise _).ite ht
  exact ((h.clock _).foldl _ late _).ite h

theorem judgeExpiry (h : o.Onward s) : o.Onward s.judgeExpiry := by
  have t : o.Onward s.expireRecords := h
  exact t.ite h

theorem judgeAll (h : o.Onward s) : o.Onward s.judgeAll :=
  h.judgeSweep.judgeAges.judgeDeadlines.judgeExpiry

theorem judgeLimits (h : o.Onward s) : o.Onward s.judgeLimits := h.judgeAges.settle.judgeExpiry.ite h

/-! ## Cycles and bursts, memory apart -/

theorem noteDefer (h : o.Onward s) (tag : Tag) (x : SectorRef) : o.Onward (s.noteDefer tag x) := by
  unfold State.noteDefer
  split <;> exact h

theorem noteServed (h : o.Onward s) (tag : Tag) (x : SectorRef) : o.Onward (s.noteServed tag x) := by
  unfold State.noteServed
  split <;> exact h

theorem setDeferred (h : o.Onward s) (tag : Tag) (x : Option DeferRecord) :
    o.Onward (s.setDeferred tag x) := h

theorem answered (h : o.Onward s) (a : Answer) (x : Option ReadData) : o.Onward (s.answered a x) := h

theorem requestBlank (h : o.Onward s) (x : SectorRef) (d : DriveIx) : o.Onward (s.requestBlank x d) :=
  h.ite ((h.modEntry x _).joinQueue _).startNext

theorem askFor (h : o.Onward s) (x : SectorRef) (b : Binding) (e : Entry) : o.Onward (s.askFor x b e) := by
  unfold State.askFor
  split
  · exact ((h.requestBlank x b.drive).ite (h.requestFill x e)).ite h
  · exact h.raiseFill x
  · exact h.raiseFill x
  all_goals exact h

theorem noteWrite (h : o.Onward s) (x : SectorRef) (b : Binding) (e : Entry) :
    o.Onward (s.noteWrite x b e) := by
  unfold State.noteWrite
  split
  · exact ((h.modEntry x _).requestWrite x .normal).ite (h.modEntry x _)
  all_goals exact h

theorem beginCopy (h : o.Onward s) (u : Burst) : o.Onward (s.beginCopy u) := by
  unfold State.beginCopy
  refine ite ?_ h
  split <;> exact h

theorem endDelivery (h : o.Onward s) (u : Burst) : o.Onward (s.endDelivery u) := by
  unfold State.endDelivery
  split
  · exact h.handBuffers
  · next r _ =>
    split
    · exact h.handBuffers
    · split
      · exact h.freeRecord r
      · have t (x : SectorRef) := (h.modEntry x (Entry.delivered u.damaged)).freeRecord r
        dsimp only
        split
        · exact (t _).readAhead _ _ _
        · exact t _

theorem endCopyOut (h : o.Onward s) (u : Burst) : o.Onward (s.endCopyOut u) := by
  unfold State.endCopyOut
  split
  · exact h.handBuffers
  · next r _ =>
    dsimp only
    cases s.burstOwner u with
    | some x =>
      exact (((h.modEntry x Entry.copyEnds).modRecord r _).requestChannel u.drive).ite
        ((h.modEntry x Entry.copyEnds).modRecord r _)
    | none => exact ((h.modRecord r _).requestChannel u.drive).ite (h.modRecord r _)

theorem endBlank (h : o.Onward s) (u : Burst) : o.Onward (s.endBlank u) := by
  unfold State.endBlank
  split
  · exact h
  · split
    · exact h
    · have t (x : SectorRef) (f : Entry → Entry) := h.modEntry x f
      exact (t _ _).ite (((t _ _).requestWrite _ .urgent).ite ((t _ _).ite ((t _ _).requestWrite _ .normal)))

theorem endBurst (h : o.Onward s) (u : Burst) : o.Onward (s.endBurst u) := by
  unfold State.endBurst
  split
  · exact h.endDelivery u
  · exact h.endCopyOut u
  · exact h.endBlank u

/-! ## The ready line -/

theorem driveRisen (h : o.Onward s) (d : DriveIx) : o.Onward (s.driveRisen d) :=
  (((h.modEngine d _).modVolume d _).requestStamp d).resume d

theorem readyRises (h : o.Onward s) (d : DriveIx) (protect : Bool) : o.Onward (s.readyRises d protect) :=
  h.ite ((h.modEngine d _).perform fun _ ht => ht.driveRisen d)

theorem doorEntry (h : o.Onward s) (x : SectorRef) : o.Onward (s.doorEntry x) := by
  unfold State.doorEntry
  split
  · exact h
  · split
    · exact h
    · exact (h.modEntry x _).ite h
    all_goals exact h

theorem doorRecord (h : o.Onward s) (d : DriveIx) (r : RecIx) : o.Onward (State.doorRecord d s r) := by
  unfold State.doorRecord
  split
  · exact h
  · exact (((h.noteFormat d _ _).raise _).releaseRecord r).ite (h.releaseRecord r)

theorem driveFallen (h : o.Onward s) (d : DriveIx) : o.Onward (s.driveFallen d) := by
  unfold State.driveFallen
  extract_lets mine fallen unbuffered idle entries pool waitless ended count
  have hunbuffered : o.Onward unbuffered := h
  have hidle : o.Onward idle := ((hunbuffered.bursts _ _ _).withdraw _).leaveChannel d
  have hentries : o.Onward entries := hidle.foldl _ (fun _ x ht => ht.doorEntry x) _
  have hwaitless : o.Onward waitless := hentries.pool _
  have hended : o.Onward ended := (hwaitless.foldl _ (fun _ r ht => ht.doorRecord d r) _).handBuffers
  exact (hended.modVolume d _).raise _

theorem readyFalls (h : o.Onward s) (d : DriveIx) : o.Onward (s.readyFalls d) :=
  (h.modEngine d _).perform (f := fun t => if (t.volume d).state = .empty then t else t.driveFallen d)
    fun _ ht => ht.ite (ht.driveFallen d)

/-! ## Attempts, speed and index pulses -/

theorem searchMissed (h : o.Onward s) (d : DriveIx) : o.Onward (State.searchMissed d s) := by
  have counted (r : RecIx) : o.Onward (s.countMiss d r) := by
    have t (f : Record → Record) := h.modRecord r f
    unfold State.countMiss
    dsimp only
    split
    · exact h
    · exact ((t _).operationFails d r _).ite ((((t _).modRecord r _).modEngine d _).ite ((t _).modEngine d _))
  unfold State.searchMissed
  split
  · exact h
  · exact (counted _).ite h

theorem verifyMissed (h : o.Onward s) (d : DriveIx) : o.Onward (State.verifyMissed d s) := by
  unfold State.verifyMissed
  split
  · exact h
  · exact (h.attemptFails d _ .verify).ite h

theorem badPeriods (h : o.Onward s) (d : DriveIx) : o.Onward (State.badPeriods d s) :=
  ((h.modEngine d _).speedFails d).ite h

theorem unloadHeads (h : o.Onward s) (d : DriveIx) : o.Onward (State.unloadHeads d s) :=
  (h.modEngine d _).ite h

theorem takeDue (h : o.Onward s) (d : DriveIx) : o.Onward (State.takeDue d s) :=
  (((h.badPeriods d).searchMissed d).verifyMissed d).unloadHeads d

theorem pulse (h : o.Onward s) (d : DriveIx) : o.Onward (State.pulse d s) := by
  have formats {t : State} (ht : o.Onward t) : o.Onward (t.formatPulse d) := by
    unfold State.formatPulse
    split
    · exact (ht.formatCompletes d _).ite ((ht.formatFails d _ .protect).ite ((ht.modEngine d _).modVolume d _))
    · exact ht
  exact (formats (h.modEngine d _)).ite h

/-! ## Seeks and recalibrations -/

theorem endRecal (h : o.Onward s) (d : DriveIx) : o.Onward (s.endRecal d) := by
  unfold State.endRecal
  dsimp only
  split <;> exact h

theorem seekFails (h : o.Onward s) (d : DriveIx) : o.Onward (State.seekFails d s) := by
  have t (q : Option Record) := (h.raise .seekFault).noteFault d .seekFault .driveFault q
  have stopped (q : Option Record) :=
    ((t q).endOperation d).ite (p := (s.engine d).current = none) ((t q).returnRecord d)
  exact (((stopped _).modEngine d _).haltFault d).ite h

theorem endSeek (h : o.Onward s) (d : DriveIx) : o.Onward (s.endSeek d) := by
  have t (f : Engine → Engine) := h.modEngine d f
  unfold State.endSeek
  dsimp only
  split
  · exact (t _).ite ((t _).requestChannel d)
  · exact h
  · exact h

/-! ## Disk work -/

theorem idField (h : o.Onward s) (d : DriveIx) (f : IdField) : o.Onward (State.idField d f s) := by
  have found (r : RecIx) (q : Record) : o.Onward (s.targetFound d r q) := by
    have t := h.modRecord r fun q => { q with misses := 0 }
    exact (((t.modEngine d _).modVolume d _).ite (t.writeFails d r .protect)).ite (t.modEngine d _)
  have searched (r : RecIx) (q : Record) : o.Onward (s.searchField d r q f) :=
    (h.modEngine d _).ite (h.ite ((h.operationFails d r .defective).ite (found r q)))
  unfold State.idField
  dsimp only
  split
  · exact h
  · split
    · exact h
    · exact (searched _ _).ite (((h.modEngine d _).ite h).ite h)

theorem markMissing (h : o.Onward s) (d : DriveIx) : o.Onward (State.markMissing d s) := by
  unfold State.markMissing
  dsimp only
  split
  · exact h
  · exact (h.attemptFails d _ .notFound).ite ((h.attemptFails d _ .verify).ite h)

theorem readDone (h : o.Onward s) (d : DriveIx) (r : RecIx) (q : Record) (data : List Byte) :
    o.Onward (s.readDone d r q data) := by
  have t := (h.endOperation d).leaveChannel d
  unfold State.readDone
  dsimp only
  split
  · exact (t.requestBurst _).ite (t.freeRecord r)
  · exact (t.requestBurst _).ite (t.freeRecord r)
  · exact (t.freeRecord r).stampVerdict d _
  · exact h
  · exact h

theorem fieldRead (h : o.Onward s) (d : DriveIx) (data : List Byte) (crc : BitVec 16) :
    o.Onward (State.fieldRead d data crc s) := by
  have taken (q : Record) : o.Onward (s.takeField d q data) := by
    unfold State.takeField
    cases q.buffer with
    | some b => exact (h.setBuffer b data).modEngine d _
    | none => exact h.modEngine d _
  unfold State.fieldRead
  dsimp only
  split
  · exact h
  · next r _ =>
    split
    · exact h
    · exact (((taken _).readDone d r _ data).ite ((taken _).attemptFails d r .dataCrc)).ite h

theorem fieldWritten (h : o.Onward s) (d : DriveIx) : o.Onward (State.fieldWritten d s) := by
  have t (x : Option DiskOut) (f : Engine → Engine) := (h.diskOut x).modEngine d f
  unfold State.fieldWritten
  dsimp only
  split
  · exact h
  · next r _ =>
    split
    · exact h
    · exact (((t _ _).modEngine d _).ite ((t _ _).writeCompletes d r)).ite h

theorem writeFaulted (h : o.Onward s) (d : DriveIx) : o.Onward (State.writeFaulted d s) := by
  unfold State.writeFaulted
  dsimp only
  split
  · exact h
  · exact h.ite ((h.writeFails d _ _).ite ((h.formatFails d _ _).ite h))

theorem fieldVerified (h : o.Onward s) (d : DriveIx) (data : List Byte) (crc : BitVec 16) :
    o.Onward (State.fieldVerified d data crc s) := by
  unfold State.fieldVerified
  dsimp only
  split
  · exact h
  · exact ((h.writeCompletes d _).ite (h.attemptFails d _ .verify)).ite h

/-! ## The supply -/

theorem setDip (h : o.Onward s) : o.Onward s.setDip := by
  have t (v : Vector Engine 4) (c : Channel) (l : List DriveIx) :
      o.Onward { s with engines := v, chan := c, bufWait := l } := h
  exact (t _ _ _).foldl State.dipEngine (fun _ d ht => (ht.modEngine d _).returnRecord d) _

end State.Onward

/-! ## Burst words -/

/-- A word of a burst moves between memory and a buffer, and nothing else of the part changes. -/
theorem State.moveWord_eq (s : State) (u : Burst) :
    s.moveWord u = { s with memory := (s.moveWord u).memory, buffers := (s.moveWord u).buffers } := by
  unfold State.moveWord
  dsimp only
  split <;> rfl

theorem State.flagsKept_moveWord (s : State) (u : Burst) : s.FlagsKept (s.moveWord u) := by
  rw [State.moveWord_eq]
  exact fun _ h => h

/-- The last word of a burst: with the burst itself gone, no burst is owed a turn. -/
theorem State.endRunning_owed {s : State} (running : s.bursts.running ≠ none) :
    s.endRunning.bursts.owed = false := by
  unfold State.endRunning
  split
  · contradiction
  · exact ((State.Onward.refl _).placeFreed _).startNext.owed rfl

/-- A word of a burst, its memory side apart, clears no event flag, and the burst is owed no further turn
(R19). -/
theorem State.burstTurn_onward {s : State} (running : s.bursts.running ≠ none) :
    s.FlagsKept s.burstTurn ∧ s.burstTurn.power = s.power ∧ s.burstTurn.bursts.owed = false := by
  unfold State.burstTurn
  split
  · contradiction
  · next u _ =>
    have begun := (State.Onward.refl s).beginCopy (s.firstWord u)
    have moved := begun.flags.trans ((s.beginCopy (s.firstWord u)).flagsKept_moveWord (s.firstWord u))
    have power : ((s.beginCopy (s.firstWord u)).moveWord (s.firstWord u)).power = s.power := by
      rw [State.moveWord_eq]
      exact begun.power
    have still : ((s.beginCopy (s.firstWord u)).moveWord (s.firstWord u)).bursts = s.bursts := by
      rw [State.moveWord_eq]
      unfold State.beginCopy
      (repeat' split) <;> rfl
    dsimp only
    split
    · exact ⟨moved, power, rfl⟩
    · have ended := (State.Onward.refl ((s.beginCopy (s.firstWord u)).moveWord (s.firstWord u))).endRunning
      have after := (State.Onward.refl ((s.beginCopy (s.firstWord u)).moveWord
        (s.firstWord u)).endRunning).endBurst (s.firstWord u)
      refine ⟨moved.trans (ended.flags.trans after.flags), after.power.trans (ended.power.trans power),
        after.owed (State.endRunning_owed ?_)⟩
      rwa [still]

theorem State.flagsKept_burstTurn (s : State) : s.FlagsKept s.burstTurn := by
  by_cases running : s.bursts.running = none
  · unfold State.burstTurn
    rw [running]
    exact fun _ h => h
  · obtain ⟨flags, -⟩ := State.burstTurn_onward running
    exact flags

/-! ## Upstream cycles -/

theorem State.flagsKept_writeFor (s : State) (a : Nat) (c : Access) : s.FlagsKept (s.writeFor a c) := by
  cases c <;> exact fun _ h => h

theorem State.flagsKept_decodeCycle (s : State) (c : UpCycle) : s.FlagsKept (s.decodeCycle c) := by
  have h := State.Onward.refl s
  have performed {t : State} (ht : s.Onward t) :
      s.FlagsKept (t.writeFor c.addr.toNat c.access) := ht.flags.trans (t.flagsKept_writeFor _ _)
  have outside := performed (h.answered .pass (s.readFor c.addr.toNat c.access))
  have judged (x : SectorRef) (b : Binding) (e : Entry) : s.FlagsKept (s.judge c x b e) := by
    unfold State.judge
    dsimp only
    split
    · exact State.Onward.flags (((((h.path _).raise _).noteServed c.tag x)).answered _ _)
    · split
      · exact performed ((((h.noteWrite x b e).ite h).noteServed c.tag x).answered _ _)
      · exact ((h.noteServed c.tag x).answered _ _).flags
      · split
        · exact State.Onward.flags ((((h.path _).raise .deferExpired).setDeferred c.tag none).answered _ _)
        · exact ((h.ite (h.askFor x b e)).noteDefer c.tag x).answered .defer none |>.flags
  unfold State.decodeCycle
  dsimp only
  split
  · exact outside
  · split
    · exact judged _ _ _
    · exact outside

theorem State.flagsKept_settle (s : State) : s.FlagsKept s.settle := (State.Onward.refl s).settle.flags

theorem State.flagsKept_upCycle (s : State) (c : UpCycle) : s.FlagsKept (s.upCycle c) := by
  have paid : s.FlagsKept s.payBurst := by
    unfold State.payBurst
    split
    · exact s.flagsKept_burstTurn.trans (State.flagsKept_settle _)
    · exact fun _ h => h
  have judged := paid.trans (State.Onward.refl s.payBurst).judgeExpiry.flags
  exact (judged.trans (State.flagsKept_decodeCycle _ c)).trans (State.flagsKept_settle _)

/-- The end of a reset clears no event flag: the drives rise, and the held cycles are decoded. -/
theorem State.flagsKept_resetEnds (s : State) : s.FlagsKept s.resetEnds := by
  cases power : s.power with
  | off =>
    rw [State.resetEnds_off (.inl power)]
    exact fun _ h => h
  | running =>
    rw [State.resetEnds_off (.inr power)]
    exact fun _ h => h
  | inReset powerUp raised =>
    have risen : (s.released powerUp).Onward (s.released powerUp).risen :=
      ((State.Onward.refl _).foldl _ (fun _ d ht => (ht.driveRisen d).ite ht) _).settle
    have reopened : (s.released powerUp).Onward (s.reopened powerUp raised) := (risen.raise _).ite risen
    rw [State.resetEnds_inReset power]
    exact foldl_invariant (s.released powerUp).FlagsKept State.heldCycle
      (fun t c ht => ht.trans (t.flagsKept_upCycle c)) _ _ reopened.flags

end Sys2Proof.Machine
end

section
/-! SUPPORT. What passing time, a long dip and the link commands leave alone; O59 for every command. -/

namespace Sys2Proof.Machine

open Sys2Proof

/-! ## Time without a long dip -/

namespace State.Onward

variable {o s : State}

theorem passTicks (h : o.Onward s) (n : Nat) : o.Onward (s.passTicks n) := by
  unfold State.passTicks
  split
  · exact h
  · exact h.trans ⟨rfl, rfl, rfl, Option.isSome_map, fun _ hn => hn, fun h => h⟩

theorem indexGone (h : o.Onward s) (d : DriveIx) : o.Onward (s.indexGone d) :=
  ((h.modEngine d _).speedFails d).settle

theorem judgePast (h : o.Onward s) : o.Onward s.judgePast := h.judgeAll.settle.ite h

theorem coarseMoment (h : o.Onward s) : o.Onward s.coarseMoment := by
  have counted : o.Onward s.countCoarse := h
  have swept {t : State} (ht : o.Onward t) : o.Onward t.sweepTick := by
    obtain ⟨-, e⟩ | ⟨-, -, e⟩ | ⟨-, -, e⟩ := t.sweepTick_cases <;> rw [e] <;> exact ht
  obtain ⟨-, e⟩ | ⟨-, e⟩ | ⟨-, e⟩ := s.coarseMoment_cases <;> rw [e]
  · exact h
  · exact counted
  · exact (swept counted).clock _

theorem passAdvances (h : o.Onward s) (k n : Nat) : o.Onward (s.passAdvances k n) :=
  State.passAdvances_invariant o.Onward (fun _ n ht => ht.passTicks n) (fun _ d ht => ht.indexGone d)
    (fun _ ht => ht.judgePast) (fun _ ht => ht.coarseMoment) k n s h

theorem passClocks (h : o.Onward s) (n : Nat) : o.Onward (s.passClocks n) :=
  h.ite (h.passAdvances _ n)

end State.Onward

/-! ## Time with a long dip -/

/-- From `s` to `t` memory stands, and no event flag is cleared unless a long dip has come among the ticks
that passed (R157). -/
def State.Passes (s t : State) : Prop :=
  s.Onward t ∨ t.memory = s.memory ∧ ∃ raised, s.longDipTo t raised

theorem State.recorded_cause (s : State) (c : WarmCause) (n : Nat) : (s.recorded c n).cause = warmCause c := by
  have entry (x : Store) (y : OutageEntry) : (x.record y).cause = x.cause := by
    unfold Store.record
    split <;> rfl
  exact foldl_keeps Store.cause _ entry _ _

namespace State.Passes

variable {s t u : State}

theorem memory (h : s.Passes t) : t.memory = s.memory := by
  obtain h | ⟨same, -⟩ := h
  · exact h.memory
  · exact same

theorem onward (h : s.Passes t) (k : t.Onward u) : s.Passes u := by
  obtain h | ⟨same, raised, running, timer, power, cause⟩ := h
  · exact .inl (h.trans k)
  · obtain ⟨memory', power', cause', -⟩ := k
    exact .inr ⟨memory'.trans same, raised, running, timer, power'.trans power, cause'.trans cause⟩

/-- In the reset of a long dip no second one comes. -/
theorem trans (h : s.Passes t) (k : t.Passes u) : s.Passes u := by
  obtain k | ⟨same, raised, running, timer, power, cause⟩ := k
  · exact h.onward k
  · obtain ⟨memory', power', -, timer', -⟩ | ⟨-, _, -, -, reset, -⟩ := h
    · refine .inr ⟨same.trans memory', raised, power' ▸ running, fun none => timer ?_, power, cause⟩
      rwa [none, Option.isSome_none, Option.isSome_eq_false_iff, Option.isNone_iff_eq_none] at timer'
    · exact absurd (running.symm.trans reset) (by simp)

theorem perform {f : State → State} (h : s.Passes (f s)) : s.Passes (s.perform f) := by
  unfold State.perform
  split
  · exact h.onward (State.Onward.refl _).settle
  · exact .inl (.refl s)

theorem whileRunning {f : State → State} (h : s.Passes (f s)) : s.Passes (s.whileRunning f) := by
  unfold State.whileRunning
  split
  · exact h
  · exact .inl (.refl s)

/-- The ticks of a command: a dip timer that runs out among them makes the reset of a long dip. -/
theorem acrossDip (s : State) (n : Nat) {pass : State → Nat → State}
    (hp : ∀ (t : State) (m : Nat), t.Onward (pass t m)) : s.Passes (s.acrossDip n pass) := by
  unfold State.acrossDip
  split
  · exact .inl (hp s n)
  · next k dips =>
    obtain ⟨running, m, timer, -⟩ := State.longDipIn?_eq_some.mp dips
    have clocks : s.Onward (s.passClocks k) := (State.Onward.refl s).passClocks k
    have dipped : s.Passes ((s.passClocks k).warmReset .longDip) :=
      .inr ⟨clocks.memory, _, running, by simp [timer], rfl, State.recorded_cause _ _ _⟩
    exact dipped.onward (hp _ _)

theorem passTime (s : State) (n : Nat) : s.Passes (s.passTime n) :=
  acrossDip s n fun t m => (State.Onward.refl t).passClocks m

theorem coarseAdvance (s : State) : s.Passes s.coarseAdvance :=
  acrossDip s _ fun t m => (State.Onward.refl t).ite ((State.Onward.refl t).passAdvances 1 m)

theorem afterWait (s : State) (d : DriveIx) (awaits : Engine → Bool) {event : State → State}
    (he : ∀ t : State, t.Onward (event t)) : s.Passes (s.afterWait d awaits event) := by
  obtain ⟨-, e⟩ | ⟨-, -, e⟩ | ⟨-, -, e⟩ := s.afterWait_cases d awaits event <;> rw [e]
  · exact .inl (.refl s)
  · exact passTime s _
  · exact (passTime s _).onward (he _)

theorem stepPulse (s : State) (d : DriveIx) (track0 : Bool) : s.Passes (State.stepPulse d track0 s) :=
  afterWait s d _ fun t => (State.Onward.refl t).modEngine d _

theorem indexLost (s : State) (d : DriveIx) : s.Passes (State.indexLost d s) := by
  unfold State.indexLost
  split
  · exact .inl (.refl s)
  · exact passTime s _

theorem indexPulse (s : State) (d : DriveIx) (elapsed : Nat) : s.Passes (State.indexPulse d elapsed s) := by
  have due : s.Onward (s.perform (State.takeDue d)) := (State.Onward.refl s).perform fun _ ht => ht.takeDue d
  have passed := (Passes.onward (.inl (.refl s)) due).trans (passTime _ elapsed)
  exact passed.onward ((State.Onward.refl _).perform fun _ ht => ht.pulse d)

end State.Passes

/-! ## The link commands -/

namespace State.Onward

variable {o s : State}

theorem reply (h : o.Onward s) (refusal : Result) (x : Option (List Byte)) :
    o.Onward (s.reply refusal x) := by
  cases x <;> exact h

theorem linkBind (h : o.Onward s) (window : Byte) (record : BindRecord) :
    o.Onward (State.linkBind window record s) := by
  unfold State.linkBind
  dsimp only
  split <;> exact h

theorem linkStage (h : o.Onward s) (window : Byte) (record : BindRecord) :
    o.Onward (State.linkStage window record s) := by
  unfold State.linkStage
  dsimp only
  split
  · exact h
  · exact ((h.takeCommand 0x11 _).stageWindow _ _).respond _ _

theorem linkForce (h : o.Onward s) (window : Byte) : o.Onward (State.linkForce window s) := by
  unfold State.linkForce
  dsimp only
  split
  · exact h
  · split
    · exact h
    · exact h
    · exact ((h.takeCommand 0x12 _).giveUpWindow _ _).respond _ _

theorem linkRelease (h : o.Onward s) (window : Byte) : o.Onward (State.linkRelease window s) := by
  have t := h.takeCommand 0x13 [window, 0]
  unfold State.linkRelease
  dsimp only
  split
  · exact h
  · split
    · exact h
    · exact (t.stageWindow _ none).respond _ _
    · exact (t.stageWindow _ none).respond _ _

theorem linkReleaseDiscard (h : o.Onward s) (window : Byte) : o.Onward (State.linkReleaseDiscard window s) := by
  have t := h.takeCommand 0x13 [window, 1]
  unfold State.linkReleaseDiscard
  dsimp only
  split
  · exact h
  · split
    · exact h
    · exact (t.giveUpWindow _ none).respond _ _
    · exact (t.giveUpWindow _ none).respond _ _

theorem linkSecure (h : o.Onward s) (target : BitVec 16) (stampLast : Bool) (deadline : BitVec 16) :
    o.Onward (State.linkSecure target stampLast deadline s) := by
  have entry (k : SlotIx) (t : State) (x : SectorRef) (ht : o.Onward t) : o.Onward (t.secureEntry k x) := by
    unfold State.secureEntry
    split
    · exact ht
    · exact (((ht.modEntry x _).requestWrite x .urgent).setSlot k _).ite ((ht.setSlot k _).ite ht)
  have opened {t : State} (ht : o.Onward t) (k : SlotIx) :
      o.Onward (t.openSlot k target stampLast deadline) :=
    ((ht.setSlot k _).foldl _ (entry k) _).endSlot k
  unfold State.linkSecure
  dsimp only
  split
  · exact h
  · exact (opened (h.takeCommand 0x20 _) _).respond _ _

theorem linkSecureStatus (h : o.Onward s) (slot : Byte) : o.Onward (State.linkSecureStatus slot s) := by
  have t (data : List Byte) := (h.takeCommand 0x21 [slot]).respond .done data
  unfold State.linkSecureStatus
  dsimp only
  split
  · exact h
  · exact ((t _).setSlot _ _).ite (t _)

theorem linkHold (h : o.Onward s) (drive : Byte) : o.Onward (State.linkHold drive s) := by
  unfold State.linkHold
  dsimp only
  split
  · exact h
  · next d _ => exact (((h.takeCommand 0x30 _).modEngine d _).stopForHold d).respond _ _

theorem linkRun (h : o.Onward s) (drive : Byte) : o.Onward (State.linkRun drive s) := by
  unfold State.linkRun
  dsimp only
  split
  · exact h
  · next d _ => exact (((h.takeCommand 0x31 _).modEngine d _).resume d).respond _ _

theorem linkAdopt (h : o.Onward s) (drive : Byte) : o.Onward (State.linkAdopt drive s) := by
  have t := h.takeCommand 0x32 [drive]
  unfold State.linkAdopt
  dsimp only
  split
  · exact h
  · exact ((((t.modVolume _ _).attach _ true).raise _).respond _ _).ite (t.respond _ _)

theorem linkRetry (h : o.Onward s) (drive : Byte) : o.Onward (State.linkRetry drive s) := by
  have entry (d : DriveIx) (t : State) (x : SectorRef) (ht : o.Onward t) : o.Onward (t.retryEntry d x) := by
    unfold State.retryEntry
    split
    · exact ht
    · split
      · exact ((ht.modEntry x _).provide x true).ite (ht.modEntry x _)
      all_goals exact ht
  unfold State.linkRetry
  dsimp only
  split
  · exact h
  · next d _ =>
    exact ((((h.takeCommand 0x33 _).foldl _ (entry d) _).modEngine d _).resume d).respond _ _

theorem linkFormat (h : o.Onward s) (p : FormatParams) : o.Onward (State.linkFormat p s) := by
  unfold State.linkFormat
  dsimp only
  split
  · exact h
  · split
    · next u made => exact ((h.takeCommand 0x34 _).makeOrEvict made).respond _ _
    · exact h

theorem linkSetDrive (h : o.Onward s) (drive stepMs retries : Byte) (halt : Bool) :
    o.Onward (State.linkSetDrive drive stepMs retries halt s) := by
  unfold State.linkSetDrive
  dsimp only
  split <;> exact h

end State.Onward

/-! ## Memory under the link commands that are no such work -/

theorem State.linkDo_memory (s : State) (c : Instr) : (s.linkDo c).memory = s.memory := by
  have h := State.Onward.refl s
  cases c with
  | bind window record => exact (h.linkBind window record).memory
  | stage window record => exact (h.linkStage window record).memory
  | force window => exact (h.linkForce window).memory
  | release window => exact (h.linkRelease window).memory
  | releaseDiscard window => exact (h.linkReleaseDiscard window).memory
  | status part => exact ((h.takeCommand 0x01 _).reply _ _).memory
  | windowStates window part => exact ((h.takeCommand 0x14 _).reply _ _).memory
  | readDrive drive part => exact ((h.takeCommand 0x35 _).reply _ _).memory
  | readOutage start => exact ((h.takeCommand 0x60 _).reply _ _).memory
  | secure target stampLast deadline => exact (h.linkSecure target stampLast deadline).memory
  | secureStatus slot => exact (h.linkSecureStatus slot).memory
  | hold drive => exact (h.linkHold drive).memory
  | run drive => exact (h.linkRun drive).memory
  | adopt drive => exact (h.linkAdopt drive).memory
  | retry drive => exact (h.linkRetry drive).memory
  | format params => exact (h.linkFormat params).memory
  | setDrive drive stepMs retries halt => exact (h.linkSetDrive drive stepMs retries halt).memory
  | setLimits deferLimit ageLimit blank => exact h.judgeLimits.memory
  | clearEvents tag mask =>
    unfold State.linkDo State.linkClearEvents
    dsimp only
    split <;> rfl
  | _ => rfl

theorem State.linkMessage_memory (s : State) (address : Byte) (bytes : List Byte) :
    (State.linkMessage address bytes s).memory = s.memory := by
  have taken : (s.takeMessage bytes).memory = s.memory := by
    unfold State.takeMessage
    dsimp only
    split
    · exact s.linkDo_memory _
    · rfl
  unfold State.linkMessage
  split
  · exact (((State.Onward.refl _).perform fun _ ht => ht).memory).trans taken
  · rfl

/-! ## The rise and the return of the supply-low line -/

theorem State.supplyFalls_frame (s : State) :
    s.supplyFalls.memory = s.memory ∧ s.FlagsKept s.supplyFalls := by
  unfold State.supplyFalls State.perform
  split
  · exact ⟨rfl, fun _ h => h⟩
  · dsimp only
    split
    · have timed := State.Onward.refl
        { s with supplyLow := true, store := { s.store with dipTimer := some 0 } }
      have dipped := (timed.raise .supplyDip).setDip.settle
      exact ⟨dipped.memory, dipped.flags⟩
    · exact ⟨rfl, fun _ h => h⟩

theorem State.supplyReturns_frame (s : State) :
    (s.perform State.supplyReturns).memory = s.memory ∧ s.FlagsKept (s.perform State.supplyReturns) := by
  have returned : s.supplyReturns.memory = s.memory ∧ s.FlagsKept s.supplyReturns := by
    unfold State.supplyReturns
    split
    · exact ⟨rfl, fun _ h => h⟩
    · have calm := State.Onward.refl { s with
        supplyLow := false
        store := { s.store with dipTimer := none }
        engines := s.engines.map Engine.undip }
      have resumed := calm.foldl State.resume (fun _ d ht => ht.resume d) allDrives
      exact ⟨resumed.memory, resumed.flags⟩
  obtain ⟨memory, flags⟩ := returned
  have settled := (State.Onward.refl s.supplyReturns).settle
  unfold State.perform
  split
  · exact ⟨settled.memory.trans memory, flags.trans settled.flags⟩
  · exact ⟨rfl, fun _ h => h⟩

/-! ## Every command -/

/-- What `c` leaves alone on the way from `s` to `t`: memory, unless it is one of the commands that write it,
and the event flags, unless it may clear them or a long dip comes among its ticks. -/
def Spares (c : Instr) (s t : State) : Prop :=
  (c.mayWriteMemory = false → t.memory = s.memory) ∧
    (c.mayClearFlags = false → s.FlagsKept t ∨ ∃ raised, s.longDipTo t raised)

namespace Spares

variable {c : Instr} {s t : State}

theorem of_passes (h : s.Passes t) : Spares c s t := by
  refine ⟨fun _ => h.memory, fun _ => ?_⟩
  obtain h | ⟨-, dip⟩ := h
  · exact .inl h.flags
  · exact .inr dip

theorem of_onward (h : s.Onward t) : Spares c s t := of_passes (.inl h)

/-- A link command, or other work, that is done while the part runs. -/
theorem of_work {f : State → State} (h : ∀ u, s.Onward u → s.Onward (f u)) :
    Spares c s (s.whileRunning f) := of_onward ((State.Onward.refl s).whileRunning h)

/-- The same with the swaps and choices that follow it. -/
theorem of_act {f : State → State} (h : ∀ u, s.Onward u → s.Onward (f u)) :
    Spares c s (s.perform f) := of_onward ((State.Onward.refl s).perform h)

theorem of_memory (clears : c.mayClearFlags = true) (h : t.memory = s.memory) : Spares c s t :=
  ⟨fun _ => h, fun no => absurd (clears.symm.trans no) (by decide)⟩

theorem of_flags (writes : c.mayWriteMemory = true) (h : s.FlagsKept t) : Spares c s t :=
  ⟨fun no => absurd (writes.symm.trans no) (by decide), fun _ => .inl h⟩

theorem of_frame (h : t.memory = s.memory ∧ s.FlagsKept t) : Spares c s t := by
  obtain ⟨memory, flags⟩ := h
  exact ⟨fun _ => memory, fun _ => .inl flags⟩

end Spares

theorem State.whileRunning_memory (s : State) {f : State → State} (h : (f s).memory = s.memory) :
    (s.whileRunning f).memory = s.memory := by
  unfold State.whileRunning
  split
  · exact h
  · rfl

theorem State.dipRunsOut_memory (s : State) : s.dipRunsOut.memory = s.memory := by
  unfold State.dipRunsOut
  split
  · rfl
  · exact (State.Passes.passTime s _).memory

theorem State.resetLineActs_memory (s : State) : s.resetLineActs.memory = s.memory := by
  unfold State.resetLineActs
  split <;> rfl

open Spares in
/-- Every command spares memory and the flags, each in its own way. -/
theorem exec_spares {c : Instr} {s t : State} (e : exec c s = .next t) : Spares c s t := by
  have next {u : State} (hu : Spares c s u) (same : exec c s = .next u) : Spares c s t :=
    Host.Outcome.next.inj (same.symm.trans e) ▸ hu
  have h := State.Onward.refl s
  cases c with
  | upstreamCycle cycle =>
    refine next (of_flags rfl ?_) rfl
    split
    · exact h.flags
    · exact h.flags
    · exact s.flagsKept_upCycle cycle
  | burstWord =>
    refine next (of_flags rfl ?_) rfl
    unfold State.perform
    split
    · exact s.flagsKept_burstTurn.trans (State.flagsKept_settle _)
    · exact h.flags
  | resetEnd => exact next (of_flags rfl s.flagsKept_resetEnds) rfl
  | coarseClockAdvance => exact next (of_passes (.coarseAdvance s)) rfl
  | indexPulse drive elapsed => exact next (of_passes (.indexPulse s drive elapsed)) rfl
  | indexLost drive => exact next (of_passes (.perform (.indexLost s drive))) rfl
  | stepPulse drive track0 =>
    exact next (of_passes (.whileRunning (.stepPulse s drive track0))) rfl
  | recalibrationEnd drive =>
    exact next (of_passes (.perform (.afterWait s drive _ fun u => (State.Onward.refl u).endRecal drive))) rfl
  | positioningEnd drive =>
    exact next (of_passes (.perform (.afterWait s drive _ fun u => (State.Onward.refl u).endSeek drive))) rfl
  | supplyDip => exact next (of_frame s.supplyFalls_frame) rfl
  | shortDip => exact next (of_frame s.supplyReturns_frame) rfl
  | linkWriteMessage address bytes =>
    exact next (of_memory rfl (s.whileRunning_memory (s.linkMessage_memory address bytes))) rfl
  | clearEvents tag mask =>
    exact next (of_memory rfl (s.whileRunning_memory (s.linkDo_memory (.clearEvents tag mask)))) rfl
  | reset => exact next (of_memory rfl (s.whileRunning_memory rfl)) rfl
  | longDip => exact next (of_memory rfl (s.whileRunning_memory s.dipRunsOut_memory)) rfl
  | resetLine => exact next (of_memory rfl s.resetLineActs_memory) rfl
  | powerUp standbyKept => exact next (u := s.powersUp standbyKept) (of_memory rfl rfl) rfl
  | mainSupplyFailure cut => exact next (u := s.supplyFails cut) (of_memory rfl rfl) rfl
  | deferredRecordExpiry => exact next (of_work fun _ hu => hu.judgeExpiry) rfl
  | sweep => exact next (of_act fun _ hu => hu.judgeSweep) rfl
  | agePromotion => exact next (of_act fun _ hu => hu.judgeAges) rfl
  | secureDeadline => exact next (of_act fun _ hu => hu.judgeDeadlines) rfl
  | status part => exact next (of_work fun _ hu => (hu.takeCommand 0x01 _).reply _ _) rfl
  | windowStates window part => exact next (of_work fun _ hu => (hu.takeCommand 0x14 _).reply _ _) rfl
  | readDrive drive part => exact next (of_work fun _ hu => (hu.takeCommand 0x35 _).reply _ _) rfl
  | readOutage start => exact next (of_work fun _ hu => (hu.takeCommand 0x60 _).reply _ _) rfl
  | bind window record => exact next (of_act fun _ hu => hu.linkBind window record) rfl
  | stage window record => exact next (of_act fun _ hu => hu.linkStage window record) rfl
  | swap window => exact next (of_act fun _ hu => (hu.swapWindow window).ite hu) rfl
  | force window => exact next (of_act fun _ hu => hu.linkForce window) rfl
  | release window => exact next (of_act fun _ hu => hu.linkRelease window) rfl
  | releaseDiscard window => exact next (of_act fun _ hu => hu.linkReleaseDiscard window) rfl
  | secure target stampLast deadline =>
    exact next (of_act fun _ hu => hu.linkSecure target stampLast deadline) rfl
  | secureStatus slot => exact next (of_work fun _ hu => hu.linkSecureStatus slot) rfl
  | hold drive => exact next (of_act fun _ hu => hu.linkHold drive) rfl
  | run drive => exact next (of_act fun _ hu => hu.linkRun drive) rfl
  | adopt drive => exact next (of_act fun _ hu => hu.linkAdopt drive) rfl
  | retry drive => exact next (of_act fun _ hu => hu.linkRetry drive) rfl
  | format params => exact next (of_act fun _ hu => hu.linkFormat params) rfl
  | setDrive drive stepMs retries halt =>
    exact next (of_work fun _ hu => hu.linkSetDrive drive stepMs retries halt) rfl
  | setSweep period enable restart =>
    exact next (of_work (f := State.linkSetSweep period enable restart) fun _ hu => hu) rfl
  | setLimits deferLimit ageLimit blank =>
    exact next (of_work (f := State.linkSetLimits deferLimit ageLimit blank) fun _ hu => hu.judgeLimits) rfl
  | readEvents => exact next (of_work (f := State.linkReadEvents) fun _ hu => hu) rfl
  | setAlertMask mask => exact next (of_work (f := State.linkSetAlertMask mask) fun _ hu => hu) rfl
  | clearOutage => exact next (of_work (f := State.linkClearOutage) fun _ hu => hu) rfl
  | readyLineRise drive protect => exact next (of_onward (h.readyRises drive protect)) rfl
  | readyLineFall drive => exact next (of_onward (h.readyFalls drive)) rfl
  | speedFault drive => exact next (of_act fun _ hu => hu.badPeriods drive) rfl
  | headUnload drive => exact next (of_work fun _ hu => hu.unloadHeads drive) rfl
  | seekFault drive => exact next (of_act fun _ hu => hu.seekFails drive) rfl
  | idFieldRead drive field =>
    exact next (of_onward ((h.perform fun _ hu => hu.takeDue drive).perform fun _ hu =>
      hu.idField drive field)) rfl
  | miss drive => exact next (of_act fun _ hu => hu.searchMissed drive) rfl
  | dataMarkNotFound drive => exact next (of_act fun _ hu => hu.markMissing drive) rfl
  | dataFieldRead drive data crc => exact next (of_act fun _ hu => hu.fieldRead drive _ crc) rfl
  | dataFieldWritten drive => exact next (of_act fun _ hu => hu.fieldWritten drive) rfl
  | writeFault drive => exact next (of_act fun _ hu => hu.writeFaulted drive) rfl
  | verifyRead drive data crc => exact next (of_act fun _ hu => hu.fieldVerified drive _ crc) rfl
  | verifyMiss drive => exact next (of_act fun _ hu => hu.verifyMissed drive) rfl

/-- Settles O59: the work of every command other than the named ones leaves memory and the flags standing,
the reset of a long dip apart. -/
theorem commandsLeaveMemoryAndFlags : Obligations.CommandsLeaveMemoryAndFlags := by
  refine ⟨fun c s t writes e => ?_, fun c s t n clears e set => ?_⟩
  · obtain ⟨memory, -⟩ := exec_spares e
    exact memory writes
  · obtain ⟨-, flags⟩ := exec_spares e
    exact (flags clears).imp (fun kept => kept n set) id

end Sys2Proof.Machine
end

section
/-! SUPPORT. The rules of an upstream cycle: its turn of the port, where it lands, how it is judged (R2 to R16). -/

namespace Sys2Proof.Machine

open Sys2Proof

/-! ## Decoding (R3) -/

theorem mem_allWindows (w : WinIx) : w ∈ allWindows := by
  revert w
  decide

/-- An address lies in at most the windows whose current binding covers it (R3). -/
theorem State.locate_eq_some {s : State} {a : Nat} {x : SectorRef} (h : s.locate a = some x) :
    ∃ b, s.binding? x.win = some b ∧ b.base ≤ a ∧ a < b.top ∧ x.idx = (a - b.base) / 256 := by
  obtain ⟨w, -, found⟩ := List.exists_of_findSome?_eq_some h
  split at found
  · next b current =>
    split at found
    · next inside =>
      obtain ⟨low, high⟩ := inside
      cases found
      exact ⟨b, current, low, high, rfl⟩
    · cases found
  · cases found

theorem State.outside_of_locate_eq_none {s : State} {a : Nat} (h : s.locate a = none) {w : WinIx} {b : Binding}
    (current : s.binding? w = some b) : ¬(b.base ≤ a ∧ a < b.top) := by
  have missed := List.findSome?_eq_none_iff.mp h w (mem_allWindows w)
  rw [current] at missed
  simpa using missed

/-- Settles O5: the search over the windows finds a covering binding wherever there is one, and R3's sector
index is below the count of a binding that covers the address. -/
theorem locateAgreesWithBindings : Obligations.LocateAgreesWithBindings := by
  intro s a
  cases found : s.locate a with
  | none => exact fun w b current => State.outside_of_locate_eq_none found current
  | some x =>
    obtain ⟨b, current, low, high, index⟩ := State.locate_eq_some found
    refine ⟨b, current, low, high, index, ?_⟩
    rw [Binding.top] at high
    omega

/-! ## The port's turn (R15, R19) -/

theorem exec_upstreamCycle {s : State} (c : UpCycle) (running : s.power = .running) :
    exec (.upstreamCycle c) s = .next (s.upCycle c) := by
  rw [exec, execUpstreamCycle, running]

theorem exec_burstWord {s : State} (running : s.power = .running) :
    exec .burstWord s = .next s.burstTurn.settle := by
  rw [exec, execBurstWord, State.perform, if_pos running]

theorem State.payBurst_of_not_owed {s : State} (turn : s.bursts.owed = false) : s.payBurst = s := by
  simp [State.payBurst, turn]

theorem State.judgeExpiry_of_judged {s : State} (judged : s.clock.due.expiry = false) : s.judgeExpiry = s := by
  simp [State.judgeExpiry, judged]

/-- A cycle that nothing precedes is decoded at once, and a running burst is then owed the turn. -/
theorem exec_upstreamCycle_at_once {s : State} (c : UpCycle) (running : s.power = .running)
    (turn : s.bursts.owed = false) (judged : s.clock.due.expiry = false) :
    exec (.upstreamCycle c) s = .next (State.owing (State.settle (s.decodeCycle c))) := by
  rw [exec_upstreamCycle c running, State.upCycle, State.payBurst_of_not_owed turn,
    State.judgeExpiry_of_judged judged]
  rfl

/-- A word of a running burst leaves the part running, and the burst is owed no further turn (R19). -/
theorem State.burstTurn_settled {s : State} (running : s.bursts.running ≠ none) :
    s.burstTurn.settle.power = s.power ∧ s.burstTurn.settle.bursts.owed = false := by
  obtain ⟨-, power, owed⟩ := State.burstTurn_onward running
  have settled := (State.Onward.refl s.burstTurn).settle
  exact ⟨settled.power.trans power, settled.owed owed⟩

/-- A cycle that comes while a burst is owed the turn is taken after one more word of it (R19). -/
theorem exec_upstreamCycle_after_word {s : State} (c : UpCycle) (running : s.power = .running)
    (owed : s.bursts.owed = true) (burst : s.bursts.running ≠ none) :
    exec (.upstreamCycle c) s = exec (.upstreamCycle c) s.burstTurn.settle := by
  obtain ⟨power, paid⟩ := State.burstTurn_settled burst
  rw [exec_upstreamCycle c running, exec_upstreamCycle c (power.trans running), State.upCycle, State.upCycle,
    State.payBurst_of_not_owed paid, State.payBurst, if_pos owed]

/-- A cycle that comes before the expiry of the latest advance is taken after it (R15, log 3). -/
theorem exec_upstreamCycle_after_expiry {s : State} (c : UpCycle) (running : s.power = .running)
    (turn : s.bursts.owed = false) :
    exec (.upstreamCycle c) s = exec (.upstreamCycle c) s.judgeExpiry := by
  have judged := (State.Onward.refl s).judgeExpiry
  have due : s.judgeExpiry.clock.due.expiry = false := by
    unfold State.judgeExpiry
    split
    · rfl
    · next no => exact Bool.not_eq_true _ ▸ no
  rw [exec_upstreamCycle c running, exec_upstreamCycle c (judged.power.trans running), State.upCycle,
    State.upCycle, State.payBurst_of_not_owed turn, State.payBurst_of_not_owed (judged.owed turn),
    State.judgeExpiry_of_judged due]

theorem State.turnTaken_exec {s t : State} (h : s.turnTaken t) (c : UpCycle) (running : t.power = .running) :
    exec (.upstreamCycle c) s = exec (.upstreamCycle c) t := by
  obtain ⟨-, rfl⟩ | ⟨owed, burst, word⟩ := h
  · rfl
  · by_cases power : s.power = .running
    · rw [exec_burstWord power] at word
      cases word
      exact exec_upstreamCycle_after_word c power owed burst
    · rw [exec, execBurstWord, State.perform, if_neg power] at word
      cases word
      rfl

/-! ## The expiry of records (R15) -/

/-- Settles O16: the row makes the judgement while it is due, and marks it as made. -/
theorem deferredRecordsExpire : Obligations.DeferredRecordsExpire := by
  intro s running
  rw [exec, execDeferredRecordExpiry, State.whileRunning, if_pos running]
  refine ⟨fun due => ?_, fun due => ?_⟩
  · rw [State.judgeExpiry, if_pos due, State.expireRecords]
  · rw [State.judgeExpiry_of_judged due]

/-! ## A cycle in no window (R2, R3) -/

/-- A cycle in no current binding passes with memory's own answer, and changes memory alone (R3). -/
theorem State.decodeCycle_outside {s : State} {c : UpCycle} (outside : s.locate c.addr.toNat = none) :
    s.decodeCycle c = { s with
      answer := some { answer := .pass, data := memoryData s.memory c.addr.toNat c.access }
      memory := memoryAfter s.memory c.addr.toNat c.access } := by
  rw [State.decodeCycle, outside]
  dsimp only
  rw [State.writeFor_eq, State.readFor_eq]
  rfl

/-- Settles O6: outside every window only memory answers; what precedes a cycle leaves the part ready to
take it. -/
theorem cycleOutsideWindowsPasses : Obligations.CycleOutsideWindowsPasses := by
  refine ⟨fun c s running turn judged outside => ?_, fun c s running owed burst => ?_,
    fun c s running turn due => ?_⟩
  · rw [exec_upstreamCycle_at_once c running turn judged, State.decodeCycle_outside outside]
  · obtain ⟨-, paid⟩ := State.burstTurn_settled burst
    exact ⟨_, exec_burstWord running, paid, exec_upstreamCycle_after_word c running owed burst⟩
  · obtain ⟨made, -⟩ := deferredRecordsExpire s running
    have expired := exec_upstreamCycle_after_expiry c running turn
    rw [State.judgeExpiry, if_pos due] at expired
    exact ⟨_, made due, rfl, expired⟩

/-! ## The Deferred-Cycle List (R13, R14, R16) -/

theorem State.waitsOn_eq_some_iff {s : State} {tag : Tag} {x : SectorRef} {q : DeferRecord} :
    s.waitsOn tag x = some q ↔ s.path.deferred[tag] = some q ∧ q.ref = x := by
  simp [State.waitsOn, Option.filter_eq_some_iff]

theorem State.named_of_waitsOn {s : State} {tag : Tag} {x : SectorRef} {q : DeferRecord}
    (h : s.waitsOn tag x = some q) : (s.path.deferred[tag]).map DeferRecord.ref = some x := by
  obtain ⟨record, same⟩ := State.waitsOn_eq_some_iff.mp h
  rw [record, Option.map_some, same]

theorem State.waitsOn_eq_none_iff {s : State} {tag : Tag} {x : SectorRef} :
    s.waitsOn tag x = none ↔ (s.path.deferred[tag]).map DeferRecord.ref ≠ some x := by
  cases waits : s.path.deferred[tag] <;> simp [State.waitsOn, waits]

/-- A cycle that is served removes its tag's record for the sector, and changes nothing else (R14). -/
theorem State.noteServed_eq (s : State) (tag : Tag) (x : SectorRef) :
    s.noteServed tag x = { s with path := s.path.without tag x } := by
  unfold State.noteServed Path.without
  split
  · next waits =>
    rw [if_pos (State.named_of_waitsOn waits)]
    rfl
  · next waits => rw [if_neg (State.waitsOn_eq_none_iff.mp waits)]

/-- A cycle that is deferred keeps or makes its tag's record for the sector, and changes nothing else (R13). -/
theorem State.noteDefer_eq (s : State) (tag : Tag) (x : SectorRef) :
    s.noteDefer tag x = { s with path := s.path.waiting tag x s.clock.coarse } := by
  unfold State.noteDefer Path.waiting
  split
  · next waits => rw [if_pos (State.named_of_waitsOn waits)]
  · next waits =>
    rw [if_neg (State.waitsOn_eq_none_iff.mp waits)]
    rfl

/-- A tag that is in time has not waited the defer limit (R16). -/
theorem State.expired?_eq_none {s : State} {tag : Tag} {x : SectorRef}
    (inTime : s.path.inTime tag x s.clock.coarse = true) : s.expired? tag x = none := by
  rw [Path.inTime] at inTime
  rw [State.expired?, State.waitsOn]
  cases waits : s.path.deferred[tag] with
  | none => rfl
  | some q =>
    rw [waits] at inTime
    by_cases same : q.ref = x <;> simp_all [Option.filter]

theorem State.expired?_eq_some {s : State} {tag : Tag} {x : SectorRef} {q : DeferRecord}
    (record : s.path.deferred[tag] = some q) (same : q.ref = x)
    (overdue : s.path.deferLimit.toNat ≤ since s.clock.coarse q.first) : s.expired? tag x = some q := by
  rw [State.expired?, State.waitsOn_eq_some_iff.mpr ⟨record, same⟩]
  simp [Option.filter, overdue]

/-! ## The judgement of a cycle that lands (R4) -/

theorem answerOf_read_present {staged : Bool} {st : SectorState} (present : st.isPresent = true) :
    answerOf staged false st = .pass := by
  cases st <;> simp_all [answerOf, SectorState.isPresent]

theorem answerOf_bound_present {write : Bool} {st : SectorState} (present : st.isPresent = true)
    (still : st ≠ .copying) : answerOf false write st = .pass := by
  cases st <;> simp_all [answerOf, SectorState.isPresent]

theorem answerOf_awaited {staged write : Bool} {st : SectorState} (awaited : st.isAwaited = true) :
    answerOf staged write st = .defer := by
  cases st <;> simp_all [answerOf, SectorState.isAwaited]

theorem Window.isStaged_of_isBound {w : Window} (bound : w.isBound = true) : w.isStaged = false := by
  cases w <;> simp_all [Window.isBound, Window.isStaged]

section

variable {s : State} {c : UpCycle} {x : SectorRef} {b : Binding} {e : Entry}

/-- A cycle that lands in a window is decoded at once and judged by its sector entry (R2, R4). -/
theorem State.Lands.exec (h : s.Lands c x b e) :
    Machine.exec (.upstreamCycle c) s = .next (State.owing (State.settle (s.judge c x b e))) := by
  obtain ⟨running, turn, judged, place, current, entry⟩ := h
  rw [exec_upstreamCycle_at_once c running turn judged, State.decodeCycle, place]
  dsimp only
  rw [current, entry]

theorem State.judge_refused (write : accessIsWrite c.access = true)
    (outsider : b.writers.getLsbD c.tag.val = false) : s.judge c x b e = s.refuseWrite c x := by
  unfold State.judge
  dsimp only
  rw [write, outsider]
  rfl

/-- The test of the writer set lets the cycle through (R5). -/
theorem admitted_iff : (accessIsWrite c.access && !b.writers.getLsbD c.tag.val) = false ↔
    (accessIsWrite c.access = true → b.writers.getLsbD c.tag.val = true) := by
  cases accessIsWrite c.access <;> simp

variable (admitted : accessIsWrite c.access = true → b.writers.getLsbD c.tag.val = true)

include admitted

theorem State.judge_pass
    (pass : answerOf (s.window x.win).isStaged (accessIsWrite c.access) e.state = .pass) :
    s.judge c x b e = ((((if accessIsWrite c.access then s.noteWrite x b e else s).noteServed c.tag
      x).answered .pass (s.readFor c.addr.toNat c.access)).writeFor c.addr.toNat c.access) := by
  unfold State.judge
  dsimp only
  rw [admitted_iff.mpr admitted, if_neg Bool.false_ne_true, pass]

theorem State.judge_fault
    (fault : answerOf (s.window x.win).isStaged (accessIsWrite c.access) e.state = .fault) :
    s.judge c x b e = (s.noteServed c.tag x).answered .fault (allOnes c.access) := by
  unfold State.judge
  dsimp only
  rw [admitted_iff.mpr admitted, if_neg Bool.false_ne_true, fault]

theorem State.judge_expired {q : DeferRecord}
    (defer : answerOf (s.window x.win).isStaged (accessIsWrite c.access) e.state = .defer)
    (expired : s.expired? c.tag x = some q) : s.judge c x b e = s.expireCycle c x e q := by
  unfold State.judge
  dsimp only
  rw [admitted_iff.mpr admitted, if_neg Bool.false_ne_true, defer]
  dsimp only
  rw [expired]

theorem State.judge_defer
    (defer : answerOf (s.window x.win).isStaged (accessIsWrite c.access) e.state = .defer)
    (inTime : s.path.inTime c.tag x s.clock.coarse = true) :
    s.judge c x b e = ((if (s.window x.win).isStaged then s else s.askFor x b e).noteDefer c.tag
      x).answered .defer none := by
  unfold State.judge
  dsimp only
  rw [admitted_iff.mpr admitted, if_neg Bool.false_ne_true, defer]
  dsimp only
  rw [State.expired?_eq_none inTime]

end

/-! ## Refusals, reads and faults -/

theorem Path.without_lastRefusal (p : Path) (r : Option RefusalRecord) (tag : Tag) (x : SectorRef) :
    { p with lastRefusal := r }.without tag x = { p.without tag x with lastRefusal := r } := by
  unfold Path.without
  dsimp only
  split <;> rfl

theorem State.refuseWrite_eq {s : State} {c : UpCycle} {x : SectorRef} (write : accessIsWrite c.access = true) :
    s.refuseWrite c x = { s with
      answer := some { answer := .fault, data := none }
      path := { s.path.without c.tag x with
        lastRefusal := some { tag := c.tag, addr := c.addr, word := accessIsWord c.access, ref := x,
                              time := s.clock.coarse } }
      events := s.events.raise .writeRefused } := by
  have ones : allOnes c.access = none := by
    cases access : c.access <;> simp_all [accessIsWrite, allOnes]
  rw [State.refuseWrite, ones]
  dsimp only
  rw [State.noteServed_eq, State.raise_path, Path.without_lastRefusal]
  rfl

/-- Settles O7: the writer set is judged first, after a word that a running burst is owed (R5, R19). -/
theorem writeOutsideWriterSetRefused : Obligations.WriteOutsideWriterSetRefused := by
  intro c x b e s t taken lands write outsider
  rw [State.turnTaken_exec taken c lands.running, lands.exec, State.judge_refused write outsider,
    State.refuseWrite_eq write]

/-- Settles O8: a read of a present sector passes whatever the window's state, and only its tag's record
goes (R6, R7, R14). -/
theorem readOfPresentSectorPasses : Obligations.ReadOfPresentSectorPasses := by
  intro c x b e s lands read present
  have admitted : accessIsWrite c.access = true → b.writers.getLsbD c.tag.val = true :=
    fun write => absurd (read.symm.trans write) Bool.false_ne_true
  have pass : answerOf (s.window x.win).isStaged (accessIsWrite c.access) e.state = .pass := by
    rw [read]
    exact answerOf_read_present present
  rw [lands.exec, State.judge_pass admitted pass, read, if_neg Bool.false_ne_true, State.noteServed_eq,
    State.writeFor_eq, State.readFor_eq]
  have same : memoryAfter s.memory c.addr.toNat c.access = s.memory := by
    cases access : c.access <;> simp_all [accessIsWrite, memoryAfter]
  dsimp only [State.answered]
  rw [same]

/-- Settles O12: a tag that has waited the limit gives its record up for the last-expiry record, and a FAILED
sector answers FAULT wherever the cycle is not deferred for a STAGED window (R7, R14, R16). -/
theorem overdueAndFailedCyclesFault : Obligations.OverdueAndFailedCyclesFault := by
  intro c x b e s lands admitted
  refine ⟨fun q record same overdue defer => ?_, fun failed served => ?_⟩
  · rw [lands.exec, State.judge_expired admitted defer (State.expired?_eq_some record same overdue)]
    rfl
  · have fault : answerOf (s.window x.win).isStaged (accessIsWrite c.access) e.state = .fault := by
      have through : ((s.window x.win).isStaged && accessIsWrite c.access) = false := by
        obtain read | bound := served
        · rw [read, Bool.and_false]
        · rw [Window.isStaged_of_isBound bound, Bool.false_and]
      rw [failed, answerOf, through, if_neg Bool.false_ne_true]
    rw [lands.exec, State.judge_fault admitted fault, State.noteServed_eq]
    rfl

/-- Settles O10: in each of the four forms the cycle is deferred, and there is nothing to ask for. -/
theorem deferredCycleOnlyWaits : Obligations.DeferredCycleOnlyWaits := by
  intro c x b e s lands admitted inTime form
  have waits (defer : answerOf (s.window x.win).isStaged (accessIsWrite c.access) e.state = .defer)
      (nothing : (if (s.window x.win).isStaged then s else s.askFor x b e) = s) :
      exec (.upstreamCycle c) s = .next (State.owing (State.settle { s with
        answer := some { answer := .defer, data := none }
        path := s.path.waiting c.tag x s.clock.coarse })) := by
    rw [lands.exec, State.judge_defer admitted defer inTime, nothing, State.noteDefer_eq]
    rfl
  obtain ⟨staged, write | awaited⟩ | ⟨bound, write, copying⟩ | ⟨bound, absent, detached⟩ := form
  · exact waits (by rw [staged, write]; rfl) (if_pos staged)
  · exact waits (answerOf_awaited awaited) (if_pos staged)
  · have direct := Window.isStaged_of_isBound bound
    refine waits (by rw [direct, write, copying]; rfl) ?_
    rw [direct, if_neg Bool.false_ne_true, State.askFor, copying]
  · have direct := Window.isStaged_of_isBound bound
    refine waits (answerOf_awaited (by rw [absent]; rfl)) ?_
    rw [direct, if_neg Bool.false_ne_true, State.askFor, absent]
    simp [State.attached, detached]

end Sys2Proof.Machine
end

section
/-! SUPPORT. What a passed write and a deferred cycle request: write-backs, demand fills, blank fills (R8 to R12, R66 to R69). -/

namespace Sys2Proof.Machine

open Sys2Proof

/-! ## Write-back requests (R69) -/

/-- A write-back request changes the pool and the events alone. -/
theorem State.requestWrite_frame (s : State) (x : SectorRef) (u : Urgency) :
    ∃ p v, s.requestWrite x u = { s with pool := p, events := v } := by
  obtain e | ⟨r, -, -, e⟩ | ⟨y, -, -, -, -, e⟩ | ⟨y, r, -, -, -, -, -, -, e⟩ :=
    s.requestWrite_cases x u <;> rw [e] <;> exact ⟨_, _, rfl⟩

section

variable {s : State} {x : SectorRef} {e : Entry} (entry : s.entry? x = some e) (idle : s.opOf x = none)
  (dirty : e.state = .dirty) (unlisted : x ∉ s.pool.backlog)

include entry idle dirty unlisted

/-- A DIRTY entry without a record takes a free one where no record names its disk sector (R69). -/
theorem State.requestWrite_made {r : RecIx} (u : Urgency) (untaken : s.sectorTaken e.addr = false)
    (free : s.freeRecord? = some r) : s.requestWrite x u = s.makeRecord r (s.writebackRecord x e u) := by
  unfold State.requestWrite
  simp [entry, idle, dirty, unlisted, untaken, free]

/-- A DIRTY entry without a record joins the Backlog List where it can have none (R69). -/
theorem State.requestWrite_backlog (u : Urgency) (full : s.sectorTaken e.addr = true ∨ s.freeRecord? = none) :
    s.requestWrite x u = s.joinBacklog x e := by
  unfold State.requestWrite
  by_cases taken : s.sectorTaken e.addr = true
  · simp [entry, idle, dirty, unlisted, taken]
  · simp [entry, idle, dirty, unlisted, taken, full.resolve_left taken]

end

theorem State.mem_backlogInsert (s : State) (x : SectorRef) (age : Nat) (l : List SectorRef) :
    x ∈ s.backlogInsert x age l := by
  induction l with
  | nil => exact List.mem_singleton_self x
  | cons y rest ih =>
    rw [State.backlogInsert]
    split_ifs
    · exact List.mem_cons_self
    · exact List.mem_cons_of_mem y ih

/-! ## A passed write (R8, R9) -/

section

variable {s : State} {x : SectorRef} {b : Binding} {e : Entry}

/-- A passed write changes entries, the pool and the events alone. -/
theorem State.noteWrite_frame (s : State) (x : SectorRef) (b : Binding) (e : Entry) :
    ∃ ws p v, s.noteWrite x b e = { s with windows := ws, pool := p, events := v } := by
  unfold State.noteWrite
  split
  · dsimp only
    split
    · obtain ⟨p, v, same⟩ := (s.modEntry x
        (Entry.firstWrite (s.attached b.drive) s.clock.coarse)).requestWrite_frame x .normal
      rw [same]
      exact ⟨_, _, _, rfl⟩
    · exact ⟨_, _, _, rfl⟩
  all_goals exact ⟨_, _, _, rfl⟩

/-- A write makes a CLEAN sector DIRTY, or STRANDED, and requests a write-back where the window is DIRECT and
the drive ATTACHED (R8). -/
theorem State.noteWrite_clean (clean : e.state = .clean) : s.noteWrite x b e =
    if s.attached b.drive ∧ !b.gathered then
      (s.modEntry x (Entry.firstWrite (s.attached b.drive) s.clock.coarse)).requestWrite x .normal
    else s.modEntry x (Entry.firstWrite (s.attached b.drive) s.clock.coarse) := by
  rw [State.noteWrite, clean]

theorem State.noteWrite_writing (writing : e.state = .writing) :
    s.noteWrite x b e = s.modEntry x (Entry.rewritten s.clock.coarse) := by
  rw [State.noteWrite, writing]

theorem State.noteWrite_other (clean : e.state ≠ .clean) (writing : e.state ≠ .writing) :
    s.noteWrite x b e = s := by
  cases state : e.state <;> simp_all [State.noteWrite]

/-- The entry of the sector after a write to a CLEAN one, the request of its write-back made or not. -/
theorem State.noteWrite_clean_windows (clean : e.state = .clean) : (s.noteWrite x b e).windows =
    (s.modEntry x (Entry.firstWrite (s.attached b.drive) s.clock.coarse)).windows := by
  rw [State.noteWrite_clean clean]
  split
  · rw [State.requestWrite_windows]
  · rfl

theorem State.entry_noteWrite (entry : s.entry? x = some e) : (s.noteWrite x b e).entry? x = some
    (if e.state = .clean then
      { e with
        state := if (s.volume b.drive).state = .attached then .dirty else .stranded
        dirtySince := some s.clock.coarse }
    else if e.state = .writing then
      { e with state := .redirty, redirtySince := some s.clock.coarse }
    else e) := by
  by_cases clean : e.state = .clean
  · rw [State.entry_congr (State.noteWrite_clean_windows clean), State.entry_modEntry_self, entry]
    simp [Entry.firstWrite, clean, State.attached]
  · by_cases writing : e.state = .writing
    · rw [State.noteWrite_writing writing, State.entry_modEntry_self, entry]
      simp [Entry.rewritten, writing]
    · rw [State.noteWrite_other clean writing, entry, if_neg clean, if_neg writing]

theorem State.entry_noteWrite_other {y : SectorRef} (other : y ≠ x) :
    (s.noteWrite x b e).entry? y = s.entry? y := by
  by_cases clean : e.state = .clean
  · rw [State.entry_congr (State.noteWrite_clean_windows clean), State.entry_modEntry_other _ _ other]
  · by_cases writing : e.state = .writing
    · rw [State.noteWrite_writing writing, State.entry_modEntry_other _ _ other]
    · rw [State.noteWrite_other clean writing]

/-- Only a sector that becomes DIRTY in a DIRECT window is requested for write-back (R8). -/
theorem State.noteWrite_quiet
    (quiet : ¬(e.state = .clean ∧ (s.volume b.drive).state = .attached ∧ b.gathered = false)) :
    (s.noteWrite x b e).pool = s.pool ∧ (s.noteWrite x b e).events = s.events := by
  by_cases clean : e.state = .clean
  · have unasked : ¬(s.attached b.drive = true ∧ (!b.gathered) = true) := by
      simpa [State.attached, clean] using quiet
    rw [State.noteWrite_clean clean, if_neg unasked]
    exact ⟨rfl, rfl⟩
  · by_cases writing : e.state = .writing
    · rw [State.noteWrite_writing writing]
      exact ⟨rfl, rfl⟩
    · rw [State.noteWrite_other clean writing]
      exact ⟨rfl, rfl⟩

/-- A CLEAN sector of a DIRECT window on an ATTACHED drive has its write-back requested (R8). -/
theorem State.noteWrite_direct (clean : e.state = .clean) (attached : (s.volume b.drive).state = .attached)
    (direct : b.gathered = false) : s.noteWrite x b e =
      (s.modEntry x (Entry.firstWrite true s.clock.coarse)).requestWrite x .normal := by
  have on : s.attached b.drive = true := decide_eq_true attached
  rw [State.noteWrite_clean clean, on, direct]
  rfl

/-- A write to a present sector of a BOUND window is performed, and its entry follows (R7, R14). -/
theorem State.Lands.exec_write {c : UpCycle} (lands : s.Lands c x b e)
    (write : accessIsWrite c.access = true) (writer : b.writers.getLsbD c.tag.val = true)
    (bound : (s.window x.win).isBound = true) (present : e.state.isPresent = true)
    (still : e.state ≠ .copying) :
    Machine.exec (.upstreamCycle c) s = .next (State.owing (State.settle { s.noteWrite x b e with
      answer := some { answer := .pass, data := none }
      memory := memoryAfter s.memory c.addr.toNat c.access
      path := s.path.without c.tag x })) := by
  have pass : answerOf (s.window x.win).isStaged (accessIsWrite c.access) e.state = .pass := by
    rw [Window.isStaged_of_isBound bound]
    exact answerOf_bound_present present still
  have silent : s.readFor c.addr.toNat c.access = none := by
    cases access : c.access <;> simp_all [accessIsWrite, State.readFor]
  obtain ⟨ws, p, v, same⟩ := s.noteWrite_frame x b e
  rw [lands.exec, State.judge_pass (fun _ => writer) pass, if_pos write, State.noteServed_eq,
    State.writeFor_eq, silent, same]
  rfl

end

/-- Settles O9: the write's effect on its entry, and the two outcomes of the write-back request of a sector
that has become DIRTY (R7, R8, R9, R69). -/
theorem writeToPresentSectorPasses : Obligations.WriteToPresentSectorPasses := by
  intro c x b e s lands write writer bound present still
  obtain ⟨ws, p, v, same⟩ := s.noteWrite_frame x b e
  refine ⟨_, lands.exec_write write writer bound present still, rfl, rfl, rfl,
    State.entry_noteWrite lands.entry, fun y other => State.entry_noteWrite_other other,
    by rw [same], by rw [same], by rw [same], by rw [same], by rw [same], by rw [same], by rw [same],
    by rw [same], by rw [same], State.noteWrite_quiet, fun clean attached direct idle unlisted => ?_⟩
  dsimp only
  have dirty : (Entry.firstWrite true s.clock.coarse e).state = .dirty := by
    rw [Entry.firstWrite, if_pos clean]
    rfl
  have addr : (Entry.firstWrite true s.clock.coarse e).addr = e.addr := by
    rw [Entry.firstWrite, if_pos clean]
  have entry : (s.modEntry x (Entry.firstWrite true s.clock.coarse)).entry? x =
      some (Entry.firstWrite true s.clock.coarse e) := by
    rw [State.entry_modEntry_self, lands.entry, Option.map_some]
  refine ⟨fun untaken r free => ?_, fun full => ?_⟩
  · have made := State.requestWrite_made entry idle dirty unlisted .normal (addr ▸ untaken) free
    rw [State.noteWrite_direct clean attached direct, made]
    refine ⟨rfl, rfl, fun r' other => ?_, _, (State.record_makeRecord _ r r _).trans (if_pos rfl), rfl, rfl,
      rfl, rfl, ?_, ?_, ?_, ?_, rfl, rfl, rfl⟩
    · exact (State.record_makeRecord _ r r' _).trans (if_neg other)
    all_goals simp [State.writebackRecord, Record.new, addr]
  · have joined := State.requestWrite_backlog entry idle dirty unlisted .normal (addr ▸ full)
    rw [State.noteWrite_direct clean attached direct, joined]
    exact ⟨State.mem_backlogInsert _ x _ _, EventUnit.raised_raise _ _, rfl⟩

/-! ## Eviction (R68) -/

/-- The evicted prefetch is WAITING, and no younger record of the pool is a WAITING prefetch (R68). -/
theorem State.evictable?_youngest {s : State} {r : RecIx} (h : s.evictable? = some r) :
    (∃ q, s.record? r = some q ∧ q.kind = .prefetch ∧ q.phase = .waiting) ∧
    ∃ older younger, s.pool.order = older ++ r :: younger ∧
      ∀ r' ∈ younger, ∀ q', s.record? r' = some q' → ¬(q'.kind = .prefetch ∧ q'.phase = .waiting) := by
  obtain ⟨waits, younger, older, order, passed⟩ := List.find?_eq_some_iff_append.mp h
  refine ⟨?_, older.reverse, younger.reverse, ?_, fun r' young q' record => ?_⟩
  · split at waits
    · next q record => exact ⟨q, record, by simpa using waits⟩
    · cases waits
  · rw [← List.reverse_reverse s.pool.order, order]
    simp
  · have no := passed r' (List.mem_reverse.mp young)
    rintro ⟨prefetch, waiting⟩
    simp [record, prefetch, waiting] at no

theorem State.entry_evict (s : State) (r : RecIx) (y : SectorRef) : (s.evict r).entry? y =
    if (s.record? r).bind Record.owner = some y then (s.entry? y).map Entry.fillCancelled
    else s.entry? y := by
  unfold State.evict
  split
  · next x owner =>
    rw [State.entry_congr (State.dropRecord_windows _ r), State.entry_modEntry, owner]
    by_cases same : y = x
    · subst same
      simp
    · rw [if_neg same, if_neg fun some => same (Option.some.inj some).symm]
  · next owner =>
    rw [State.entry_congr (State.dropRecord_windows _ r), owner, if_neg (Option.some_ne_none y).symm]

theorem State.record_evict (s : State) (r j : RecIx) :
    (s.evict r).record? j = if j = r then none else s.record? j := by
  unfold State.evict
  split <;> exact State.record_dropRecord _ r j

/-- An eviction changes entries and the pool alone. -/
theorem State.evict_frame (s : State) (r : RecIx) :
    ∃ ws p, s.evict r = { s with windows := ws, pool := p } := by
  unfold State.evict
  split <;> exact ⟨_, _, rfl⟩

/-- An eviction leaves an ABSENT entry as it is: the fill it cancels is another's. -/
theorem State.entry_evict_absent {s : State} {x : SectorRef} {e : Entry} (entry : s.entry? x = some e)
    (absent : e.state = .absent) (r : RecIx) : (s.evict r).entry? x = some e := by
  rw [State.entry_evict, entry]
  simp [Entry.fillCancelled, absent]

/-! ## Demand fills (R10, R66, R67) -/

/-- The record that a demand fill makes for an entry (R66, R67). -/
def State.demandRecord (s : State) (x : SectorRef) (e : Entry) : Record :=
  { Record.new .fill .demand e.addr s.clock.coarse with owner := some x }

section

variable {s : State} {x : SectorRef} {e : Entry}

/-- A demand fill: nothing, where a record names the sector or none can be had; or a record made from a free
one, or from the youngest WAITING prefetch's (R67, R68). -/
theorem State.requestFill_cases (s : State) (x : SectorRef) (e : Entry) :
    s.requestFill x e = s ∨
    (∃ r, s.freeRecord? = some r ∧
      s.requestFill x e = (s.makeRecord r (s.demandRecord x e)).modEntry x Entry.queued) ∨
    (s.freeRecord? = none ∧ ∃ r, s.evictable? = some r ∧
      s.requestFill x e = ((s.evict r).makeRecord r (s.demandRecord x e)).modEntry x Entry.queued) := by
  unfold State.requestFill
  split
  · exact .inl rfl
  · split
    · next t made =>
      obtain ⟨r, free, rfl⟩ | ⟨full, r, evicts, rfl⟩ := State.makeOrEvict_cases made
      · exact .inr (.inl ⟨r, free, rfl⟩)
      · exact .inr (.inr ⟨full, r, evicts, rfl⟩)
    · exact .inl rfl

/-- A demand fill changes entries and the pool alone. -/
theorem State.requestFill_frame (s : State) (x : SectorRef) (e : Entry) :
    ∃ ws p, s.requestFill x e = { s with windows := ws, pool := p } := by
  obtain same | ⟨r, -, same⟩ | ⟨-, r, -, same⟩ := s.requestFill_cases x e <;> rw [same]
  · exact ⟨_, _, rfl⟩
  · exact ⟨_, _, rfl⟩
  · obtain ⟨ws, p, evicted⟩ := s.evict_frame r
    rw [evicted]
    exact ⟨_, _, rfl⟩

/-- With no prefetch to evict, a demand fill changes no entry but its own. -/
theorem State.entry_requestFill_other {y : SectorRef} (other : y ≠ x) (none : s.evictable? = none) :
    (s.requestFill x e).entry? y = s.entry? y := by
  obtain same | ⟨r, -, same⟩ | ⟨-, r, evicts, -⟩ := s.requestFill_cases x e
  · rw [same]
  · rw [same, State.entry_modEntry_other _ _ other]
    rfl
  · exact absurd (none.symm.trans evicts) (Option.some_ne_none r).symm

theorem State.requestFill_free {r : RecIx} (untaken : s.sectorTaken e.addr = false)
    (free : s.freeRecord? = some r) :
    s.requestFill x e = (s.makeRecord r (s.demandRecord x e)).modEntry x Entry.queued := by
  rw [State.requestFill, untaken, State.makeOrEvict, free]
  rfl

theorem State.requestFill_evicts {r : RecIx} (untaken : s.sectorTaken e.addr = false)
    (full : s.freeRecord? = none) (evicts : s.evictable? = some r) :
    s.requestFill x e = ((s.evict r).makeRecord r (s.demandRecord x e)).modEntry x Entry.queued := by
  rw [State.requestFill, untaken, State.makeOrEvict, full, evicts]
  rfl

theorem State.requestFill_none (untaken : s.sectorTaken e.addr = false) (full : s.freeRecord? = none)
    (none : s.evictable? = none) : s.requestFill x e = s := by
  rw [State.requestFill, untaken, State.makeOrEvict, full, none]
  rfl

/-- Where the demand fill of an ABSENT entry has its record, the entry is QUEUED and the record its FILL. -/
theorem State.requestFill_made {r : RecIx} (entry : s.entry? x = some e) (absent : e.state = .absent)
    (untaken : s.sectorTaken e.addr = false)
    (had : s.freeRecord? = some r ∨ (s.freeRecord? = none ∧ s.evictable? = some r)) :
    (s.requestFill x e).entry? x = some { e with state := .queued } ∧
    (∀ r', r' ≠ r → (s.requestFill x e).record? r' = s.record? r') ∧
    (s.requestFill x e).record? r = some (s.demandRecord x e) := by
  have queued : Entry.queued e = { e with state := .queued } := if_pos absent
  obtain free | ⟨full, evicts⟩ := had
  · rw [State.requestFill_free untaken free, State.entry_modEntry_self]
    refine ⟨?_, fun r' other => (State.record_makeRecord s r r' _).trans (if_neg other),
      (State.record_makeRecord s r r _).trans (if_pos rfl)⟩
    rw [State.entry_congr (State.makeRecord_windows s r _), entry, Option.map_some, queued]
  · rw [State.requestFill_evicts untaken full evicts, State.entry_modEntry_self]
    refine ⟨?_, fun r' other => (State.record_makeRecord _ r r' _).trans ?_,
      (State.record_makeRecord _ r r _).trans (if_pos rfl)⟩
    · rw [State.entry_congr (State.makeRecord_windows _ r _), State.entry_evict_absent entry absent,
        Option.map_some, queued]
    · rw [if_neg other, State.record_evict, if_neg other]

/-- The entry whose QUEUED prefetch gives up its record returns to ABSENT (R68). -/
theorem State.entry_requestFill_evicted {r : RecIx} {q : Record} {y : SectorRef} {f : Entry}
    (untaken : s.sectorTaken e.addr = false) (full : s.freeRecord? = none) (evicts : s.evictable? = some r)
    (record : s.record? r = some q) (owner : q.owner = some y) (other : y ≠ x)
    (entry : s.entry? y = some f) (queued : f.state = .queued) :
    (s.requestFill x e).entry? y = some (Entry.new f.addr) := by
  rw [State.requestFill_evicts untaken full evicts, State.entry_modEntry_other _ _ other,
    State.entry_congr (State.makeRecord_windows _ r _), State.entry_evict, record]
  simp [owner, entry, Entry.fillCancelled, queued, Entry.emptied]

end

/-! ## Blank fills (R11, R113) -/

/-- The blank fill of an entry, at its request (R11, R114). -/
def State.blankBurst (s : State) (x : SectorRef) (d : DriveIx) : Burst :=
  { kind := .blankFill, drive := d, base := s.imageBase x, record := none, served := some x,
    buffer := none, damaged := false, words := 0, fill := 0 }

section

variable {s : State} {x : SectorRef}

/-- A request of a blank fill changes entries and the bursts alone. -/
theorem State.requestBlank_frame (s : State) (x : SectorRef) (d : DriveIx) :
    ∃ ws u, s.requestBlank x d = { s with windows := ws, bursts := u } := by
  unfold State.requestBlank
  split
  · exact ⟨_, _, rfl⟩
  · obtain same | ⟨u, rest, -, -, same⟩ := ((s.modEntry x Entry.blankBegins).joinQueue
      (s.blankBurst x d)).startNext_cases
    all_goals exact ⟨_, _, same⟩

theorem State.requestBlank_made {d : DriveIx} (place : s.placeHeld d = false)
    (behind : s.pendingBehind d = false) : s.requestBlank x d =
      ((s.modEntry x Entry.blankBegins).joinQueue (s.blankBurst x d)).startNext := by
  rw [State.requestBlank, place, behind]
  rfl

theorem State.entry_requestBlank_other {y : SectorRef} (other : y ≠ x) (d : DriveIx) :
    (s.requestBlank x d).entry? y = s.entry? y := by
  unfold State.requestBlank
  split
  · rfl
  · rw [State.entry_congr (State.startNext_windows _)]
    exact State.entry_modEntry_other s _ other

/-- The blank fill of an ABSENT entry: it is FILLING (R11). -/
theorem State.entry_requestBlank {d : DriveIx} {e : Entry} (entry : s.entry? x = some e)
    (absent : e.state = .absent) (place : s.placeHeld d = false) (behind : s.pendingBehind d = false) :
    (s.requestBlank x d).entry? x = some { e with state := .filling } := by
  have filling : Entry.blankBegins e = { e with state := .filling } := if_pos absent
  rw [State.requestBlank_made place behind, State.entry_congr (State.startNext_windows _)]
  refine (State.entry_modEntry_self s x _).trans ?_
  rw [entry, Option.map_some, filling]

/-- While a burst runs, one that joins the queue waits at its tail (R113). -/
theorem State.startNext_running {v : Burst} (running : s.bursts.running = some v) : s.startNext = s := by
  unfold State.startNext
  rw [running]

theorem State.startNext_idle {v : Burst} {rest : List Burst} (none : s.bursts.running = none)
    (queue : s.bursts.queue = v :: rest) :
    s.startNext = { s with bursts := { s.bursts with running := some v, queue := rest } } := by
  unfold State.startNext
  rw [none, queue]

/-- The blank fill takes its place: it waits behind a running burst, and starts where nothing runs (R113). -/
theorem State.bursts_requestBlank {d : DriveIx} (place : s.placeHeld d = false)
    (behind : s.pendingBehind d = false) :
    (s.bursts.running.isSome = true → (s.requestBlank x d).bursts.queue = s.bursts.queue ++ [s.blankBurst x d] ∧
      (s.requestBlank x d).bursts.running = s.bursts.running) ∧
    (s.bursts.running = none → s.bursts.queue = [] →
      (s.requestBlank x d).bursts.running = some (s.blankBurst x d) ∧
        (s.requestBlank x d).bursts.queue = []) := by
  rw [State.requestBlank_made place behind]
  refine ⟨fun some => ?_, fun none empty => ?_⟩
  · obtain ⟨v, running⟩ := Option.isSome_iff_exists.mp some
    rw [State.startNext_running (s := (s.modEntry x _).joinQueue _) running]
    exact ⟨rfl, rfl⟩
  · have queue : ((s.modEntry x Entry.blankBegins).joinQueue (s.blankBurst x d)).bursts.queue =
        s.blankBurst x d :: [] := congrArg (· ++ [s.blankBurst x d]) empty
    rw [State.startNext_idle (s := (s.modEntry x _).joinQueue _) none queue]
    exact ⟨rfl, rfl⟩

end

/-! ## Prefetches that a cycle raises (R67) -/

/-- A change that leaves a record as it is leaves the state as it is. -/
theorem State.modRecord_same {s : State} {r : RecIx} {f : Record → Record}
    (same : (s.record? r).map f = s.record? r) : s.modRecord r f = s := by
  rw [State.modRecord_eq, same, State.setRecord, State.record?]
  simp

/-- The record that an operation field names is in use (R60). -/
theorem State.record_of_opOf {s : State} {x : SectorRef} {r : RecIx} (h : s.opOf x = some r) :
    ∃ q, s.record? r = some q := by
  have owned := List.find?_some h
  split at owned
  · next q record => exact ⟨q, record⟩
  · cases owned

theorem State.raiseFill_prefetch {s : State} {x : SectorRef} {r : RecIx} {q : Record}
    (op : s.opOf x = some r) (record : s.record? r = some q) (prefetch : q.kind = .prefetch) :
    s.raiseFill x = { s with pool := { s.pool with
      records := s.pool.records.set r (some { q with kind := .fill, urgency := .demand }) } } := by
  rw [State.raiseFill, op]
  dsimp only
  rw [State.modRecord_eq, record, Option.map_some, if_pos prefetch]
  rfl

theorem State.raiseFill_other {s : State} {x : SectorRef}
    (other : ∀ r q, s.opOf x = some r → s.record? r = some q → q.kind ≠ .prefetch) : s.raiseFill x = s := by
  unfold State.raiseFill
  split
  · next r op =>
    obtain ⟨q, record⟩ := State.record_of_opOf op
    apply State.modRecord_same
    rw [record, Option.map_some, if_neg (other r q op record)]
  · rfl

/-! ## What a deferred cycle asks for -/

section

variable {s : State} {c : UpCycle} {x : SectorRef} {b : Binding} {e : Entry}

/-- What a deferred cycle asks for changes entries, the pool and the bursts alone. -/
theorem State.askFor_frame (s : State) (x : SectorRef) (b : Binding) (e : Entry) :
    ∃ ws p u, s.askFor x b e = { s with windows := ws, pool := p, bursts := u } := by
  have raised : ∃ ws p u, s.raiseFill x = { s with windows := ws, pool := p, bursts := u } := by
    unfold State.raiseFill
    split <;> exact ⟨_, _, _, rfl⟩
  unfold State.askFor
  split
  · split
    · split
      · obtain ⟨ws, u, same⟩ := s.requestBlank_frame x b.drive
        exact ⟨_, _, _, same⟩
      · obtain ⟨ws, p, same⟩ := s.requestFill_frame x e
        exact ⟨_, _, _, same⟩
    · exact ⟨_, _, _, rfl⟩
  · exact raised
  · exact raised
  all_goals exact ⟨_, _, _, rfl⟩

theorem State.askFor_absent (absent : e.state = .absent) (attached : (s.volume b.drive).state = .attached) :
    s.askFor x b e = if b.fresh then s.requestBlank x b.drive else s.requestFill x e := by
  have on : s.attached b.drive = true := decide_eq_true attached
  rw [State.askFor, absent]
  dsimp only
  rw [on, if_pos rfl]

theorem State.askFor_coming (coming : e.state = .queued ∨ e.state = .filling) :
    s.askFor x b e = s.raiseFill x := by
  obtain queued | filling := coming
  · rw [State.askFor, queued]
  · rw [State.askFor, filling]

/-- A cycle that finds a sector of a BOUND window on its way into memory asks for it and is deferred (R10). -/
theorem State.Lands.exec_awaited (lands : s.Lands c x b e)
    (admitted : accessIsWrite c.access = true → b.writers.getLsbD c.tag.val = true)
    (inTime : s.path.inTime c.tag x s.clock.coarse = true) (bound : (s.window x.win).isBound = true)
    (awaited : e.state.isAwaited = true) :
    Machine.exec (.upstreamCycle c) s = .next (State.owing (State.settle { s.askFor x b e with
      answer := some { answer := .defer, data := none }
      path := s.path.waiting c.tag x s.clock.coarse })) := by
  obtain ⟨ws, p, u, same⟩ := s.askFor_frame x b e
  rw [lands.exec, State.judge_defer admitted (answerOf_awaited awaited) inTime,
    Window.isStaged_of_isBound bound, if_neg Bool.false_ne_true, State.noteDefer_eq, same]
  rfl

end

/-- Settles O11: an ABSENT sector is asked for by a demand fill or a blank fill, one on its way has its
prefetch raised, and the cycle waits (R7, R10, R11, R66 to R68, R113). -/
theorem absentSectorIsRequested : Obligations.AbsentSectorIsRequested := by
  refine ⟨fun c x b e s lands admitted inTime bound absent attached => ?_,
    fun s r evicts => State.evictable?_youngest evicts,
    fun c x b e s lands admitted inTime bound coming => ?_⟩
  · obtain ⟨ws, p, v, same⟩ := s.askFor_frame x b e
    have asks : s.askFor x b e = if b.fresh then s.requestBlank x b.drive else s.requestFill x e :=
      State.askFor_absent absent attached
    refine ⟨_, lands.exec_awaited admitted inTime bound (by rw [absent]; rfl), rfl, rfl, by rw [same],
      by rw [same], by rw [same], fun y other none => ?_, fun old untaken => ?_, fun fresh place behind => ?_⟩
    · change (s.askFor x b e).entry? y = s.entry? y
      rw [asks]
      split
      · exact State.entry_requestBlank_other other b.drive
      · exact State.entry_requestFill_other other none
    · have asks : s.askFor x b e = s.requestFill x e := by rw [asks, old, if_neg Bool.false_ne_true]
      obtain ⟨ws, p, kept⟩ := s.requestFill_frame x e
      rw [asks]
      refine ⟨fun r had => ?_, fun r q y f full evicts record owner other entry queued => ?_,
        fun full none => ?_⟩
      · obtain ⟨entry, others, made⟩ := State.requestFill_made lands.entry absent untaken had
        exact ⟨entry, by rw [kept], others, _, made, rfl, rfl, rfl, rfl, rfl, rfl, rfl, rfl, rfl⟩
      · exact State.entry_requestFill_evicted untaken full evicts record owner other entry queued
      · rw [State.requestFill_none untaken full none]
        exact ⟨lands.entry, rfl, rfl⟩
    · have asks : s.askFor x b e = s.requestBlank x b.drive := by rw [asks, fresh, if_pos rfl]
      obtain ⟨ws, u, kept⟩ := s.requestBlank_frame x b.drive
      obtain ⟨waits, starts⟩ := State.bursts_requestBlank (x := x) place behind
      have base : s.imageBase x = b.base + 256 * x.idx := by rw [State.imageBase, lands.current]
      rw [asks]
      exact ⟨State.entry_requestBlank lands.entry absent place behind, by rw [kept], s.blankBurst x b.drive,
        rfl, rfl, base, rfl, rfl, waits, starts⟩
  · have waits := lands.exec_awaited admitted inTime bound (by obtain h | h := coming <;> rw [h] <;> rfl)
    rw [State.askFor_coming coming] at waits
    refine ⟨fun r q op record prefetch => ?_, fun other => ?_⟩
    · rw [waits, State.raiseFill_prefetch op record prefetch]
    · rw [waits, State.raiseFill_other other]

end Sys2Proof.Machine
end

section
/-! SUPPORT. A word of a running burst, the swap of a window, and the state after a cold start. -/

namespace Sys2Proof.Machine

open Sys2Proof

/-! ## Words of memory and of buffers (R2, R114) -/

/-- What memory reads as after a word is written at an even address. -/
theorem State.readByte_writeWord {s : State} (canonical : s.memory.wf = true) {a b : Nat} (even : a % 2 = 0)
    (top : a + 1 < memorySize) (inside : b < memorySize) (w : BitVec 16) :
    (s.writeWord a w).readByte b =
      if b = a + 1 then w.extractLsb' 0 8 else if b = a then w.extractLsb' 8 8 else s.readByte b := by
  have aligned : a / 2 * 2 = a := Nat.div_mul_cancel (Nat.dvd_of_mod_eq_zero even)
  rw [State.writeWord, State.readByte_writeByte (State.writeByte_wf canonical _ _),
    State.readByte_writeByte canonical, aligned, Nat.mod_eq_of_lt top, Nat.mod_eq_of_lt inside,
    Nat.mod_eq_of_lt (Nat.lt_of_succ_lt top)]

/-- The high byte of a word written at an even address lies there, and the low one above it. -/
theorem State.readByte_writeWord_append {s : State} (canonical : s.memory.wf = true) {a : Nat}
    (even : a % 2 = 0) (top : a + 1 < memorySize) (high low : Byte) :
    (s.writeWord a (high ++ low)).readByte a = high ∧ (s.writeWord a (high ++ low)).readByte (a + 1) = low := by
  rw [State.readByte_writeWord canonical even top (Nat.lt_of_succ_lt top),
    State.readByte_writeWord canonical even top top, if_neg (Nat.succ_ne_self a).symm, if_pos rfl, if_pos rfl]
  exact ⟨BitVec.extractLsb'_append_eq_left, BitVec.extractLsb'_append_eq_right⟩

/-- The bytes of an aligned word, the high one at the even address. -/
theorem State.readWord_even (s : State) {a : Nat} (even : a % 2 = 0) :
    s.readWord a = s.readByte a ++ s.readByte (a + 1) := by
  have aligned : a / 2 * 2 = a := Nat.div_mul_cancel (Nat.dvd_of_mod_eq_zero even)
  rw [State.readWord, aligned]

/-- The two bytes of a word that goes into a buffer. -/
theorem getD_setBufferWord {l : List Byte} {i : Nat} (room : 2 * i + 1 < l.length) (high low : Byte) :
    (setBufferWord l i (high ++ low)).getD (2 * i) 0 = high ∧
      (setBufferWord l i (high ++ low)).getD (2 * i + 1) 0 = low := by
  have first : 2 * i < l.length := Nat.lt_of_succ_lt room
  rw [setBufferWord, BitVec.extractLsb'_append_eq_left, BitVec.extractLsb'_append_eq_right]
  simp [room, first]

/-! ## The memory side of a word, by the kind of the burst (R114) -/

section

variable {s : State} {u : Burst}

theorem State.moveWord_delivery {i : BufIx} (kind : u.kind = .delivery) (buffer : u.buffer = some i) :
    s.moveWord u = s.writeWord (u.base + 2 * u.words) (bufferWord (s.buffer i) u.words) := by
  rw [State.moveWord, kind, buffer]

theorem State.moveWord_blankFill (kind : u.kind = .blankFill) :
    s.moveWord u = s.writeWord (u.base + 2 * u.words) (u.fill ++ u.fill) := by
  rw [State.moveWord, kind]

theorem State.moveWord_copyOut {i : BufIx} (kind : u.kind = .copyOut) (buffer : u.buffer = some i) :
    s.moveWord u =
      s.setBuffer i (setBufferWord (s.buffer i) u.words (s.readWord (u.base + 2 * u.words))) := by
  rw [State.moveWord, kind, buffer]

/-- A word of a burst leaves every byte of memory but its own two. -/
theorem State.readByte_moveWord_other (canonical : s.memory.wf = true) {a : Nat}
    (even : (u.base + 2 * u.words) % 2 = 0) (top : u.base + 2 * u.words + 1 < memorySize)
    (inside : a < memorySize) (high : a ≠ u.base + 2 * u.words) (low : a ≠ u.base + 2 * u.words + 1) :
    (s.moveWord u).readByte a = s.readByte a := by
  unfold State.moveWord
  dsimp only
  split
  · rw [State.readByte_writeWord canonical even top inside, if_neg low, if_neg high]
  · rfl
  · rw [State.readByte_writeWord canonical even top inside, if_neg low, if_neg high]
  · rfl

end

/-! ## The first word (R11, R18, R50) -/

/-- The first word gives a blank fill its byte, and leaves the rest of the burst as it is. -/
theorem State.firstWord_eq (s : State) (v : Burst) : s.firstWord v = { v with fill := (s.firstWord v).fill } := by
  unfold State.firstWord
  split <;> rfl

theorem State.fill_firstWord (s : State) {v : Burst} (kind : v.kind = .blankFill) :
    (s.firstWord v).fill = if v.words = 0 then s.path.blankByte else v.fill := by
  rw [State.firstWord]
  by_cases first : v.words = 0 <;> simp [first, kind]

/-- The beginning of a copy-out changes entries alone. -/
theorem State.beginCopy_frame (s : State) (v : Burst) : ∃ ws, s.beginCopy v = { s with windows := ws } := by
  unfold State.beginCopy
  split
  · split <;> exact ⟨_, rfl⟩
  · exact ⟨_, rfl⟩

/-- The first word of a copy-out makes the DIRTY entry of its record COPYING, and no other entry changes. -/
theorem State.entry_beginCopy {s : State} {x : SectorRef} {e : Entry} (entry : s.entry? x = some e) (v : Burst) :
    (s.beginCopy v).entry? x = some
      (if v.kind = .copyOut ∧ v.words = 0 ∧ e.state = .dirty ∧
          (v.record.bind s.record?).bind Record.owner = some x
       then { e with state := .copying } else e) := by
  unfold State.beginCopy
  split
  · next begins =>
    obtain ⟨first, kind⟩ := begins
    split
    · next y owner =>
      rw [State.burstOwner] at owner
      rw [State.entry_modEntry, owner]
      by_cases same : x = y
      · subst same
        rw [if_pos rfl, entry, Option.map_some, Entry.copyBegins]
        simp [first, kind]
      · rw [if_neg same, entry]
        simp [Ne.symm same]
    · next owner =>
      rw [State.burstOwner] at owner
      rw [owner, entry]
      simp
  · next no =>
    rw [entry, if_neg fun ⟨kind, first, _⟩ => no ⟨first, kind⟩]

/-! ## A word before the last (R19, R114) -/

/-- A word before the last: the entry of a copy-out follows its first word, the word moves, and the burst
goes on, owed no turn. -/
theorem State.burstTurn_before_last {s : State} {v : Burst} (running : s.bursts.running = some v)
    (before : v.words < 127) : s.burstTurn =
      { (s.beginCopy (s.firstWord v)).moveWord (s.firstWord v) with
        bursts := { s.bursts with
          running := some { s.firstWord v with words := v.words + 1 }
          owed := false } } := by
  have words : (s.firstWord v).words = v.words := by rw [State.firstWord_eq]
  have still : ((s.beginCopy (s.firstWord v)).moveWord (s.firstWord v)).bursts = s.bursts := by
    obtain ⟨ws, begun⟩ := s.beginCopy_frame (s.firstWord v)
    rw [State.moveWord_eq, begun]
  unfold State.burstTurn
  rw [running]
  dsimp only
  rw [words, if_pos before, still]

/-- Settles O13: what a word before the last moves, by the kind of the burst, and the entry that a copy-out
takes with its first (R11, R18, R50, R114). -/
theorem burstWordMovesOneWord : Obligations.BurstWordMovesOneWord := by
  intro v s power running before canonical aligned top
  obtain ⟨ws, begun⟩ := s.beginCopy_frame (s.firstWord v)
  have first := s.firstWord_eq v
  have kept := (s.beginCopy (s.firstWord v)).moveWord_eq (s.firstWord v)
  have fill := s.fill_firstWord (v := v)
  have entries {x : SectorRef} {e : Entry} (entry : s.entry? x = some e) :=
    State.entry_beginCopy entry (s.firstWord v)
  have even : (v.base + 2 * v.words) % 2 = 0 := by omega
  have inside : v.base + 2 * v.words + 1 < memorySize := by omega
  refine ⟨s.burstTurn, exec_burstWord power, ?_⟩
  rw [State.burstTurn_before_last running before]
  generalize s.firstWord v = u at *
  generalize s.beginCopy u = t at *
  obtain ⟨byte, rfl⟩ : ∃ b, u = { v with fill := b } := ⟨_, first⟩
  have wf : t.memory.wf = true := by rw [begun]; exact canonical
  have bytes (a : Nat) : t.readByte a = s.readByte a := by rw [begun]; rfl
  have buffers (i : BufIx) : t.buffer i = s.buffer i := by rw [begun]; rfl
  refine ⟨by rw [kept, begun], by rw [kept, begun], by rw [kept, begun], ⟨_, rfl, rfl, rfl, rfl⟩,
    fun a bound high low => ?_, fun i kind buffer => ?_, fun kind => ?_, fun i kind buffer => ?_,
    fun x e entry => ?_⟩
  · exact (State.readByte_moveWord_other (u := { v with fill := byte }) wf even inside bound high low).trans
      (bytes a)
  · rw [State.moveWord_delivery (u := { v with fill := byte }) kind buffer, ← buffers i]
    exact State.readByte_writeWord_append wf even inside _ _
  · rw [State.moveWord_blankFill (u := { v with fill := byte }) kind, ← fill kind]
    exact State.readByte_writeWord_append wf even inside _ _
  · rw [State.moveWord_copyOut (u := { v with fill := byte }) kind buffer]
    refine ⟨by rw [begun]; rfl, fun length => ?_⟩
    have room : 2 * v.words + 1 < (s.buffer i).length := by omega
    rw [← bytes, ← bytes]
    change (State.buffer (t.setBuffer i _) i).getD _ _ = _ ∧ (State.buffer (t.setBuffer i _) i).getD _ _ = _
    rw [State.buffer_setBuffer_self, buffers, State.readWord_even t even]
    exact getD_setBufferWord room _ _
  · rw [kept]
    exact entries entry

/-! ## The swap (R14, R26, R27, R31, R32) -/

/-- From `s` to `t` only bound ids, volume states and the events they raise change: what R27 does when the
current bindings of a drive change. -/
def State.Rebound (s t : State) : Prop :=
  ∃ vs ev, t = { s with volumes := vs, events := ev } ∧ ∀ d, (t.volume d).present = (s.volume d).present

theorem State.Rebound.trans {s t u : State} (h : s.Rebound t) (k : t.Rebound u) : s.Rebound u := by
  obtain ⟨vs, ev, rfl, same⟩ := h
  obtain ⟨vs', ev', rfl, same'⟩ := k
  exact ⟨vs', ev', rfl, fun d => (same' d).trans (same d)⟩

theorem State.Rebound.refl (s : State) : s.Rebound s := ⟨_, _, rfl, fun _ => rfl⟩

theorem State.rebound_modVolume (s : State) (d : DriveIx) {f : Volume → Volume}
    (same : ∀ v, (f v).present = v.present) : s.Rebound (s.modVolume d f) := by
  refine ⟨_, _, rfl, fun d' => ?_⟩
  rw [State.modVolume_eq, State.volume_setVolume]
  split
  · next at_d => rw [same, at_d]
  · rfl

theorem State.rebound_raise {s t : State} (h : s.Rebound t) (e : Event) : s.Rebound (t.raise e) :=
  h.trans ⟨_, _, rfl, fun _ => rfl⟩

theorem State.rebound_takeBoundId (s : State) (d : DriveIx) : s.Rebound (s.takeBoundId d) :=
  s.rebound_modVolume d fun v => by split <;> rfl

/-- A drive that no current binding names attaches without an entry to change (R58, R135). -/
theorem State.attach_unclaimed {s : State} {d : DriveIx} (none : s.windowsOfDrive d = []) (adopt : Bool) :
    s.Rebound (s.attach d adopt) := by
  have entries (f : Volume → Volume) : (s.modVolume d f).refsOfDrive d = [] := by
    change (s.windowsOfDrive d).flatMap _ = []
    rw [none, List.flatMap_nil]
  unfold State.attach
  dsimp only
  rw [entries]
  exact s.rebound_modVolume d fun _ => rfl

theorem State.rebound_dropBoundId (s : State) (d : DriveIx) : s.Rebound (s.dropBoundId d) := by
  unfold State.dropBoundId
  split
  · next none =>
    have unset : s.Rebound (s.modVolume d fun v => { v with boundId := Option.none }) :=
      s.rebound_modVolume d fun _ => rfl
    dsimp only
    split
    · exact State.rebound_raise (unset.trans (State.attach_unclaimed (s := s.modVolume d _) none false)) _
    · exact unset
  · exact .refl s

/-- A binding becomes current: the window and its traces change at once, and the bound volume ids follow. -/
theorem State.rebound_replaceWindow (s : State) (w : WinIx) (next : Option Binding) :
    ((s.forgetWindow w).setWindow w (Window.ofBinding next)).Rebound (s.replaceWindow w next) := by
  unfold State.replaceWindow
  dsimp only
  have taken (t : State) : t.Rebound (match next with
      | some b => t.takeBoundId b.drive
      | none => t) := by
    cases next with
    | some b => exact t.rebound_takeBoundId b.drive
    | none => exact .refl t
  split
  · exact (taken _).trans (State.rebound_dropBoundId _ _)
  · exact taken _

theorem State.swapIfQuiet_of_not_quiet {s : State} {w : WinIx} (busy : (s.window w).quiet = false) :
    State.swapIfQuiet w s = s := by
  rw [State.swapIfQuiet, busy, if_neg Bool.false_ne_true]

/-- The swap of a quiet STAGED window makes its staged binding current (R31, R32). -/
theorem State.swapIfQuiet_staged {s : State} {w : WinIx} {b : Binding} {next : Option Binding}
    {es : List Entry} (staged : s.window w = .staged b next es) (quiet : ∀ e ∈ es, e.state.isQuiet = true) :
    State.swapIfQuiet w s = s.replaceWindow w next := by
  have still : (s.window w).quiet = true := by rw [staged]; exact List.all_eq_true.mpr quiet
  rw [State.swapIfQuiet, if_pos still, State.swapWindow, staged]

/-- The window that a binding makes has one new ABSENT entry for each of its sectors (R26). -/
theorem Window.ofBinding_eq (next : Option Binding) : Window.ofBinding next = (match next with
    | some n => .bound n ((List.range n.count).map fun i => Entry.new (n.diskAddr i))
    | none => .unbound) := by
  cases next with
  | some n => rw [Window.ofBinding, Binding.newEntries, Binding.run, List.map_map]; rfl
  | none => rfl

/-- Settles O29: a quiet window's swap replaces its binding and forgets its traces, the rest following from
R27 alone; a window that is not quiet is left to what follows at once. -/
theorem swapReplacesBinding : Obligations.SwapReplacesBinding := by
  intro w s running
  have swap : exec (.swap w) s = .next (State.swapIfQuiet w s).settle := by
    rw [exec, execSwap, State.perform, if_pos running]
  refine ⟨fun busy => ?_, fun b next es staged quiet => ?_⟩
  · rw [swap, State.swapIfQuiet_of_not_quiet busy]
  · obtain ⟨vs, ev, same, present⟩ := s.rebound_replaceWindow w next
    refine ⟨s.replaceWindow w next, ?_, ?_⟩
    · rw [swap, State.swapIfQuiet_staged staged quiet]
    · rw [same] at present ⊢
      refine ⟨congrArg (s.windows.set w ·) (Window.ofBinding_eq next), fun tag => ?_, rfl, rfl, rfl, rfl, rfl,
        rfl, rfl, present⟩
      exact Vector.getElem_map ..

/-! ## The state after a cold start -/

/-- Settles O3: each field as the state after a cold start gives it. -/
theorem resetValues : Obligations.ResetValues := by
  have engines (d : DriveIx) : State.reset.engine d = Engine.reset false false false := Vector.getElem_replicate ..
  have volumes (d : DriveIx) : State.reset.volume d = Volume.reset := Vector.getElem_replicate ..
  have slots (k : SlotIx) : State.reset.slot k = Slot.reset := Vector.getElem_replicate ..
  refine ⟨fun _ => Vector.getElem_replicate .., rfl, rfl, rfl, rfl, fun _ => Vector.getElem_replicate .., rfl,
    fun _ => Vector.getElem_replicate .., rfl, rfl, fun d => ?_, rfl, rfl, rfl, rfl, rfl, fun d => ?_, rfl, rfl,
    rfl, rfl, rfl, fun k => ?_, rfl, rfl, rfl, rfl, rfl, rfl, rfl, rfl, rfl, rfl, rfl, rfl, rfl⟩
  · rw [engines]
    exact ⟨rfl, rfl, rfl, rfl, rfl, rfl, rfl, rfl, rfl, rfl, rfl, rfl⟩
  · rw [volumes]
    exact ⟨rfl, rfl, rfl, rfl, rfl, rfl, rfl, rfl⟩
  · rw [slots]
    rfl

end Sys2Proof.Machine
end

section
/-! SUPPORT. The changes of a sector entry and of the windows, as steps: what each keeps (R21 to R24, R26, R40). -/

namespace Sys2Proof.Machine

open Sys2Proof

/-! ## The changes of an entry (R40, R41) -/

/-- The rows of R40, one by one. -/
theorem Entry.wf_iff (e : Entry) : e.wf = true ↔
    e.dirtySince.isSome = e.state.isDirty ∧ e.redirtySince.isSome = decide (e.state = .redirty) ∧
    e.cause.isSome = (decide (e.state = .failed) || decide (e.state = .unwritten)) ∧
    (e.state.marked = true ∨ e.marks = 0) ∧ (e.state.isDirty = true ∨ e.urgent = false) ∧
    (e.state.isPresent = true ∨ e.damaged = false) ∧ e.late &&& ~~~e.marks = 0 ∧
    ((e.state = .writing ∨ e.state = .redirty) ∨ e.late = 0) := by
  simp only [Entry.wf, Bool.and_eq_true, Bool.or_eq_true, decide_eq_true_eq, Bool.not_eq_eq_eq_not,
    Bool.not_true, and_assoc]

/-- A change of an entry that keeps it well formed, in its place on the disk. -/
structure Entry.Sound (f : Entry → Entry) : Prop where
  wf   : ∀ e, e.wf = true → (f e).wf = true
  addr : ∀ e, (f e).addr = e.addr

/-- A sound change that neither begins nor ends a time in the dirty states. -/
structure Entry.Keeps (f : Entry → Entry) : Prop extends Entry.Sound f where
  dirty : ∀ e, (f e).state.isDirty = e.state.isDirty

theorem Entry.new_wf (a : DiskAddr) : (Entry.new a).wf = true := by
  simp [Entry.wf_iff, Entry.new, SectorState.isDirty]

/-- A change that acts in some states only is sound where it is so in these. -/
theorem Entry.Sound.of_ite {p : Entry → Prop} [DecidablePred p] {f g : Entry → Entry}
    (same : ∀ e, g e = if p e then f e else e) (wf : ∀ e, p e → e.wf = true → (f e).wf = true)
    (addr : ∀ e, (f e).addr = e.addr) : Entry.Sound g := by
  refine ⟨fun e he => ?_, fun e => ?_⟩ <;> rw [same]
  · split
    · next h => exact wf e h he
    · exact he
  · split
    · exact addr e
    · rfl

theorem Entry.Keeps.of_ite {p : Entry → Prop} [DecidablePred p] {f g : Entry → Entry}
    (same : ∀ e, g e = if p e then f e else e) (wf : ∀ e, p e → e.wf = true → (f e).wf = true)
    (addr : ∀ e, (f e).addr = e.addr)
    (dirty : ∀ e, p e → (f e).state.isDirty = e.state.isDirty) : Entry.Keeps g := by
  refine ⟨.of_ite same wf addr, fun e => ?_⟩
  rw [same]
  split
  · next h => exact dirty e h
  · rfl

theorem Entry.emptied_wf (e : Entry) : e.emptied.wf = true := Entry.new_wf e.addr

theorem Entry.cleaned_wf (damaged : Bool) (e : Entry) : (e.cleaned damaged).wf = true := by
  simp [Entry.wf_iff, Entry.cleaned, SectorState.isDirty, SectorState.isPresent]

/-- What R40 lets an entry in a state have: a dirty-since, a redirty-since, a failure cause, marks, the
damaged flag, and marks that are late (in WRITING and in REDIRTY). -/
def SectorState.fields (st : SectorState) : Bool × Bool × Bool × Bool × Bool × Bool :=
  (st.isDirty, decide (st = .redirty), decide (st = .failed) || decide (st = .unwritten), st.marked,
    st.isPresent, decide (st = .writing))

/-- An entry may take any state with the same fields. -/
theorem Entry.wf_state {e : Entry} {st : SectorState} (same : st.fields = e.state.fields) :
    { e with state := st }.wf = e.wf := by
  simp only [SectorState.fields, Prod.mk.injEq] at same
  obtain ⟨dirty, redirty, cause, marked, present, late⟩ := same
  simp only [Entry.wf, dirty, redirty, cause, marked, present, late]

/-- A change of the state alone, from one state to another with the same fields. -/
theorem Entry.Keeps.of_state {a b : SectorState} {g : Entry → Entry}
    (same : ∀ e, g e = if e.state = a then { e with state := b } else e)
    (fields : b.fields = a.fields) : Entry.Keeps g :=
  .of_ite same (fun e h he => by rwa [Entry.wf_state (by rw [h, fields])]) (fun _ => rfl)
    fun _ h => by rw [h]; exact congrArg Prod.fst fields

theorem Entry.queued_keeps : Entry.Keeps Entry.queued := .of_state (fun _ => rfl) rfl

theorem Entry.fillBegins_keeps : Entry.Keeps Entry.fillBegins := .of_state (fun _ => rfl) rfl

theorem Entry.blankBegins_keeps : Entry.Keeps Entry.blankBegins := .of_state (fun _ => rfl) rfl

theorem Entry.fillReturns_keeps : Entry.Keeps Entry.fillReturns := .of_state (fun _ => rfl) rfl

theorem Entry.copyBegins_keeps : Entry.Keeps Entry.copyBegins := .of_state (fun _ => rfl) rfl

theorem Entry.revive_keeps : Entry.Keeps Entry.revive := .of_state (fun _ => rfl) rfl

/-- An entry whose fill is under way is not in a dirty state. -/
theorem Entry.not_dirty_of_filling {e : Entry} (h : e.state = .queued ∨ e.state = .filling) :
    e.state.isDirty = false := by
  obtain h | h := h <;> rw [h] <;> rfl

theorem Entry.fillCancelled_keeps : Entry.Keeps Entry.fillCancelled :=
  .of_ite (fun _ => rfl) (fun e _ _ => e.emptied_wf) (fun _ => rfl) fun _ h =>
    (Entry.not_dirty_of_filling h).symm

theorem Entry.fillFailed_keeps (c : Cause) : Entry.Keeps (Entry.fillFailed c) :=
  .of_ite (fun _ => rfl) (fun e h he => by
    obtain h | h := h <;> simp_all [Entry.wf_iff, SectorState.isDirty, SectorState.marked, SectorState.isPresent])
    (fun _ => rfl) fun _ h => (Entry.not_dirty_of_filling h).symm

theorem Entry.delivered_keeps (damaged : Bool) : Entry.Keeps (Entry.delivered damaged) :=
  .of_ite (fun _ => rfl) (fun e _ _ => e.cleaned_wf damaged) (fun _ => rfl)
    fun _ h => by rw [h]; rfl

theorem Entry.rewritten_keeps (now : Coarse) : Entry.Keeps (Entry.rewritten now) :=
  .of_ite (fun _ => rfl) (fun e h he => by
    simp_all [Entry.wf_iff, SectorState.isDirty, SectorState.marked, SectorState.isPresent]) (fun _ => rfl)
    fun _ h => by rw [h]; rfl

theorem Entry.copyEnds_keeps : Entry.Keeps Entry.copyEnds :=
  .of_ite (fun _ => rfl) (fun e h he => by
    simp_all [Entry.wf_iff, SectorState.isDirty, SectorState.marked, SectorState.isPresent]) (fun _ => rfl)
    fun _ h => by rw [h]; rfl

theorem SectorState.inWriteback_iff (st : SectorState) :
    st.inWriteback = true ↔ st = .dirty ∨ st = .copying ∨ st = .writing ∨ st = .redirty := by
  cases st <;> simp [SectorState.inWriteback]

theorem SectorState.isDirty_of_inWriteback {st : SectorState} (h : st.inWriteback = true) :
    st.isDirty = true := by
  obtain rfl | rfl | rfl | rfl := st.inWriteback_iff.mp h <;> rfl

theorem SectorState.isDirty_of_marked {st : SectorState} (h : st.marked = true) : st.isDirty = true := by
  cases st <;> simp_all [SectorState.marked, SectorState.isDirty]

/-- An entry whose write-back may be under way has a dirty-since and no failure cause (R40). -/
theorem Entry.wf_inWriteback {e : Entry} (h : e.state.inWriteback = true) (he : e.wf = true) :
    e.dirtySince.isSome = true ∧ e.cause = none := by
  obtain ⟨dirty, -, cause, -⟩ := e.wf_iff.mp he
  obtain h | h | h | h := e.state.inWriteback_iff.mp h <;> simp_all [SectorState.isDirty]

theorem Entry.writeReturns_keeps : Entry.Keeps Entry.writeReturns :=
  .of_ite (fun _ => rfl) (fun e h he => by
    obtain ⟨since, cause⟩ := Entry.wf_inWriteback h he
    simp [Entry.wf_iff, since, cause, SectorState.isDirty, SectorState.marked, SectorState.isPresent])
    (fun _ => rfl) fun _ h => (SectorState.isDirty_of_inWriteback h).symm

theorem Entry.writeFailed_keeps (c : Cause) : Entry.Keeps (Entry.writeFailed c) :=
  .of_ite (fun _ => rfl) (fun e h he => by
    obtain ⟨since, -⟩ := Entry.wf_inWriteback h he
    simp [Entry.wf_iff, since, SectorState.isDirty, SectorState.marked, SectorState.isPresent])
    (fun _ => rfl) fun _ h => (SectorState.isDirty_of_inWriteback h).symm

theorem Entry.strand_keeps : Entry.Keeps Entry.strand :=
  .of_ite (fun _ => rfl) (fun e h he => by
    obtain ⟨since, cause⟩ := Entry.wf_inWriteback h he
    simp [Entry.wf_iff, since, cause, SectorState.isDirty, SectorState.marked, SectorState.isPresent])
    (fun _ => rfl) fun _ h => (SectorState.isDirty_of_inWriteback h).symm

theorem Entry.adopted_keeps : Entry.Keeps Entry.adopted :=
  .of_ite (fun _ => rfl) (fun e _ _ => e.emptied_wf) (fun _ => rfl)
    fun _ h => by rw [h]; rfl

theorem Entry.retryFill_keeps : Entry.Keeps Entry.retryFill :=
  .of_ite (fun _ => rfl) (fun e _ _ => e.emptied_wf) (fun _ => rfl)
    fun _ h => by rw [h]; rfl

theorem Entry.retryWrite_keeps (attached : Bool) : Entry.Keeps (Entry.retryWrite attached) :=
  .of_ite (fun _ => rfl) (fun e h he => by
    cases attached <;>
      simp_all [Entry.wf_iff, SectorState.isDirty, SectorState.marked, SectorState.isPresent])
    (fun _ => rfl) fun _ h => by rw [h]; cases attached <;> rfl

theorem Entry.promoted_keeps : Entry.Keeps Entry.promoted :=
  .of_ite (fun _ => rfl) (fun e h he => by simp_all [Entry.wf_iff]) (fun _ => rfl) fun _ _ => rfl

/-- A set of late marks stays inside the marks when both take one more. -/
theorem late_mark {late marks : BitVec 4} (h : late &&& ~~~marks = 0) (b : BitVec 4) :
    (late ||| b) &&& ~~~(marks ||| b) = 0 ∧ late &&& ~~~(marks ||| b) = 0 ∧
      (late &&& ~~~b) &&& ~~~(marks &&& ~~~b) = 0 := by
  have bit (i : Nat) (hi : i < 4) : late[i] = true → marks[i] = true := by
    simpa [hi] using congrArg (·[i]) h
  refine ⟨?_, ?_, ?_⟩ <;> ext i hi <;> simp <;> grind

theorem Entry.mark_keeps (k : SlotIx) : Entry.Keeps (Entry.mark k) :=
  .of_ite (fun _ => rfl) (fun e h he => by
    have dirty := SectorState.isDirty_of_marked h
    simp only [Entry.wf_iff] at he ⊢
    obtain ⟨since, redirty, cause, -, -, damaged, inside, late⟩ := he
    obtain ⟨both, marks, -⟩ := late_mark inside (slotBit k)
    split <;> simp_all) (fun _ => rfl) fun _ _ => rfl

theorem Entry.unmark_keeps (k : SlotIx) : Entry.Keeps (Entry.unmark k) := by
  refine ⟨⟨fun e he => ?_, fun _ => rfl⟩, fun _ => rfl⟩
  simp only [Entry.wf_iff, Entry.unmark] at he ⊢
  obtain ⟨since, redirty, cause, marks, urgent, damaged, inside, late⟩ := he
  obtain ⟨-, -, fewer⟩ := late_mark inside (slotBit k)
  exact ⟨since, redirty, cause, marks.imp id fun none => by simp [none], urgent, damaged, fewer,
    late.imp id fun none => by simp [none]⟩

theorem Entry.firstWrite_sound (attached : Bool) (now : Coarse) : Entry.Sound (Entry.firstWrite attached now) :=
  .of_ite (fun _ => rfl) (fun e h he => by
    cases attached <;>
      simp_all [Entry.wf_iff, SectorState.isDirty, SectorState.marked, SectorState.isPresent])
    fun _ => rfl

theorem Entry.blankEnds_sound (attached : Bool) (now : Coarse) : Entry.Sound (Entry.blankEnds attached now) :=
  .of_ite (fun _ => rfl) (fun e h he => by
    cases attached <;>
      simp_all [Entry.wf_iff, SectorState.isDirty, SectorState.marked, SectorState.isPresent])
    fun _ => rfl

theorem Entry.written_sound : Entry.Sound Entry.written := by
  refine ⟨fun e he => ?_, fun e => ?_⟩
  · unfold Entry.written
    split
    · exact e.cleaned_wf false
    · simp_all [Entry.wf_iff, SectorState.isDirty, SectorState.marked, SectorState.isPresent]
    all_goals exact he
  · unfold Entry.written
    split <;> rfl

end Sys2Proof.Machine
end

section
/-! SUPPORT. The steps by which the windows change, and what each keeps: O54's well-formedness and R24. -/

namespace Sys2Proof.Machine

open Sys2Proof

/-! ## Steps of the windows -/

/-- One step of what the part does with its windows by itself, with no change written, discarded or brought
to disk: a change of an entry that keeps its dirtiness, the removal of a late slot's marks, the swap of a
quiet window (R31, R32, R41, R153). -/
inductive WindowsStep : Vector Window 16 → Vector Window 16 → Prop
  | entry {ws : Vector Window 16} (w : WinIx) (i : Nat) {f : Entry → Entry} (keeps : Entry.Keeps f) :
      WindowsStep ws (ws.set w (ws[w].modEntry i f))
  | unmark (ws : Vector Window 16) (k : SlotIx) :
      WindowsStep ws (ws.map (Window.mapEntries (Entry.unmark k)))
  | swap {ws : Vector Window 16} {w : WinIx} {b : Binding} {next : Option Binding} {es : List Entry}
      (staged : ws[w] = .staged b next es) (quiet : ∀ e ∈ es, e.state.isQuiet = true) :
      WindowsStep ws (ws.set w (Window.ofBinding next))

/-- Two bindings share no memory address and no disk sector (R24). -/
def Binding.Apart (b c : Binding) : Prop := b.overlaps c = false ∧ b.sharesSector c = false

/-- A binding may be offered for window `w`: it lies in its ranges and apart from the bindings of every
other window (R22, R24). -/
def Offered (ws : Vector Window 16) (w : WinIx) (b : Binding) : Prop :=
  b.wf = true ∧ ∀ v, v ≠ w → ∀ c ∈ ws[v].bindings, b.Apart c

/-- One step of what any command does with the windows: a step of the part itself, a change of an entry
that begins or ends a time in the dirty states, BIND, STAGE or RELEASE, a window given up, a reset. -/
inductive WindowsTurn : Vector Window 16 → Vector Window 16 → Prop
  | inner {ws vs : Vector Window 16} (step : WindowsStep ws vs) : WindowsTurn ws vs
  | entry {ws : Vector Window 16} (w : WinIx) (i : Nat) {f : Entry → Entry} (sound : Entry.Sound f) :
      WindowsTurn ws (ws.set w (ws[w].modEntry i f))
  | bind {ws : Vector Window 16} {w : WinIx} {b : Binding} (offered : Offered ws w b) :
      WindowsTurn ws (ws.set w (Window.ofBinding (some b)))
  | stage {ws : Vector Window 16} {w : WinIx} {b : Binding} (next : Option Binding)
      (current : ws[w].current? = some b) (offered : ∀ n, next = some n → Offered ws w n) :
      WindowsTurn ws (ws.set w (.staged b next ws[w].entries))
  | giveUp {ws : Vector Window 16} {w : WinIx} (next : Option Binding)
      (own : ∀ n, next = some n → ∃ b es, ws[w] = .staged b next es) :
      WindowsTurn ws (ws.set w (Window.ofBinding next))
  | reset (ws : Vector Window 16) : WindowsTurn ws (Vector.replicate 16 .unbound)

/-! ## Well-formed windows that stand apart -/

theorem Binding.Apart.symm {b c : Binding} (h : b.Apart c) : c.Apart b := by
  obtain ⟨memory, disk⟩ := h
  refine ⟨by rw [← memory, Binding.overlaps, Binding.overlaps, Bool.and_comm], ?_⟩
  simp only [Binding.sharesSector, List.any_eq_false, decide_eq_true_eq] at disk ⊢
  exact fun x hc hb => disk x hb hc

/-- Every window is well formed, and bindings of different windows stand apart (R21 to R24, R26, R40). -/
def WindowsGood (ws : Vector Window 16) : Prop :=
  (∀ w : WinIx, ws[w].wf = true) ∧
    ∀ v w : WinIx, v ≠ w → ∀ b ∈ ws[v].bindings, ∀ c ∈ ws[w].bindings, b.Apart c

theorem State.windowsGood_iff (s : State) :
    (s.windowsWf = true ∧ s.windowsApart = true) ↔ WindowsGood s.windows := by
  simp only [State.windowsWf, State.windowsApart, WindowsGood, State.window, Binding.Apart,
    List.all_eq_true, mem_allWindows, true_implies, Bool.or_eq_true, decide_eq_true_eq, Bool.and_eq_true,
    Bool.not_eq_eq_eq_not, Bool.not_true, ne_eq, ← or_iff_not_imp_left]

/-- The entries of a binding: one for each sector of its run, at that sector's disk address, well formed. -/
theorem entriesWf_iff (b : Binding) (es : List Entry) : entriesWf b es = true ↔
    b.wf = true ∧ es.map Entry.addr = b.run ∧ ∀ e ∈ es, e.wf = true := by
  simp only [entriesWf, Bool.and_eq_true, decide_eq_true_eq, List.all_eq_true, and_assoc]

/-- A well-formed window: its bindings in range, its entries those of its current binding. -/
theorem Window.wf_iff (x : Window) : x.wf = true ↔
    (∀ b, x.current? = some b → entriesWf b x.entries = true) ∧ ∀ b ∈ x.bindings, b.wf = true := by
  rcases x with _ | ⟨b, es⟩ | ⟨b, _ | n, es⟩ <;>
    simp +contextual [Window.wf, Window.current?, Window.entries, Window.bindings, entriesWf_iff]

theorem Window.current_mem_bindings {x : Window} {b : Binding} (h : x.current? = some b) :
    b ∈ x.bindings := by
  rcases x with _ | ⟨c, es⟩ | ⟨c, _ | n, es⟩ <;> simp_all [Window.current?, Window.bindings]

theorem newEntries_wf {b : Binding} (h : b.wf = true) : entriesWf b b.newEntries = true := by
  refine (entriesWf_iff b _).mpr ⟨h, ?_, fun e he => ?_⟩
  · rw [Binding.newEntries, List.map_map]
    exact List.map_id _
  · obtain ⟨a, -, rfl⟩ := List.mem_map.mp he
    exact Entry.new_wf a

theorem Window.ofBinding_wf {next : Option Binding} (h : ∀ n, next = some n → n.wf = true) :
    (Window.ofBinding next).wf = true := by
  cases next with
  | none => rfl
  | some n => exact newEntries_wf (h n rfl)

theorem Window.bindings_ofBinding (next : Option Binding) :
    (Window.ofBinding next).bindings = next.toList := by
  cases next <;> rfl

/-- A sound change of an entry keeps its window well formed. -/
theorem Window.modEntry_wf {x : Window} (h : x.wf = true) (i : Nat) {f : Entry → Entry}
    (sound : Entry.Sound f) : (x.modEntry i f).wf = true := by
  simp only [Window.wf_iff, Window.current_modEntry, Window.entries_modEntry, Window.bindings_modEntry,
    entriesWf_iff] at h ⊢
  obtain ⟨current, ranges⟩ := h
  refine ⟨fun b hb => ?_, ranges⟩
  obtain ⟨range, addrs, wf⟩ := current b hb
  refine ⟨range, ?_, fun e he => ?_⟩
  · rw [← addrs]
    refine List.ext_getElem? fun j => ?_
    simp only [List.getElem?_map, List.getElem?_modify]
    split <;> simp [Function.comp_def, sound.addr]
  · obtain ⟨j, hj⟩ := List.mem_iff_getElem?.mp he
    rw [List.getElem?_modify] at hj
    obtain ⟨e', he', rfl⟩ := Option.map_eq_some_iff.mp hj
    have good := wf e' (List.mem_of_getElem? he')
    split
    · exact sound.wf e' good
    · exact good

theorem Window.bindings_mapEntries (f : Entry → Entry) (x : Window) :
    (x.mapEntries f).bindings = x.bindings := by
  rcases x with _ | ⟨b, es⟩ | ⟨b, _ | n, es⟩ <;> rfl

theorem Window.mapEntries_wf {x : Window} (h : x.wf = true) {f : Entry → Entry} (sound : Entry.Sound f) :
    (x.mapEntries f).wf = true := by
  have entries {b : Binding} {es : List Entry} (h : entriesWf b es = true) :
      entriesWf b (es.map f) = true := by
    obtain ⟨range, addrs, wf⟩ := (entriesWf_iff b es).mp h
    refine (entriesWf_iff b _).mpr ⟨range, ?_, fun e he => ?_⟩
    · rw [List.map_map, ← addrs]
      exact List.map_congr_left fun e _ => sound.addr e
    · obtain ⟨e', he', rfl⟩ := List.mem_map.mp he
      exact sound.wf e' (wf e' he')
  rcases x with _ | ⟨b, es⟩ | ⟨b, _ | n, es⟩
  · exact h
  · exact entries h
  · exact entries h
  · simp only [Window.wf, Window.mapEntries, Bool.and_eq_true] at h ⊢
    exact h.imp entries id

namespace WindowsGood

variable {ws : Vector Window 16}

theorem wf (h : WindowsGood ws) (w : WinIx) : ws[w].wf = true := by
  obtain ⟨all, -⟩ := h
  exact all w

theorem apart (h : WindowsGood ws) {v w : WinIx} (hv : v ≠ w) {b c : Binding} (hb : b ∈ ws[v].bindings)
    (hc : c ∈ ws[w].bindings) : b.Apart c := by
  obtain ⟨-, others⟩ := h
  exact others v w hv b hb c hc

/-- One window is replaced by a well-formed one whose bindings stand apart from those of the others. -/
theorem set (h : WindowsGood ws) {w : WinIx} {x : Window} (wf : x.wf = true)
    (apart : ∀ v, v ≠ w → ∀ b ∈ x.bindings, ∀ c ∈ ws[v].bindings, b.Apart c) :
    WindowsGood (ws.set w x) := by
  obtain ⟨all, others⟩ := h
  have get (v : WinIx) : (ws.set w x)[v] = if v = w then x else ws[v] := by
    simp only [Fin.getElem_fin, Vector.getElem_set, Fin.ext_iff, eq_comm]
  refine ⟨fun v => ?_, fun v u hvu b hb c hc => ?_⟩
  · rw [get]
    split
    · exact wf
    · exact all v
  · rw [get] at hb hc
    split at hb
    · next hv =>
      subst hv
      rw [if_neg hvu.symm] at hc
      exact apart u hvu.symm b hb c hc
    · next hv =>
      split at hc
      · exact (apart v hv c hc b hb).symm
      · exact others v u hvu b hb c hc

/-- A window whose bindings are among those it had. -/
theorem set_own (h : WindowsGood ws) {w : WinIx} {x : Window} (wf : x.wf = true)
    (own : ∀ b ∈ x.bindings, b ∈ ws[w].bindings) : WindowsGood (ws.set w x) :=
  h.set wf fun _ hv b hb _ => h.apart hv.symm (own b hb)

theorem entry (h : WindowsGood ws) (w : WinIx) (i : Nat) {f : Entry → Entry} (sound : Entry.Sound f) :
    WindowsGood (ws.set w (ws[w].modEntry i f)) :=
  h.set_own (Window.modEntry_wf (h.wf w) i sound) fun b hb => by rwa [Window.bindings_modEntry] at hb

/-- The staged binding becomes current, or the window is left UNBOUND. -/
theorem ofBinding (h : WindowsGood ws) {w : WinIx} {next : Option Binding}
    (own : ∀ n, next = some n → ∃ b es, ws[w] = .staged b next es) :
    WindowsGood (ws.set w (Window.ofBinding next)) := by
  have mine (n : Binding) (hn : next = some n) : n ∈ ws[w].bindings := by
    obtain ⟨b, es, staged⟩ := own n hn
    rw [staged, hn]
    exact List.mem_cons_of_mem _ (List.mem_singleton_self n)
  refine h.set_own (Window.ofBinding_wf fun n hn => ?_) fun n hn => ?_
  · obtain ⟨-, ranges⟩ := (Window.wf_iff _).mp (h.wf w)
    exact ranges n (mine n hn)
  · rw [Window.bindings_ofBinding] at hn
    exact mine n (Option.mem_toList.mp hn)

theorem step (h : WindowsGood ws) {vs : Vector Window 16} (step : WindowsStep ws vs) : WindowsGood vs := by
  cases step with
  | entry w i keeps => exact h.entry w i keeps.toSound
  | unmark k =>
    have get (v : WinIx) : (ws.map (Window.mapEntries (Entry.unmark k)))[v]
        = ws[v].mapEntries (Entry.unmark k) := Vector.getElem_map ..
    refine ⟨fun v => ?_, fun v w hvw b hb c hc => ?_⟩
    · rw [get]
      exact Window.mapEntries_wf (h.wf v) (Entry.unmark_keeps k).toSound
    · rw [get, Window.bindings_mapEntries] at hb hc
      exact h.apart hvw hb hc
  | swap staged _ => exact h.ofBinding fun _ _ => ⟨_, _, staged⟩

theorem turn (h : WindowsGood ws) {vs : Vector Window 16} (turn : WindowsTurn ws vs) : WindowsGood vs := by
  cases turn with
  | inner step => exact h.step step
  | entry w i sound => exact h.entry w i sound
  | bind offered =>
    obtain ⟨range, apart⟩ := offered
    refine h.set (newEntries_wf range) fun v hv b hb => ?_
    cases List.mem_singleton.mp hb
    exact apart v hv
  | @stage w b next current offered =>
    obtain ⟨entries, -⟩ := (Window.wf_iff _).mp (h.wf w)
    have mine := Window.current_mem_bindings current
    cases next with
    | none =>
      refine h.set_own (entries b current) fun c hc => ?_
      cases List.mem_singleton.mp hc
      exact mine
    | some n =>
      obtain ⟨range, apart⟩ := offered n rfl
      refine h.set (Bool.and_eq_true_iff.mpr ⟨entries b current, range⟩) fun v hv c hc => ?_
      obtain rfl | hc := List.mem_cons.mp hc
      · exact fun _ => h.apart hv.symm mine
      · cases List.mem_singleton.mp hc
        exact apart v hv
  | giveUp next own => exact h.ofBinding own
  | reset =>
    refine ⟨fun w => ?_, fun v w _ b hb => ?_⟩
    · simp [Window.wf]
    · simp [Window.bindings] at hb

end WindowsGood

end Sys2Proof.Machine
end

section
/-! SUPPORT. What the part does by itself drifts: its windows change by steps, the lines and the link stand. -/

namespace Sys2Proof.Machine

open Sys2Proof

/-! ## The relation -/

/-- From `o` to `s` the part has worked by itself, `n` advances of the coarse clock among it: the link, the
RESET and supply-low lines, the ready lines and the Outage Store, its dip timer apart, stand, and the windows
have changed by steps of `WindowsStep`. -/
def State.Drifts (n : Nat) (o s : State) : Prop :=
  s.clock.coarse = o.clock.coarse + BitVec.ofNat 16 n ∧ s.link = o.link ∧ s.resetLine = o.resetLine ∧
    s.supplyLow = o.supplyLow ∧ { s.store with dipTimer := none } = { o.store with dipTimer := none } ∧
    (∀ d, (s.engine d).ready = (o.engine d).ready) ∧
    Relation.ReflTransGen WindowsStep o.windows s.windows

theorem Engine.beginSeek_ready (e : Engine) (c side : Nat) : (e.beginSeek c side).ready = e.ready := by
  unfold Engine.beginSeek
  split <;> rfl

namespace State.Drifts

variable {n : Nat} {o s : State}

theorem refl (s : State) : s.Drifts 0 s :=
  ⟨(BitVec.add_zero _).symm, rfl, rfl, rfl, rfl, fun _ => rfl, .refl⟩

theorem ready (h : o.Drifts n s) (d : DriveIx) : (s.engine d).ready = (o.engine d).ready := by
  obtain ⟨-, -, -, -, -, ready, -⟩ := h
  exact ready d

theorem windows (h : o.Drifts n s) : Relation.ReflTransGen WindowsStep o.windows s.windows := by
  obtain ⟨-, -, -, -, -, -, windows⟩ := h
  exact windows

/-! ## Branches and folds -/

theorem ite {p : Prop} [Decidable p] {t : State} (hs : o.Drifts n s) (ht : o.Drifts n t) :
    o.Drifts n (if p then s else t) := by
  split
  · exact hs
  · exact ht

theorem foldl {α : Type} (h : o.Drifts n s) (f : State → α → State)
    (hf : ∀ (t : State) (a : α), o.Drifts n t → o.Drifts n (f t a)) (l : List α) :
    o.Drifts n (l.foldl f s) :=
  foldl_invariant (o.Drifts n) f hf l s h

/-! ## One update -/

theorem raise (h : o.Drifts n s) (e : Event) : o.Drifts n (s.raise e) := h

theorem bursts (h : o.Drifts n s) (u : BurstUnit) : o.Drifts n { s with bursts := u } := h

theorem bufWait (h : o.Drifts n s) (l : List DriveIx) : o.Drifts n { s with bufWait := l } := h

theorem chan (h : o.Drifts n s) (c : Channel) : o.Drifts n { s with chan := c } := h

theorem pool (h : o.Drifts n s) (p : Pool) : o.Drifts n { s with pool := p } := h

theorem due (h : o.Drifts n s) (d : Due) : o.Drifts n { s with clock := { s.clock with due := d } } := h

theorem diskOut (h : o.Drifts n s) (x : Option DiskOut) : o.Drifts n { s with diskOut := x } := h

theorem modVolume (h : o.Drifts n s) (d : DriveIx) (f : Volume → Volume) : o.Drifts n (s.modVolume d f) := h

theorem setSlot (h : o.Drifts n s) (k : SlotIx) (x : Slot) : o.Drifts n (s.setSlot k x) := h

theorem modRecord (h : o.Drifts n s) (r : RecIx) (f : Record → Record) : o.Drifts n (s.modRecord r f) := h

theorem makeRecord (h : o.Drifts n s) (r : RecIx) (q : Record) : o.Drifts n (s.makeRecord r q) := h

theorem dropRecord (h : o.Drifts n s) (r : RecIx) : o.Drifts n (s.dropRecord r) := h

theorem setBuffer (h : o.Drifts n s) (b : BufIx) (x : List Byte) : o.Drifts n (s.setBuffer b x) := h

theorem joinQueue (h : o.Drifts n s) (u : Burst) : o.Drifts n (s.joinQueue u) := h

/-- The engine of a drive changes; its ready line is the drive's. -/
theorem modEngine (h : o.Drifts n s) (d : DriveIx) {f : Engine → Engine}
    (same : ∀ e, (f e).ready = e.ready := by exact fun _ => rfl) : o.Drifts n (s.modEngine d f) := by
  obtain ⟨coarse, link, reset, low, store, ready, windows⟩ := h
  refine ⟨coarse, link, reset, low, store, fun d' => ?_, windows⟩
  rw [State.modEngine_eq, State.engine_setEngine]
  split
  · next at_d => rw [same, ← at_d, ready]
  · exact ready d'

/-- The windows take one step. -/
theorem step (h : o.Drifts n s) {ws : Vector Window 16} (step : WindowsStep s.windows ws) :
    o.Drifts n { s with windows := ws } := by
  obtain ⟨coarse, link, reset, low, store, ready, windows⟩ := h
  exact ⟨coarse, link, reset, low, store, ready, windows.tail step⟩

theorem modEntry (h : o.Drifts n s) (x : SectorRef) {f : Entry → Entry} (keeps : Entry.Keeps f) :
    o.Drifts n (s.modEntry x f) := h.step (.entry x.win x.idx keeps)

/-! ## Slots and the pool -/

theorem endSlot (h : o.Drifts n s) (k : SlotIx) : o.Drifts n (s.endSlot k) := by
  unfold State.endSlot
  exact ((h.setSlot k _).raise _).ite h

theorem markGone (h : o.Drifts n s) (failure : Bool) (k : SlotIx) : o.Drifts n (s.markGone failure k) :=
  ((h.setSlot k _).endSlot k).ite h

theorem marksGone (h : o.Drifts n s) (failure : Bool) (marks : BitVec 4) :
    o.Drifts n (s.marksGone failure marks) :=
  h.foldl _ (fun _ k ht => (ht.markGone failure k).ite ht) _

theorem requestWrite (h : o.Drifts n s) (x : SectorRef) (u : Urgency) : o.Drifts n (s.requestWrite x u) := by
  obtain e | ⟨r, -, -, e⟩ | ⟨y, -, -, -, -, e⟩ | ⟨y, r, -, -, -, -, -, -, e⟩ :=
    s.requestWrite_cases x u <;> rw [e] <;> exact h

theorem provide (h : o.Drifts n s) (x : SectorRef) (retry : Bool) : o.Drifts n (s.provide x retry) := by
  obtain e | e | e := s.provide_cases x retry <;> rw [e]
  · exact h
  · exact h.requestWrite x .urgent
  · exact h.requestWrite x .normal

theorem makeOrEvict (h : o.Drifts n s) {q : Record} {t : State} (e : s.makeOrEvict q = some t) :
    o.Drifts n t := by
  obtain ⟨r, -, rfl⟩ | ⟨-, r, -, rfl⟩ := State.makeOrEvict_cases e
  · exact h
  · have evicted : o.Drifts n (s.evict r) := by
      unfold State.evict
      split
      · exact (h.modEntry _ Entry.fillCancelled_keeps).dropRecord r
      · exact h
    exact evicted.makeRecord r q

theorem requestFill (h : o.Drifts n s) (x : SectorRef) (e : Entry) : o.Drifts n (s.requestFill x e) := by
  unfold State.requestFill
  split
  · exact h
  · split
    · next t made => exact (h.makeOrEvict made).modEntry x Entry.queued_keeps
    · exact h

theorem raiseFill (h : o.Drifts n s) (x : SectorRef) : o.Drifts n (s.raiseFill x) := by
  unfold State.raiseFill
  split <;> exact h

theorem requestStamp (h : o.Drifts n s) (d : DriveIx) : o.Drifts n (s.requestStamp d) := by
  unfold State.requestStamp
  split
  · next t made => exact h.makeOrEvict made
  · exact h.ite (h.pool _)

theorem handOut (h : o.Drifts n s) (r : RecIx) : o.Drifts n (s.handOut r) := by
  obtain ⟨-, -, e⟩ | ⟨d, rest, -, e⟩ | ⟨x, y, -, -, -, e⟩ := s.handOut_cases r <;> rw [e]
  all_goals exact h

theorem readAhead (h : o.Drifts n s) (w : WinIx) (k j : Nat) : o.Drifts n (s.readAhead w k j) := by
  induction k generalizing s j with
  | zero => exact h
  | succ k ih =>
    unfold State.readAhead
    split
    · refine h.ite ?_
      split
      · exact h
      · refine (ih h (j + 1)).ite (h.ite ?_)
        split
        · exact h
        · next r _ => exact ih ((h.makeRecord r _).modEntry _ Entry.queued_keeps) (j + 1)
    · exact h

/-! ## Bursts -/

theorem startNext (h : o.Drifts n s) : o.Drifts n s.startNext := by
  obtain e | ⟨u, rest, -, -, e⟩ := s.startNext_cases <;> rw [e] <;> exact h

theorem requestBurst (h : o.Drifts n s) (q : BurstRequest) : o.Drifts n (s.requestBurst q) := by
  obtain e | e | ⟨u, -, e⟩ := s.requestBurst_cases q <;> rw [e]
  · exact h
  · exact h
  · exact (h.joinQueue u).startNext

theorem placeFreed (h : o.Drifts n s) (d : DriveIx) : o.Drifts n (s.placeFreed d) := by
  unfold State.placeFreed
  split
  · exact h
  · dsimp only
    split <;> exact h

theorem endRunning (h : o.Drifts n s) : o.Drifts n s.endRunning := by
  unfold State.endRunning
  split
  · exact h
  · exact ((h.bursts _).placeFreed _).startNext

theorem withdraw (h : o.Drifts n s) (p : Burst → Bool) : o.Drifts n (s.withdraw p) :=
  ((h.bursts _).foldl _ (fun _ u ht => ht.placeFreed u.drive) _).startNext

theorem withdrawRecord (h : o.Drifts n s) (r : RecIx) : o.Drifts n (s.withdrawRecord r) :=
  (h.bursts _).withdraw _

theorem stopCopyOut (h : o.Drifts n s) (r : RecIx) : o.Drifts n (s.stopCopyOut r) := by
  unfold State.stopCopyOut
  split
  · exact h.endRunning.ite h
  · exact h

/-! ## Positioning, buffers and the channel -/

theorem startPositioning (h : o.Drifts n s) (d : DriveIx) (r : RecIx) :
    o.Drifts n (s.startPositioning d r) := by
  unfold State.startPositioning
  split
  · exact h.modEngine d fun e => e.beginSeek_ready _ _
  · exact h

theorem giveBuffer (h : o.Drifts n s) (d : DriveIx) (r : RecIx) (b : BufIx) :
    o.Drifts n (s.giveBuffer d r b) := by
  unfold State.giveBuffer
  split
  · exact h
  · have t := h.modRecord r fun q => { q with buffer := some b, copied := false }
    dsimp only
    split
    · exact (t.modEntry _ Entry.fillBegins_keeps).startPositioning d r
    · exact (t.modEntry _ Entry.fillBegins_keeps).startPositioning d r
    · exact (t.requestBurst _).startPositioning d r
    · exact t.startPositioning d r

theorem handBuffer (h : o.Drifts n s) (b : BufIx) : o.Drifts n (s.handBuffer b) := by
  obtain e | ⟨d, rest, -, -, e | ⟨r, -, -, e⟩⟩ := s.handBuffer_cases b <;> rw [e]
  · exact h
  · exact h
  · exact (h.bufWait rest).giveBuffer d r b

theorem handBuffers (h : o.Drifts n s) : o.Drifts n s.handBuffers :=
  h.foldl _ (fun _ b ht => ht.handBuffer b) _

theorem releaseRecord (h : o.Drifts n s) (r : RecIx) : o.Drifts n (s.releaseRecord r) :=
  (h.dropRecord r).handOut r

theorem freeRecord (h : o.Drifts n s) (r : RecIx) : o.Drifts n (s.freeRecord r) :=
  (h.releaseRecord r).handBuffers

theorem grant (h : o.Drifts n s) (d : DriveIx) : o.Drifts n (s.grant d) := by
  unfold State.grant
  dsimp only
  split
  · exact ((h.chan _).modRecord _ _).modEngine d
  · exact h

theorem requestChannel (h : o.Drifts n s) (d : DriveIx) : o.Drifts n (s.requestChannel d) := by
  have t : o.Drifts n (s.modEngine d fun e => { e with state := .waitChannel, motion := .still }) :=
    h.modEngine d
  exact (t.grant d).ite (t.chan _)

theorem leaveChannel (h : o.Drifts n s) (d : DriveIx) : o.Drifts n (s.leaveChannel d) := by
  obtain ⟨-, -, e⟩ | ⟨x, rest, -, -, e⟩ | ⟨-, e⟩ := s.leaveChannel_cases d <;> rw [e]
  · exact h
  · exact (h.chan _).grant x
  · exact h

/-! ## Volumes -/

theorem reviveEntry (h : o.Drifts n s) (adopt : Bool) (x : SectorRef) :
    o.Drifts n (State.reviveEntry adopt s x) := by
  unfold State.reviveEntry
  split
  · exact h
  · split
    · exact (h.modEntry x Entry.revive_keeps).provide x false
    · exact (h.modEntry x Entry.adopted_keeps).ite h
    · exact h

theorem attach (h : o.Drifts n s) (d : DriveIx) (adopt : Bool) : o.Drifts n (s.attach d adopt) :=
  (h.modVolume d _).foldl _ (fun _ x ht => ht.reviveEntry adopt x) _

theorem stampUnknown (h : o.Drifts n s) (d : DriveIx) (x : StampOutcome) : o.Drifts n (s.stampUnknown d x) := h

theorem stampVerdict (h : o.Drifts n s) (d : DriveIx) (bytes : Option (List Byte)) :
    o.Drifts n (s.stampVerdict d bytes) := by
  unfold State.stampVerdict
  split
  · exact h.stampUnknown d _
  · split
    · exact h.stampUnknown d _
    · exact (((h.modVolume d _).attach d false).raise _).ite (((h.modVolume d _).modVolume d _).raise _)

/-! ## The end of an operation, and holds -/

theorem noteFault (h : o.Drifts n s) (d : DriveIx) (c : Cause) (x : FaultOutcome) (q : Option Record) :
    o.Drifts n (s.noteFault d c x q) := h.modEngine d

theorem endOperation (h : o.Drifts n s) (d : DriveIx) : o.Drifts n (s.endOperation d) := h.modEngine d

theorem returnEntry (h : o.Drifts n s) (q : Record) : o.Drifts n (s.returnEntry q) := by
  unfold State.returnEntry
  split
  · exact (h.modEntry _ Entry.writeReturns_keeps).provide _ false
  · exact h.modEntry _ Entry.fillReturns_keeps
  · exact h.modEntry _ Entry.fillReturns_keeps
  · exact h

theorem returnRecord (h : o.Drifts n s) (d : DriveIx) : o.Drifts n (s.returnRecord d) := by
  unfold State.returnRecord
  split
  · exact h
  · next r _ =>
    split
    · exact h
    · next q _ =>
      have t (waits : List DriveIx) :=
        ((((h.endOperation d).bufWait waits).leaveChannel d).withdrawRecord r).stopCopyOut r
      exact ((t _).freeRecord r).ite (((t _).modRecord r _).returnEntry q).handBuffers

theorem stopForHold (h : o.Drifts n s) (d : DriveIx) : o.Drifts n (s.stopForHold d) := by
  unfold State.stopForHold
  split
  · exact h.modEngine d
  · exact h.modEngine d
  · exact h.returnRecord d
  · exact h.returnRecord d
  · exact h.returnRecord d
  · exact h

theorem haltFault (h : o.Drifts n s) (d : DriveIx) : o.Drifts n (s.haltFault d) :=
  ((h.modEngine d).raise _).stopForHold d

theorem speedFails (h : o.Drifts n s) (d : DriveIx) : o.Drifts n (s.speedFails d) :=
  (((h.raise _).noteFault d _ _ _).returnRecord d).haltFault d

theorem resume (h : o.Drifts n s) (d : DriveIx) : o.Drifts n (s.resume d) := by
  obtain e | ⟨-, -, e⟩ | ⟨-, -, e⟩ := s.resume_cases d <;> rw [e]
  · exact h
  · exact h.modEngine d
  · exact h.modEngine d

/-! ## Failures -/

theorem entryUnwritten (h : o.Drifts n s) (x : SectorRef) (c : Cause) : o.Drifts n (s.entryUnwritten x c) := by
  unfold State.entryUnwritten
  split
  · exact h
  · exact ((h.modEntry x (Entry.writeFailed_keeps c)).marksGone true _).ite h

/-- The end of an operation whose record is freed. -/
theorem ended (h : o.Drifts n s) (d : DriveIx) (r : RecIx) :
    o.Drifts n (((s.endOperation d).leaveChannel d).freeRecord r) :=
  ((h.endOperation d).leaveChannel d).freeRecord r

theorem writeFails (h : o.Drifts n s) (d : DriveIx) (r : RecIx) (c : Cause) :
    o.Drifts n (s.writeFails d r c) := by
  unfold State.writeFails
  split
  · exact h
  · next q _ =>
    dsimp only
    cases q.owner with
    | some x =>
      have t := ((((h.entryUnwritten x c).noteFault d c .unwritten (some q)).raise
        (if c = Cause.protect then Event.protect else Event.writeFailed)).ended d r)
      exact (t.haltFault d).ite t
    | none => exact ((h.ended d r).haltFault d).ite (h.ended d r)

theorem fillFails (h : o.Drifts n s) (d : DriveIx) (r : RecIx) (c : Cause) : o.Drifts n (s.fillFails d r c) := by
  unfold State.fillFails
  split
  · exact h
  · dsimp only
    split
    · exact h.ended d r
    · have delivered (c : Cause) (q : Record) (b : BurstRequest) :=
        ((((h.noteFault d c .damagedDelivered (some q)).endOperation d).leaveChannel d).requestBurst b).raise
          .damagedDelivered
      have failed (c : Cause) (q : Record) (x : SectorRef) :=
        (((h.modEntry x (Entry.fillFailed_keeps c)).noteFault d c .failed (some q)).ended d r).raise
          .fillFailed
      exact (delivered _ _ _).ite (failed _ _ _)

theorem stampFails (h : o.Drifts n s) (d : DriveIx) (r : RecIx) (c : Cause) :
    o.Drifts n (s.stampFails d r c) :=
  ((h.noteFault d _ _ _).ended d r).stampVerdict d none

theorem operationFails (h : o.Drifts n s) (d : DriveIx) (r : RecIx) (c : Cause) :
    o.Drifts n (s.operationFails d r c) := by
  unfold State.operationFails
  split
  · exact h
  · split
    · exact h.fillFails d r c
    · exact h.fillFails d r c
    · exact h.stampFails d r c
    · exact h.writeFails d r c
    · exact h

theorem attemptFails (h : o.Drifts n s) (d : DriveIx) (r : RecIx) (c : Cause) :
    o.Drifts n (s.attemptFails d r c) :=
  ((h.modRecord r _).operationFails d r c).ite ((h.modRecord r _).modEngine d)

theorem noteFormat (h : o.Drifts n s) (d : DriveIx) (c : Option FormatCause) (q : Record) :
    o.Drifts n (s.noteFormat d c q) := h

theorem formatFails (h : o.Drifts n s) (d : DriveIx) (r : RecIx) (c : FormatCause) :
    o.Drifts n (s.formatFails d r c) := by
  unfold State.formatFails
  split
  · exact h
  · next q _ =>
    have t := ((h.noteFormat d (some c) q).raise .formatFailed).ended d r
    exact (t.haltFault d).ite t

theorem formatCompletes (h : o.Drifts n s) (d : DriveIx) (r : RecIx) : o.Drifts n (s.formatCompletes d r) := by
  unfold State.formatCompletes
  split
  · exact h
  · next q _ =>
    split
    · exact h
    · next p _ =>
      have t (x : Option DiskOut) := ((h.diskOut x).endOperation d).leaveChannel d
      have adopted (x : Option DiskOut) : o.Drifts n
          (((({ s with diskOut := x } : State).endOperation d).leaveChannel d).adoptFormat d p) :=
        (((t x).modVolume d _).pool _).attach d false
      exact ((((adopted _).ite ((t _).modVolume d _)).freeRecord r).raise _).noteFormat d none q

/-! ## The choice and the swap -/

theorem takeChoice (h : o.Drifts n s) (d : DriveIx) (r : RecIx) : o.Drifts n (s.takeChoice d r) := by
  unfold State.takeChoice
  split
  · exact h
  · have t (f : Record → Record) : o.Drifts n ((s.modRecord r f).modEngine d fun e =>
      { e with state := .select, current := some r, dataHeld := false, idle := 0 }) :=
        (h.modRecord r f).modEngine d
    refine ((t _).writeFails d r _).ite (((t _).operationFails d r _).ite
      (((t _).startPositioning d r).ite ?_))
    split
    · exact (t _).giveBuffer d r _
    · exact ((t _).bufWait _).modEngine d

/-- The bound volume ids follow a binding (R27). -/
theorem rebound (h : o.Drifts n s) {t : State} (r : s.Rebound t) : o.Drifts n t := by
  obtain ⟨_, _, rfl, -⟩ := r
  exact h

theorem swapWindow (h : o.Drifts n s) {w : WinIx} (quiet : (s.window w).quiet = true) :
    o.Drifts n (s.swapWindow w) := by
  unfold State.swapWindow
  split
  · next b next es staged =>
    rw [staged] at quiet
    have forgotten : o.Drifts n (s.forgetWindow w) := h
    exact (forgotten.step (.swap staged (List.all_eq_true.mp quiet))).rebound (s.rebound_replaceWindow w next)
  · exact h
  · exact h

theorem settle (h : o.Drifts n s) : o.Drifts n s.settle := by
  refine State.settle_invariant (o.Drifts n) (fun t u ht e => ?_) s h
  obtain ⟨w, next, rfl⟩ | ⟨-, d, r, -, rfl⟩ := State.settleOne_cases e
  · exact ht.swapWindow (List.find?_some (p := fun v => (t.window v).quiet) next)
  · exact ht.takeChoice d r

theorem perform (h : o.Drifts n s) {f : State → State} (hf : ∀ t, o.Drifts n t → o.Drifts n (f t)) :
    o.Drifts n (s.perform f) := (hf s h).settle.ite h

/-! ## The judgements of an advance -/

theorem judgeSweep (h : o.Drifts n s) : o.Drifts n s.judgeSweep := by
  have entry (t : State) (x : SectorRef) (ht : o.Drifts n t) : o.Drifts n (t.sweepEntry x) := by
    unfold State.sweepEntry
    split
    · exact (ht.requestWrite x .normal).ite ht
    · exact ht
  have t (d : Due) : o.Drifts n { s with
      sweep := { s.sweep with current := s.sweep.next, counter := 1 }
      clock := { s.clock with due := d } } := h
  have swept : o.Drifts n s.sweepNow := ((t _).raise .sweep).foldl _ entry _
  exact swept.ite h

theorem judgeAges (h : o.Drifts n s) : o.Drifts n s.judgeAges := by
  have entry (t : State) (x : SectorRef) (ht : o.Drifts n t) : o.Drifts n (t.promoteEntry x) := by
    unfold State.promoteEntry
    split
    · exact ((ht.modEntry x Entry.promoted_keeps).requestWrite x .urgent).ite ht
    · exact ht
  have promoted {t : State} (ht : o.Drifts n t) : o.Drifts n t.promoteAll :=
    (ht.due _).ite ((ht.due _).foldl _ entry _)
  exact (promoted h.judgeSweep).ite h

theorem judgeDeadlines (h : o.Drifts n s) : o.Drifts n s.judgeDeadlines := by
  have late (t : State) (k : SlotIx) (ht : o.Drifts n t) : o.Drifts n (t.lateSlot k) :=
    (((ht.step (.unmark _ k)).setSlot k _).raise _).ite ht
  exact ((h.due _).foldl _ late _).ite h

theorem judgeExpiry (h : o.Drifts n s) : o.Drifts n s.judgeExpiry := by
  have t : o.Drifts n s.expireRecords := h
  exact t.ite h

theorem judgeAll (h : o.Drifts n s) : o.Drifts n s.judgeAll :=
  h.judgeSweep.judgeAges.judgeDeadlines.judgeExpiry

theorem judgeLimits (h : o.Drifts n s) : o.Drifts n s.judgeLimits := h.judgeAges.settle.judgeExpiry.ite h

end State.Drifts

end Sys2Proof.Machine
end

section
/-! SUPPORT. What the lines, the disk work and the passing of time do by themselves. -/

namespace Sys2Proof.Machine

open Sys2Proof

theorem Engine.capture_ready (now : Tick) (e : Engine) : (e.capture now).ready = e.ready := by
  unfold Engine.capture
  dsimp only
  (repeat' split) <;> rfl

theorem Engine.countPulse_ready (e : Engine) : e.countPulse.ready = e.ready := by
  unfold Engine.countPulse
  (repeat' split) <;> rfl

namespace State.Drifts

variable {n : Nat} {o s : State}

/-! ## The ready line -/

theorem driveRisen (h : o.Drifts n s) (d : DriveIx) : o.Drifts n (s.driveRisen d) :=
  (((h.modEngine d).modVolume d _).requestStamp d).resume d

theorem doorEntry (h : o.Drifts n s) (x : SectorRef) : o.Drifts n (s.doorEntry x) := by
  have stranded : o.Drifts n ((s.modEntry x Entry.strand).leaveBacklog x) := h.modEntry x Entry.strand_keeps
  unfold State.doorEntry
  split
  · exact h
  · split
    · exact h.modEntry x Entry.fillCancelled_keeps
    · exact (h.modEntry x Entry.fillCancelled_keeps).ite h
    · exact stranded
    · exact stranded
    · exact stranded
    · exact stranded
    all_goals exact h

theorem doorRecord (h : o.Drifts n s) (d : DriveIx) (r : RecIx) : o.Drifts n (State.doorRecord d s r) := by
  unfold State.doorRecord
  split
  · exact h
  · exact (((h.noteFormat d _ _).raise _).releaseRecord r).ite (h.releaseRecord r)

theorem driveFallen (h : o.Drifts n s) (d : DriveIx) : o.Drifts n (s.driveFallen d) := by
  unfold State.driveFallen
  extract_lets mine fallen unbuffered idle entries pool waitless ended count
  have hfallen : o.Drifts n fallen := h.modEngine d
  have hunbuffered : o.Drifts n unbuffered := hfallen
  have hidle : o.Drifts n idle := ((hunbuffered.bursts _).withdraw _).leaveChannel d
  have hentries : o.Drifts n entries := hidle.foldl _ (fun _ x ht => ht.doorEntry x) _
  have hwaitless : o.Drifts n waitless := hentries.pool _
  have hended : o.Drifts n ended := (hwaitless.foldl _ (fun _ r ht => ht.doorRecord d r) _).handBuffers
  exact (hended.modVolume d _).raise _

/-! ## Attempts, speed and index pulses -/

theorem searchMissed (h : o.Drifts n s) (d : DriveIx) : o.Drifts n (State.searchMissed d s) := by
  have counted (r : RecIx) : o.Drifts n (s.countMiss d r) := by
    have t (f : Record → Record) := h.modRecord r f
    unfold State.countMiss
    dsimp only
    split
    · exact h
    · exact ((t _).operationFails d r _).ite ((((t _).modRecord r _).modEngine d).ite ((t _).modEngine d))
  unfold State.searchMissed
  split
  · exact h
  · exact (counted _).ite h

theorem verifyMissed (h : o.Drifts n s) (d : DriveIx) : o.Drifts n (State.verifyMissed d s) := by
  unfold State.verifyMissed
  split
  · exact h
  · exact (h.attemptFails d _ .verify).ite h

theorem badPeriods (h : o.Drifts n s) (d : DriveIx) : o.Drifts n (State.badPeriods d s) :=
  (speedFails (h.modEngine d) d).ite h

theorem unloadHeads (h : o.Drifts n s) (d : DriveIx) : o.Drifts n (State.unloadHeads d s) :=
  (h.modEngine d (f := fun e => { e with loaded := false })).ite h

theorem takeDue (h : o.Drifts n s) (d : DriveIx) : o.Drifts n (State.takeDue d s) :=
  (((h.badPeriods d).searchMissed d).verifyMissed d).unloadHeads d

theorem pulse (h : o.Drifts n s) (d : DriveIx) : o.Drifts n (State.pulse d s) := by
  have formats {t : State} (ht : o.Drifts n t) : o.Drifts n (t.formatPulse d) := by
    unfold State.formatPulse
    split
    · exact (ht.formatCompletes d _).ite ((ht.formatFails d _ .protect).ite
        ((ht.modEngine d (f := fun e =>
          { e with gate := true, formatOn := true, formatSlot := e.slotTime })).modVolume d _))
    · exact ht
  exact (formats (h.modEngine d fun e => (Engine.countPulse_ready _).trans (e.capture_ready _))).ite h

/-! ## Seeks and recalibrations -/

theorem endRecal (h : o.Drifts n s) (d : DriveIx) : o.Drifts n (s.endRecal d) := by
  have t : o.Drifts n (s.modEngine d fun e => { e with cyl := some 0, motion := .still }) := h.modEngine d
  unfold State.endRecal
  dsimp only
  split
  · exact t.modEngine d fun e => e.beginSeek_ready _ _
  · exact t.modEngine d

theorem seekFails (h : o.Drifts n s) (d : DriveIx) : o.Drifts n (State.seekFails d s) := by
  have t (q : Option Record) := (h.raise .seekFault).noteFault d .seekFault .driveFault q
  have stopped (q : Option Record) :=
    ((t q).endOperation d).ite (p := (s.engine d).current = none) ((t q).returnRecord d)
  exact (haltFault ((stopped _).modEngine d) d).ite h

theorem endSeek (h : o.Drifts n s) (d : DriveIx) : o.Drifts n (s.endSeek d) := by
  have t : o.Drifts n (s.modEngine d fun e => { e with loaded := true }) := h.modEngine d
  unfold State.endSeek
  dsimp only
  split
  · exact t.ite (t.requestChannel d)
  · exact t.modEngine d
  · exact t

/-! ## Disk work -/

theorem idField (h : o.Drifts n s) (d : DriveIx) (f : IdField) : o.Drifts n (State.idField d f s) := by
  have found (r : RecIx) (q : Record) : o.Drifts n (s.targetFound d r q) := by
    have t := h.modRecord r fun q => { q with misses := 0 }
    have writes := (t.modEngine d (f := fun e => { e with state := .writing, gate := true })).modVolume d
      fun v => { v with changed := true }
    exact (writes.ite (t.writeFails d r .protect)).ite (t.modEngine d)
  have searched (r : RecIx) (q : Record) : o.Drifts n (s.searchField d r q f) :=
    (h.modEngine d (f := fun e => { e with badId := true })).ite
      (h.ite ((h.operationFails d r .defective).ite (found r q)))
  unfold State.idField
  dsimp only
  split
  · exact h
  · split
    · exact h
    · exact (searched _ _).ite (((h.modEngine d (f := fun e => { e with idFound := true })).ite h).ite h)

theorem markMissing (h : o.Drifts n s) (d : DriveIx) : o.Drifts n (State.markMissing d s) := by
  unfold State.markMissing
  dsimp only
  split
  · exact h
  · exact (h.attemptFails d _ .notFound).ite ((h.attemptFails d _ .verify).ite h)

theorem readDone (h : o.Drifts n s) (d : DriveIx) (r : RecIx) (q : Record) (data : List Byte) :
    o.Drifts n (s.readDone d r q data) := by
  have t := (h.endOperation d).leaveChannel d
  unfold State.readDone
  dsimp only
  split
  · exact (t.requestBurst _).ite (t.freeRecord r)
  · exact (t.requestBurst _).ite (t.freeRecord r)
  · exact (t.freeRecord r).stampVerdict d _
  · exact h
  · exact h

theorem fieldRead (h : o.Drifts n s) (d : DriveIx) (data : List Byte) (crc : BitVec 16) :
    o.Drifts n (State.fieldRead d data crc s) := by
  have taken (q : Record) : o.Drifts n (s.takeField d q data) := by
    unfold State.takeField
    cases q.buffer with
    | some b => exact (h.setBuffer b data).modEngine d
    | none => exact h.modEngine d
  unfold State.fieldRead
  dsimp only
  split
  · exact h
  · next r _ =>
    split
    · exact h
    · exact (((taken _).readDone d r _ data).ite ((taken _).attemptFails d r .dataCrc)).ite h

theorem writeFaulted (h : o.Drifts n s) (d : DriveIx) : o.Drifts n (State.writeFaulted d s) := by
  unfold State.writeFaulted
  dsimp only
  split
  · exact h
  · exact h.ite ((h.writeFails d _ _).ite ((h.formatFails d _ _).ite h))

/-! ## The supply -/

/-- Every engine changes, each drive's ready line standing. -/
theorem mapEngines (h : o.Drifts n s) {f : Engine → Engine}
    (same : ∀ e, (f e).ready = e.ready := by exact fun _ => rfl) :
    o.Drifts n { s with engines := s.engines.map f } := by
  obtain ⟨coarse, link, reset, low, store, ready, windows⟩ := h
  refine ⟨coarse, link, reset, low, store, fun d => ?_, windows⟩
  rw [← ready d, ← same (s.engine d)]
  exact congrArg Engine.ready (Vector.getElem_map ..)

theorem setDip (h : o.Drifts n s) : o.Drifts n s.setDip := by
  have t : o.Drifts n { s with
      engines := s.engines.map fun e => { e with dip := true }, chan := _, bufWait := [] } :=
    ((h.mapEngines).chan { owner := none, queue := [] }).bufWait []
  exact t.foldl State.dipEngine (fun _ d ht => returnRecord (ht.modEngine d) d) _

/-! ## The passing of time -/

theorem passTicks (h : o.Drifts n s) (m : Nat) : o.Drifts n (s.passTicks m) := by
  unfold State.passTicks
  split
  · exact h
  · exact h.mapEngines (f := Engine.elapse m)

theorem indexGone (h : o.Drifts n s) (d : DriveIx) : o.Drifts n (s.indexGone d) :=
  (speedFails (h.modEngine d) d).settle

theorem passLost (h : o.Drifts n s) (k m limit : Nat) : o.Drifts n (s.passLost k m limit) :=
  State.passLost_invariant (o.Drifts n) (fun _ m ht => ht.passTicks m) (fun _ d ht => ht.indexGone d)
    k m limit s h

theorem judgePast (h : o.Drifts n s) : o.Drifts n s.judgePast := h.judgeAll.settle.ite h

/-- An advance of the coarse clock, while there is main supply (R1). -/
theorem coarseMoment (h : o.Drifts n s) (on : s.power ≠ .off) : o.Drifts (n + 1) s.coarseMoment := by
  have counted : o.Drifts (n + 1) s.countCoarse := by
    obtain ⟨coarse, rest⟩ := h
    refine ⟨?_, rest⟩
    rw [BitVec.ofNat_add, ← BitVec.add_assoc, ← coarse]
    rfl
  have swept {t : State} (ht : o.Drifts (n + 1) t) : o.Drifts (n + 1) t.sweepTick := by
    obtain ⟨-, e⟩ | ⟨-, -, e⟩ | ⟨-, -, e⟩ := t.sweepTick_cases <;> rw [e] <;> exact ht
  obtain ⟨off, -⟩ | ⟨-, e⟩ | ⟨-, e⟩ := s.coarseMoment_cases
  · exact absurd off on
  · rw [e]
    exact counted
  · rw [e]
    exact (swept counted).due _

theorem passAdvances (h : o.Drifts n s) (on : s.power ≠ .off) (k m : Nat) :
    o.Drifts (n + k) (s.passAdvances k m) := by
  induction k generalizing n m s with
  | zero => exact h.passLost 4 m (m + 1)
  | succ k ih =>
    have still (m : Nat) : (s.judgePast.passLost 4 m m).power ≠ .off := by
      rwa [State.passLost_power, State.judgePast_power]
    rw [State.passAdvances, Nat.add_comm k 1, ← Nat.add_assoc]
    refine ih ((h.judgePast.passLost 4 _ _).coarseMoment (still _)) ?_ _
    rw [State.coarseMoment_power]
    exact still _

/-- Ticks with the advances of the coarse clock among them (R1). -/
theorem passClocks (h : o.Drifts n s) (on : s.power ≠ .off) (m : Nat) :
    o.Drifts (n + (s.clock.toCoarse + m) / 10000) (s.passClocks m) := by
  rw [State.passClocks, if_neg on]
  exact h.passAdvances on _ m

end State.Drifts

end Sys2Proof.Machine
end

section
/-! SUPPORT. How every command changes the windows, turn by turn, and O54. -/

namespace Sys2Proof.Machine

open Sys2Proof

/-! ## Offers -/

/-- The binding that a record for drive `d` is stored as (R22). -/
def storedBinding (r : BindRecord) (d : DriveIx) : Binding :=
  { page := r.page.toNat, count := r.count.toNat, drive := d, cylinder := r.cylinder.toNat,
    side := r.side.toNat, sector := r.sector.toNat, sides := r.sides.toNat,
    gathered := r.options.getLsbD 0, fresh := r.options.getLsbD 1, writers := r.writers,
    deliver := r.options.getLsbD 2, readAhead := min r.readAhead.toNat 7, verify := r.options.getLsbD 3,
    stampBound := decide (r.cylinder.toNat = 0 ∧ r.side.toNat = 0 ∧ r.sector.toNat = 0),
    sent := r.options }

/-- The ranges of R22, and the run of R23, that a binding record is judged by. -/
def Binding.Fits (b : Binding) : Prop :=
  1 ≤ b.count ∧ b.count ≤ 64 ∧ b.top ≤ memorySize ∧ b.cylinder ≤ 76 ∧ b.side ≤ 1 ∧ b.sector ≤ 15 ∧
    (b.sides = 1 ∨ b.sides = 2) ∧ (b.diskAddr (b.count - 1)).cylinder ≤ 76

/-- A binding record is accepted exactly when it names a drive and its binding lies in the ranges. -/
theorem bindingOf?_eq_some {r : BindRecord} {b : Binding} :
    bindingOf? r = some b ↔ ∃ d, driveOf r.drive = some d ∧ b = storedBinding r d ∧ (storedBinding r d).Fits := by
  unfold bindingOf?
  split
  · next none => simp [none]
  · next d drive =>
    rw [drive]
    constructor
    · intro h
      obtain ⟨fits, h⟩ := Option.ite_none_right_eq_some.mp h
      exact ⟨d, rfl, (Option.some.inj h).symm, fits⟩
    · rintro ⟨_, h, rfl, fits⟩
      cases h
      exact if_pos fits

/-- A binding record that is accepted makes a binding in its ranges (R22, R23). -/
theorem bindingOf?_wf {r : BindRecord} {b : Binding} (h : bindingOf? r = some b) : b.wf = true := by
  obtain ⟨d, -, rfl, low, high, memory, cylinder, side, sector, sides, run⟩ := bindingOf?_eq_some.mp h
  have clamped : (storedBinding r d).readAhead ≤ 7 := Nat.min_le_right _ _
  simp only [Binding.wf, Bool.and_eq_true, Bool.or_eq_true, decide_eq_true_eq]
  exact ⟨⟨⟨⟨⟨⟨⟨⟨⟨low, high⟩, memory⟩, cylinder⟩, side⟩, sector⟩, sides⟩, run⟩, clamped⟩, rfl⟩

/-- A binding record that is accepted and does not conflict may be offered (R24). -/
theorem State.offered_of_not_conflicts {s : State} {w : WinIx} {r : BindRecord} {b : Binding}
    (binding : bindingOf? r = some b) (free : s.conflicts w b = false) : Offered s.windows w b := by
  refine ⟨bindingOf?_wf binding, fun v hv c hc => ?_⟩
  simp only [State.conflicts, Bool.or_eq_false_iff, List.any_eq_false, Bool.and_eq_true, decide_eq_true_eq,
    List.any_eq_true, Bool.or_eq_true, not_and, not_exists] at free
  obtain ⟨apart, -⟩ := free
  have no := apart v (mem_allWindows v) hv c hc
  exact ⟨Bool.not_eq_true _ ▸ fun h => no (.inl h), Bool.not_eq_true _ ▸ fun h => no (.inr h)⟩

/-- An accepted BIND names an UNBOUND window and a binding that may be offered (R25). -/
theorem State.judgeBind_ok {s : State} {window : Byte} {r : BindRecord} {w : WinIx} {b : Binding}
    (h : s.judgeBind window r = .ok (w, b)) : Offered s.windows w b := by
  unfold State.judgeBind at h
  (repeat' split at h) <;> simp_all
  obtain ⟨rfl, rfl⟩ := h
  exact State.offered_of_not_conflicts ‹_› ‹_›

/-- An accepted STAGE names a binding that may be offered (R28). -/
theorem State.judgeStage_ok {s : State} {window : Byte} {r : BindRecord} {w : WinIx} {b : Binding}
    (h : s.judgeStage window r = .ok (w, b)) : Offered s.windows w b := by
  unfold State.judgeStage at h
  (repeat' split at h) <;> simp_all
  all_goals
    obtain ⟨rfl, rfl⟩ := h
    exact State.offered_of_not_conflicts ‹_› ‹_›

/-! ## The relation -/

theorem Engine.step_ready (track0 : Bool) (e : Engine) : (e.step track0).ready = e.ready := by
  unfold Engine.step
  split <;> rfl

/-- From `o` to `s` the windows have changed by turns of `WindowsTurn`. -/
def State.Reshapes (o s : State) : Prop := Relation.ReflTransGen WindowsTurn o.windows s.windows

namespace State.Reshapes

variable {o s : State}

theorem refl (s : State) : s.Reshapes s := Relation.ReflTransGen.refl

/-- What the part does by itself. -/
theorem drift (h : o.Reshapes s) {n : Nat} {t : State} (k : s.Drifts n t) : o.Reshapes t :=
  Relation.ReflTransGen.trans h (Relation.ReflTransGen.mono (fun _ _ => .inner) _ _ k.windows)

theorem turn (h : o.Reshapes s) {t : State} (turn : WindowsTurn s.windows t.windows) : o.Reshapes t := h.tail turn

/-- The windows stand. -/
theorem same (h : o.Reshapes s) {t : State} (windows : t.windows = s.windows) : o.Reshapes t := by
  unfold State.Reshapes
  rwa [windows]

theorem ite {p : Prop} [Decidable p] {t : State} (hs : o.Reshapes s) (ht : o.Reshapes t) :
    o.Reshapes (if p then s else t) := by
  split
  · exact hs
  · exact ht

theorem foldl {α : Type} (h : o.Reshapes s) (f : State → α → State)
    (hf : ∀ (t : State) (a : α), o.Reshapes t → o.Reshapes (f t a)) (l : List α) : o.Reshapes (l.foldl f s) :=
  foldl_invariant o.Reshapes f hf l s h

theorem modEntry (h : o.Reshapes s) (x : SectorRef) {f : Entry → Entry} (sound : Entry.Sound f) :
    o.Reshapes (s.modEntry x f) := h.turn (.entry x.win x.idx sound)

theorem modEngine (h : o.Reshapes s) (d : DriveIx) (f : Engine → Engine) : o.Reshapes (s.modEngine d f) := h

theorem respond (h : o.Reshapes s) (r : Result) (data : List Byte) : o.Reshapes (s.respond r data) := h

theorem takeCommand (h : o.Reshapes s) (c : Byte) (params : List Byte) :
    o.Reshapes (s.takeCommand c params) := h

theorem settle (h : o.Reshapes s) : o.Reshapes s.settle := h.drift (State.Drifts.refl s).settle

theorem whileRunning (h : o.Reshapes s) {f : State → State} (hf : ∀ t, o.Reshapes t → o.Reshapes (f t)) :
    o.Reshapes (s.whileRunning f) := (hf s h).ite h

theorem perform (h : o.Reshapes s) {f : State → State} (hf : ∀ t, o.Reshapes t → o.Reshapes (f t)) :
    o.Reshapes (s.perform f) := (hf s h).settle.ite h

/-- Work of the part itself, with the swaps and choices that follow it. -/
theorem work (h : o.Reshapes s) {f : State → State} (hf : ∀ t : State, t.Drifts 0 (f t)) :
    o.Reshapes (s.perform f) := h.perform fun t ht => ht.drift (hf t)

/-! ## Time -/

theorem warmReset (h : o.Reshapes s) (c : WarmCause) : o.Reshapes (s.warmReset c) := h.turn (.reset s.windows)

theorem coarseMoment (h : o.Reshapes s) : o.Reshapes s.coarseMoment := by
  obtain ⟨-, e⟩ | ⟨-, e⟩ | ⟨-, e⟩ := s.coarseMoment_cases <;> rw [e]
  · exact h
  · exact h
  · obtain ⟨-, e⟩ | ⟨-, -, e⟩ | ⟨-, -, e⟩ := s.countCoarse.sweepTick_cases <;> rw [e] <;> exact h

theorem passTime (h : o.Reshapes s) (n : Nat) : o.Reshapes (s.passTime n) :=
  State.passTime_invariant o.Reshapes (fun t n ht => ht.same (t.passTicks_windows n))
    (fun t d ht => ht.drift ((State.Drifts.refl t).indexGone d))
    (fun t ht => ht.drift (State.Drifts.refl t).judgePast) (fun _ ht => ht.coarseMoment)
    (fun _ ht => ht.warmReset _) n s h

theorem coarseAdvance (h : o.Reshapes s) : o.Reshapes s.coarseAdvance :=
  State.coarseAdvance_invariant o.Reshapes (fun t n ht => ht.same (t.passTicks_windows n))
    (fun t d ht => ht.drift ((State.Drifts.refl t).indexGone d))
    (fun t ht => ht.drift (State.Drifts.refl t).judgePast) (fun _ ht => ht.coarseMoment)
    (fun _ ht => ht.warmReset _) s h

theorem afterWait (h : o.Reshapes s) (d : DriveIx) (awaits : Engine → Bool) {event : State → State}
    (he : ∀ t : State, t.Drifts 0 (event t)) : o.Reshapes (s.afterWait d awaits event) := by
  obtain ⟨-, e⟩ | ⟨-, -, e⟩ | ⟨-, -, e⟩ := s.afterWait_cases d awaits event <;> rw [e]
  · exact h
  · exact h.passTime _
  · exact (h.passTime _).drift (he _)

theorem stepPulse (h : o.Reshapes s) (d : DriveIx) (track0 : Bool) : o.Reshapes (State.stepPulse d track0 s) :=
  h.afterWait d _ fun t => (State.Drifts.refl t).modEngine d fun e => e.step_ready track0

theorem recalibrated (h : o.Reshapes s) (d : DriveIx) : o.Reshapes (State.recalibrated d s) :=
  h.afterWait d _ fun t => (State.Drifts.refl t).endRecal d

theorem positioned (h : o.Reshapes s) (d : DriveIx) : o.Reshapes (State.positioned d s) :=
  h.afterWait d _ fun t => (State.Drifts.refl t).endSeek d

theorem indexLost (h : o.Reshapes s) (d : DriveIx) : o.Reshapes (State.indexLost d s) := by
  unfold State.indexLost
  split
  · exact h
  · exact h.passTime _

theorem indexPulse (h : o.Reshapes s) (d : DriveIx) (elapsed : Nat) :
    o.Reshapes (State.indexPulse d elapsed s) :=
  ((h.work fun t => (State.Drifts.refl t).takeDue d).passTime elapsed).work
    fun t => (State.Drifts.refl t).pulse d

/-! ## Changes written by cycles and bursts, and brought to disk -/

theorem writeFor (h : o.Reshapes s) (a : Nat) (c : Access) : o.Reshapes (s.writeFor a c) := by
  cases c <;> exact h

theorem noteServed (h : o.Reshapes s) (tag : Tag) (x : SectorRef) : o.Reshapes (s.noteServed tag x) := by
  unfold State.noteServed
  split <;> exact h

theorem noteDefer (h : o.Reshapes s) (tag : Tag) (x : SectorRef) : o.Reshapes (s.noteDefer tag x) := by
  unfold State.noteDefer
  split <;> exact h

theorem answered (h : o.Reshapes s) (a : Answer) (x : Option ReadData) : o.Reshapes (s.answered a x) := h

theorem noteWrite (h : o.Reshapes s) (x : SectorRef) (b : Binding) (e : Entry) :
    o.Reshapes (s.noteWrite x b e) := by
  unfold State.noteWrite
  split
  · have t := h.modEntry x (Entry.firstWrite_sound (s.attached b.drive) s.clock.coarse)
    exact (t.drift ((State.Drifts.refl _).requestWrite x .normal)).ite t
  · exact h.modEntry x (Entry.rewritten_keeps s.clock.coarse).toSound
  all_goals exact h

theorem askFor (h : o.Reshapes s) (x : SectorRef) (b : Binding) (e : Entry) : o.Reshapes (s.askFor x b e) := by
  have t := State.Drifts.refl s
  have blank (d : DriveIx) : s.Drifts 0 (s.requestBlank x d) :=
    t.ite ((t.modEntry x Entry.blankBegins_keeps).joinQueue _).startNext
  unfold State.askFor
  split
  · exact ((h.drift (blank b.drive)).ite (h.drift (t.requestFill x e))).ite h
  · exact h.drift (t.raiseFill x)
  · exact h.drift (t.raiseFill x)
  all_goals exact h

theorem decodeCycle (h : o.Reshapes s) (c : UpCycle) : o.Reshapes (s.decodeCycle c) := by
  have outside := (h.answered .pass (s.readFor c.addr.toNat c.access)).writeFor c.addr.toNat c.access
  have judged (x : SectorRef) (b : Binding) (e : Entry) : o.Reshapes (s.judge c x b e) := by
    have refused (p : Path) (e : Event) : o.Reshapes ({ s with path := p }.raise e) := h
    unfold State.judge
    dsimp only
    split
    · exact ((refused _ _).noteServed c.tag x).answered _ _
    · split
      · exact ((((h.noteWrite x b e).ite h).noteServed c.tag x).answered _ _).writeFor _ _
      · exact (h.noteServed c.tag x).answered _ _
      · split
        · exact h
        · exact ((h.ite (h.askFor x b e)).noteDefer c.tag x).answered _ _
  unfold State.decodeCycle
  dsimp only
  split
  · exact outside
  · split
    · exact judged _ _ _
    · exact outside

theorem endDelivery (h : o.Reshapes s) (u : Burst) : o.Reshapes (s.endDelivery u) := by
  have t := State.Drifts.refl s
  unfold State.endDelivery
  split
  · exact h.drift t.handBuffers
  · next r _ =>
    split
    · exact h.drift t.handBuffers
    · split
      · exact h.drift (t.freeRecord r)
      · have delivered (x : SectorRef) := (t.modEntry x (Entry.delivered_keeps u.damaged)).freeRecord r
        dsimp only
        split
        · exact h.drift ((delivered _).readAhead _ _ _)
        · exact h.drift (delivered _)

theorem endCopyOut (h : o.Reshapes s) (u : Burst) : o.Reshapes (s.endCopyOut u) := by
  have t := State.Drifts.refl s
  unfold State.endCopyOut
  split
  · exact h.drift t.handBuffers
  · next r _ =>
    dsimp only
    cases s.burstOwner u with
    | some x =>
      have copied := (t.modEntry x Entry.copyEnds_keeps).modRecord r fun q => { q with copied := true }
      exact h.drift ((copied.requestChannel u.drive).ite copied)
    | none =>
      have copied := t.modRecord r fun q => { q with copied := true }
      exact h.drift ((copied.requestChannel u.drive).ite copied)

theorem endBlank (h : o.Reshapes s) (u : Burst) : o.Reshapes (s.endBlank u) := by
  unfold State.endBlank
  split
  · exact h
  · next x _ =>
    split
    · exact h
    · next b _ =>
      have t := h.modEntry x (Entry.blankEnds_sound (s.attached b.drive) s.clock.coarse)
      have requested (p : Urgency) := t.drift ((State.Drifts.refl _).requestWrite x p)
      exact t.ite ((requested _).ite (t.ite (requested _)))

theorem burstTurn (h : o.Reshapes s) : o.Reshapes s.burstTurn := by
  unfold State.burstTurn
  split
  · exact h
  · next u _ =>
    have begun : s.Drifts 0 (s.beginCopy (s.firstWord u)) := by
      have t := State.Drifts.refl s
      unfold State.beginCopy
      refine State.Drifts.ite ?_ t
      split
      · exact t.modEntry _ Entry.copyBegins_keeps
      · exact t
    have moved : o.Reshapes ((s.beginCopy (s.firstWord u)).moveWord (s.firstWord u)) := by
      rw [State.moveWord_eq]
      exact h.drift begun
    have ended := moved.drift (State.Drifts.refl _).endRunning
    refine ite moved ?_
    unfold State.endBurst
    split
    · exact ended.endDelivery _
    · exact ended.endCopyOut _
    · exact ended.endBlank _

theorem upCycle (h : o.Reshapes s) (c : UpCycle) : o.Reshapes (s.upCycle c) := by
  have paid : o.Reshapes s.payBurst := h.burstTurn.settle.ite h
  exact ((paid.drift (State.Drifts.refl _).judgeExpiry).decodeCycle c).settle

theorem writeCompletes (h : o.Reshapes s) (d : DriveIx) (r : RecIx) : o.Reshapes (s.writeCompletes d r) := by
  unfold State.writeCompletes
  split
  · exact h
  · next q _ =>
    have t : s.Drifts 0 (((s.endOperation d).leaveChannel d).noteWritten d q) :=
      ((State.Drifts.refl s).endOperation d).leaveChannel d
    dsimp only
    split
    · exact h.drift (t.freeRecord r)
    · next x _ =>
      split
      · exact h.drift (t.freeRecord r)
      · next e _ =>
        have u := ((h.drift t).modEntry x Entry.written_sound).drift
          (((State.Drifts.refl _).freeRecord r).marksGone false e.clearedMarks)
        exact (u.drift ((State.Drifts.refl _).provide x false)).ite u

theorem fieldWritten (h : o.Reshapes s) (d : DriveIx) : o.Reshapes (State.fieldWritten d s) := by
  have t (x : Option DiskOut) (f : Engine → Engine) : o.Reshapes ({ s with diskOut := x }.modEngine d f) := h
  unfold State.fieldWritten
  dsimp only
  split
  · exact h
  · next r _ =>
    split
    · exact h
    · exact (((t _ _).modEngine d _).ite ((t _ _).writeCompletes d r)).ite h

theorem fieldVerified (h : o.Reshapes s) (d : DriveIx) (data : List Byte) (crc : BitVec 16) :
    o.Reshapes (State.fieldVerified d data crc s) := by
  unfold State.fieldVerified
  dsimp only
  split
  · exact h
  · exact ((h.writeCompletes d _).ite (h.drift ((State.Drifts.refl s).attemptFails d _ .verify))).ite h

end State.Reshapes

end Sys2Proof.Machine
end

section
/-! SUPPORT. The windows under the link commands, under every command and step; O54. -/

namespace Sys2Proof.Machine

open Sys2Proof

theorem State.dropBursts_windows (s : State) (w : WinIx) (ending : List RecIx) :
    (s.dropBursts w ending).windows = s.windows :=
  (foldl_keeps State.windows _ (fun t r => t.stopCopyOut_windows r) _ _).trans (State.withdraw_windows _ _)

theorem State.failMarks_windows (s : State) (w : WinIx) : (s.failMarks w).windows = s.windows :=
  foldl_keeps State.windows _ (fun t (e : Entry) => by
    split
    · exact t.marksGone_windows true e.marks
    · rfl) _ _

/-- The new window of a binding that becomes current, all others standing (R26, R32). -/
theorem State.replaceWindow_windows (s : State) (w : WinIx) (next : Option Binding) :
    (s.replaceWindow w next).windows = s.windows.set w (Window.ofBinding next) := by
  obtain ⟨_, _, same, -⟩ := s.rebound_replaceWindow w next
  rw [same]
  rfl

namespace State.Drifts

variable {n : Nat} {o s : State}

theorem cancelFills (h : o.Drifts n s) (w : WinIx) : o.Drifts n (s.cancelFills w) :=
  (h.foldl _ (fun _ x hu => hu.modEntry x Entry.fillCancelled_keeps) _).foldl _
    (fun _ r hu => hu.freeRecord r) _

theorem drainEntry (h : o.Drifts n s) (x : SectorRef) : o.Drifts n (s.drainEntry x) := by
  unfold State.drainEntry
  split
  · exact (h.requestWrite x .urgent).ite h
  · exact h

theorem enterStaged (h : o.Drifts n s) (w : WinIx) : o.Drifts n (s.enterStaged w) :=
  (((h.cancelFills w).withdraw _).foldl _ (fun _ x ht => ht.modEntry x Entry.fillCancelled_keeps) _).foldl _
    (fun _ x ht => ht.drainEntry x) _

theorem endForced (h : o.Drifts n s) (r : RecIx) : o.Drifts n (s.endForced r) := by
  unfold State.endForced
  split
  · exact h
  · exact (((h.bufWait _).endOperation _).releaseRecord r).ite (h.releaseRecord r)

theorem noteDiscard (h : o.Drifts n s) (w : WinIx) (count : Nat) (b : Option Binding) :
    o.Drifts n (s.noteDiscard w count b) := by
  unfold State.noteDiscard
  split
  · have t (x : Option DiscardRecord) : o.Drifts n { s with lastDiscard := x } := h
    exact h.ite ((t _).raise .discarded)
  · exact h

theorem secureEntry (h : o.Drifts n s) (k : SlotIx) (x : SectorRef) : o.Drifts n (State.secureEntry k s x) := by
  unfold State.secureEntry
  split
  · exact h
  · exact (((h.modEntry x (Entry.mark_keeps k)).requestWrite x .urgent).setSlot k _).ite
      ((h.setSlot k _).ite h)

theorem retryEntry (h : o.Drifts n s) (d : DriveIx) (x : SectorRef) : o.Drifts n (State.retryEntry d s x) := by
  have t := h.modEntry x (Entry.retryWrite_keeps (s.attached d))
  unfold State.retryEntry
  split
  · exact h
  · split
    · exact (t.provide x true).ite t
    · exact h.modEntry x Entry.retryFill_keeps
    all_goals exact h

end State.Drifts

namespace State.Reshapes

variable {o s : State}

/-! ## The commands on windows -/

theorem stageWindow (h : o.Reshapes s) {w : WinIx} {next : Option Binding}
    (offered : ∀ n, next = some n → Offered s.windows w n) : o.Reshapes (s.stageWindow w next) := by
  have staged {b : Binding} {es : List Entry} (current : (s.window w).current? = some b)
      (entries : (s.window w).entries = es) : o.Reshapes (s.setWindow w (.staged b next es)) := by
    subst entries
    exact h.turn (.stage next current offered)
  unfold State.stageWindow
  split
  · exact h
  · next bound =>
    exact (staged (congrArg Window.current? bound) (congrArg Window.entries bound)).drift
      ((State.Drifts.refl _).enterStaged w)
  · next old => exact staged (congrArg Window.current? old) (congrArg Window.entries old)

theorem giveUpWindow (h : o.Reshapes s) {w : WinIx} {next : Option Binding}
    (own : ∀ n, next = some n → ∃ b es, s.window w = .staged b next es) :
    o.Reshapes (s.giveUpWindow w next) := by
  have detached (ending mine : List RecIx) : ((mine.foldl (fun (t : State) r =>
      t.modRecord r fun q => { q with owner := none }) ((s.failMarks w).dropBursts w ending))).windows
        = s.windows := by
    rw [foldl_keeps State.windows _ (fun t r => t.modRecord_windows r _), State.dropBursts_windows,
      State.failMarks_windows]
  have replaced (ending mine : List RecIx) : o.Reshapes (((mine.foldl (fun (t : State) r =>
      t.modRecord r fun q => { q with owner := none }) ((s.failMarks w).dropBursts w ending))).replaceWindow
        w next) := by
    refine h.turn ?_
    rw [State.replaceWindow_windows, detached]
    exact .giveUp next own
  exact (replaced _ _).drift ((((State.Drifts.refl _).foldl _ (fun _ r ht => ht.endForced r)
    _).handBuffers).noteDiscard w _ _)

theorem linkBind (h : o.Reshapes s) (window : Byte) (record : BindRecord) :
    o.Reshapes (State.linkBind window record s) := by
  unfold State.linkBind
  dsimp only
  split
  · exact h
  · next w b accepted => exact h.turn (.bind (State.judgeBind_ok accepted))

theorem linkStage (h : o.Reshapes s) (window : Byte) (record : BindRecord) :
    o.Reshapes (State.linkStage window record s) := by
  unfold State.linkStage
  dsimp only
  split
  · exact h
  · next w b accepted =>
    have offered (n : Binding) (same : some b = some n) : Offered s.windows w n := by
      cases same
      exact State.judgeStage_ok accepted
    exact ((h.takeCommand 0x11 _).stageWindow offered).respond _ _

theorem linkRelease (h : o.Reshapes s) (window : Byte) : o.Reshapes (State.linkRelease window s) := by
  have t (w : WinIx) : o.Reshapes ((s.takeCommand 0x13 [window, 0]).stageWindow w none) :=
    (h.takeCommand 0x13 _).stageWindow fun _ none => nomatch none
  unfold State.linkRelease
  dsimp only
  split
  · exact h
  · split
    · exact h
    · exact (t _).respond _ _
    · exact (t _).respond _ _

theorem linkForce (h : o.Reshapes s) (window : Byte) : o.Reshapes (State.linkForce window s) := by
  unfold State.linkForce
  dsimp only
  split
  · exact h
  · split
    · exact h
    · exact h
    · next staged => exact ((h.takeCommand 0x12 _).giveUpWindow fun _ _ => ⟨_, _, staged⟩).respond _ _

theorem linkReleaseDiscard (h : o.Reshapes s) (window : Byte) :
    o.Reshapes (State.linkReleaseDiscard window s) := by
  have t (w : WinIx) : o.Reshapes ((s.takeCommand 0x13 [window, 1]).giveUpWindow w none) :=
    (h.takeCommand 0x13 _).giveUpWindow fun _ none => nomatch none
  unfold State.linkReleaseDiscard
  dsimp only
  split
  · exact h
  · split
    · exact h
    · exact (t _).respond _ _
    · exact (t _).respond _ _

/-! ## The other commands -/

theorem linkSecure (h : o.Reshapes s) (target : BitVec 16) (stampLast : Bool) (deadline : BitVec 16) :
    o.Reshapes (State.linkSecure target stampLast deadline s) := by
  have opened (t : State) (k : SlotIx) : t.Drifts 0 (t.openSlot k target stampLast deadline) :=
    (((State.Drifts.refl t).setSlot k _).foldl _ (fun _ x hu => hu.secureEntry k x) _).endSlot k
  unfold State.linkSecure
  dsimp only
  split
  · exact h
  · exact ((h.takeCommand 0x20 _).drift (opened _ _)).respond _ _

theorem linkSecureStatus (h : o.Reshapes s) (slot : Byte) : o.Reshapes (State.linkSecureStatus slot s) := by
  unfold State.linkSecureStatus
  dsimp only
  split
  · exact h
  · split <;> exact h

theorem linkHold (h : o.Reshapes s) (drive : Byte) : o.Reshapes (State.linkHold drive s) := by
  unfold State.linkHold
  dsimp only
  split
  · exact h
  · next d _ =>
    exact ((h.takeCommand 0x30 [drive]).drift (((State.Drifts.refl _).modEngine d).stopForHold d)).respond _ _

theorem linkRun (h : o.Reshapes s) (drive : Byte) : o.Reshapes (State.linkRun drive s) := by
  unfold State.linkRun
  dsimp only
  split
  · exact h
  · next d _ =>
    exact ((h.takeCommand 0x31 [drive]).drift (((State.Drifts.refl _).modEngine d).resume d)).respond _ _

theorem linkAdopt (h : o.Reshapes s) (drive : Byte) : o.Reshapes (State.linkAdopt drive s) := by
  unfold State.linkAdopt
  dsimp only
  split
  · exact h
  · next d _ =>
    exact (((h.takeCommand 0x32 [drive]).drift
      ((((State.Drifts.refl _).modVolume d _).attach d true).raise .volumeArrived)).respond _ _).ite h

theorem linkRetry (h : o.Reshapes s) (drive : Byte) : o.Reshapes (State.linkRetry drive s) := by
  unfold State.linkRetry
  dsimp only
  split
  · exact h
  · next d _ =>
    have entries (l : List SectorRef) := (State.Drifts.refl (s.takeCommand 0x33 [drive])).foldl
      (State.retryEntry d) (fun _ x ht => ht.retryEntry d x) l
    exact ((h.takeCommand 0x33 [drive]).drift (((entries _).modEngine d).resume d)).respond _ _

theorem linkFormat (h : o.Reshapes s) (p : FormatParams) : o.Reshapes (State.linkFormat p s) := by
  unfold State.linkFormat
  dsimp only
  split
  · exact h
  · split
    · next u made =>
      exact ((h.takeCommand 0x34 _).drift ((State.Drifts.refl _).makeOrEvict made)).respond _ _
    · exact h

theorem linkSetDrive (h : o.Reshapes s) (drive stepMs retries : Byte) (halt : Bool) :
    o.Reshapes (State.linkSetDrive drive stepMs retries halt s) := by
  unfold State.linkSetDrive
  dsimp only
  split <;> exact h

theorem linkClearEvents (h : o.Reshapes s) (tag : Byte) (mask : BitVec 24) :
    o.Reshapes (State.linkClearEvents tag mask s) := by
  unfold State.linkClearEvents
  dsimp only
  split <;> exact h

theorem reply (h : o.Reshapes s) (refusal : Result) (x : Option (List Byte)) :
    o.Reshapes (s.reply refusal x) := by
  cases x <;> exact h

theorem linkSetLimits (h : o.Reshapes s) (deferLimit ageLimit : BitVec 16) (blank : Byte) :
    o.Reshapes (State.linkSetLimits deferLimit ageLimit blank s) := by
  have judged := h.drift (State.Drifts.refl s).judgeLimits
  exact judged

theorem linkDo (h : o.Reshapes s) (c : Instr) : o.Reshapes (s.linkDo c) := by
  cases c with
  | bind window record => exact h.linkBind window record
  | stage window record => exact h.linkStage window record
  | force window => exact h.linkForce window
  | release window => exact h.linkRelease window
  | releaseDiscard window => exact h.linkReleaseDiscard window
  | status part => exact (h.takeCommand 0x01 _).reply _ _
  | windowStates window part => exact (h.takeCommand 0x14 _).reply _ _
  | readDrive drive part => exact (h.takeCommand 0x35 _).reply _ _
  | readOutage start => exact (h.takeCommand 0x60 _).reply _ _
  | secure target stampLast deadline => exact h.linkSecure target stampLast deadline
  | secureStatus slot => exact h.linkSecureStatus slot
  | hold drive => exact h.linkHold drive
  | run drive => exact h.linkRun drive
  | adopt drive => exact h.linkAdopt drive
  | retry drive => exact h.linkRetry drive
  | format params => exact h.linkFormat params
  | setDrive drive stepMs retries halt => exact h.linkSetDrive drive stepMs retries halt
  | setLimits deferLimit ageLimit blank => exact h.linkSetLimits deferLimit ageLimit blank
  | clearEvents tag mask => exact h.linkClearEvents tag mask
  | reset => exact (h.takeCommand 0x7F []).warmReset .resetCommand
  | _ => exact h

theorem linkMessage (h : o.Reshapes s) (address : Byte) (bytes : List Byte) :
    o.Reshapes (State.linkMessage address bytes s) := by
  have taken : o.Reshapes (s.takeMessage bytes) := by
    unfold State.takeMessage
    dsimp only
    split
    · exact h.linkDo _
    · exact h
  exact (taken.perform (f := id) fun _ ht => ht).ite h

/-! ## The lines, the supply and the end of a reset -/

theorem raise (h : o.Reshapes s) (e : Event) : o.Reshapes (s.raise e) := h

theorem readyRises (h : o.Reshapes s) (d : DriveIx) (protect : Bool) : o.Reshapes (s.readyRises d protect) :=
  h.ite ((h.modEngine d fun e => { e with ready := true, protect := protect }).work
    fun t => (State.Drifts.refl t).driveRisen d)

theorem readyFalls (h : o.Reshapes s) (d : DriveIx) : o.Reshapes (s.readyFalls d) :=
  (h.modEngine d fun e => { e with ready := false }).work
    (f := fun t => if (t.volume d).state = .empty then t else t.driveFallen d)
    fun t => (State.Drifts.refl t).ite ((State.Drifts.refl t).driveFallen d)

theorem supplyFalls (h : o.Reshapes s) : o.Reshapes s.supplyFalls := by
  have low : o.Reshapes { s with supplyLow := true } := h
  refine h.ite (low.perform fun t ht => ?_)
  have timed : o.Reshapes ({ t with store := { t.store with dipTimer := some 0 } }.raise .supplyDip) := ht
  exact timed.drift (State.Drifts.refl _).setDip

theorem supplyReturns (h : o.Reshapes s) : o.Reshapes s.supplyReturns := by
  unfold State.supplyReturns
  split
  · exact h
  · have calm : o.Reshapes { s with
        supplyLow := false
        store := { s.store with dipTimer := none }
        engines := s.engines.map Engine.undip } := h
    exact calm.drift ((State.Drifts.refl _).foldl State.resume (fun _ d ht => ht.resume d) allDrives)

theorem resetLineActs (h : o.Reshapes s) : o.Reshapes s.resetLineActs := by
  unfold State.resetLineActs
  split
  · exact h
  · exact h
  · exact h.warmReset .resetLine

theorem dipRunsOut (h : o.Reshapes s) : o.Reshapes s.dipRunsOut := by
  unfold State.dipRunsOut
  split
  · exact h
  · exact (h.passTime _).warmReset .longDip

theorem resetEnds (h : o.Reshapes s) : o.Reshapes s.resetEnds := by
  cases power : s.power with
  | off => rwa [State.resetEnds_off (.inl power)]
  | running => rwa [State.resetEnds_off (.inr power)]
  | inReset powerUp raised =>
    have released : o.Reshapes (s.released powerUp) := h
    have risen : o.Reshapes (s.released powerUp).risen := released.drift
      ((State.Drifts.refl _).foldl State.riseIfReady (fun _ d ht => (ht.driveRisen d).ite ht) allDrives).settle
    have reopened : o.Reshapes (s.reopened powerUp raised) := (risen.raise .outageRecorded).ite risen
    rw [State.resetEnds_inReset power]
    exact reopened.foldl State.heldCycle (fun _ c ht => ht.upCycle c) _

/-! ## Every step -/

theorem driveDue (h : o.Reshapes s) (d : DriveIx) : o.Reshapes (s.driveDue d) := by
  have due := h.drift ((State.Drifts.refl s).takeDue d)
  unfold State.driveDue State.engineDue
  dsimp only
  exact due.ite ((due.stepPulse d _).ite
    (((due.drift ((State.Drifts.refl _).seekFails d)).recalibrated d).positioned d))

theorem idle (h : o.Reshapes s) : o.Reshapes s.idle := by
  unfold State.idle
  split
  · exact h
  · exact (h.passTime 1).ite h.resetEnds
  · have judged := h.drift (State.Drifts.refl s).judgeAll.settle
    exact judged.dipRunsOut.ite ((judged.foldl _ (fun _ d ht => ht.driveDue d) _).settle.passTime 1)

/-- Every command changes the windows by turns. -/
theorem exec {c : Instr} {t : State} (h : o.Reshapes s) (e : Machine.exec c s = .next t) : o.Reshapes t := by
  have next {u : State} (hu : o.Reshapes u) (same : Machine.exec c s = .next u) : o.Reshapes t :=
    Host.Outcome.next.inj (same.symm.trans e) ▸ hu
  have done (same : Machine.exec c s = .next (s.perform fun u => u.linkDo c)) : o.Reshapes t :=
    next (h.perform fun _ hu => hu.linkDo c) same
  have told (same : Machine.exec c s = .next (s.whileRunning fun u => u.linkDo c)) : o.Reshapes t :=
    next (h.whileRunning fun _ hu => hu.linkDo c) same
  cases c with
  | upstreamCycle cycle =>
    refine next ?_ rfl
    split
    · exact h
    · exact h
    · exact h.upCycle cycle
  | burstWord => exact next (h.perform fun _ hu => hu.burstTurn) rfl
  | coarseClockAdvance => exact next h.coarseAdvance rfl
  | deferredRecordExpiry =>
    exact next (h.whileRunning fun u hu => hu.drift (State.Drifts.refl u).judgeExpiry) rfl
  | sweep => exact next (h.work fun u => (State.Drifts.refl u).judgeSweep) rfl
  | agePromotion => exact next (h.work fun u => (State.Drifts.refl u).judgeAges) rfl
  | secureDeadline => exact next (h.work fun u => (State.Drifts.refl u).judgeDeadlines) rfl
  | linkWriteMessage address bytes => exact next (h.whileRunning fun _ hu => hu.linkMessage address bytes) rfl
  | bind | stage | force | release | releaseDiscard | secure | hold | run | adopt | retry | format =>
    exact done rfl
  | status | windowStates | secureStatus | readDrive | setDrive | setSweep | setLimits | readEvents
  | clearEvents | setAlertMask | readOutage | clearOutage | reset => exact told rfl
  | swap window =>
    exact next (h.work fun u => by
      have t := State.Drifts.refl u
      unfold State.swapIfQuiet
      split
      · next quiet => exact t.swapWindow quiet
      · exact t) rfl
  | readyLineRise drive protect => exact next (h.readyRises drive protect) rfl
  | readyLineFall drive => exact next (h.readyFalls drive) rfl
  | indexPulse drive elapsed => exact next (h.indexPulse drive elapsed) rfl
  | speedFault drive => exact next (h.work fun u => (State.Drifts.refl u).badPeriods drive) rfl
  | indexLost drive => exact next (h.perform fun _ hu => hu.indexLost drive) rfl
  | headUnload drive =>
    exact next (h.whileRunning fun u hu => hu.drift ((State.Drifts.refl u).unloadHeads drive)) rfl
  | stepPulse drive track0 => exact next (h.whileRunning fun _ hu => hu.stepPulse drive track0) rfl
  | recalibrationEnd drive => exact next (h.perform fun _ hu => hu.recalibrated drive) rfl
  | seekFault drive => exact next (h.work fun u => (State.Drifts.refl u).seekFails drive) rfl
  | positioningEnd drive => exact next (h.perform fun _ hu => hu.positioned drive) rfl
  | idFieldRead drive field =>
    exact next ((h.work fun u => (State.Drifts.refl u).takeDue drive).work
      fun u => (State.Drifts.refl u).idField drive field) rfl
  | miss drive => exact next (h.work fun u => (State.Drifts.refl u).searchMissed drive) rfl
  | dataMarkNotFound drive => exact next (h.work fun u => (State.Drifts.refl u).markMissing drive) rfl
  | dataFieldRead drive data crc =>
    exact next (h.work fun u => (State.Drifts.refl u).fieldRead drive _ crc) rfl
  | dataFieldWritten drive => exact next (h.perform fun _ hu => hu.fieldWritten drive) rfl
  | writeFault drive => exact next (h.work fun u => (State.Drifts.refl u).writeFaulted drive) rfl
  | verifyRead drive data crc => exact next (h.perform fun _ hu => hu.fieldVerified drive _ crc) rfl
  | verifyMiss drive => exact next (h.work fun u => (State.Drifts.refl u).verifyMissed drive) rfl
  | supplyDip => exact next h.supplyFalls rfl
  | shortDip => exact next (h.perform fun _ hu => hu.supplyReturns) rfl
  | longDip => exact next (h.whileRunning fun _ hu => hu.dipRunsOut) rfl
  | resetLine => exact next h.resetLineActs rfl
  | resetEnd => exact next h.resetEnds rfl
  | powerUp standbyKept =>
    exact next (u := s.powersUp standbyKept) (h.turn (.reset s.windows)) rfl
  | mainSupplyFailure cut => exact next (u := s.supplyFails cut) (h.turn (.reset s.windows)) rfl

theorem step {t : State} (h : o.Reshapes s) (e : Machine.step s = .next t) : o.Reshapes t := by
  unfold Machine.step at e
  split at e
  · cases e
    exact h.idle
  · next c rest _ => exact State.Reshapes.exec (s := { s with pending := rest }) h e

end State.Reshapes

/-- Every turn of the windows keeps them well formed and apart. -/
theorem WindowsGood.turns {ws vs : Vector Window 16} (h : WindowsGood ws)
    (turns : Relation.ReflTransGen WindowsTurn ws vs) : WindowsGood vs := by
  induction turns with
  | refl => exact h
  | tail _ turn ih => exact ih.turn turn

/-- Settles O54: a step changes the windows by turns, and each turn keeps them well formed and apart. -/
theorem windowsStayWellFormed : Obligations.WindowsStayWellFormed := by
  refine ⟨by decide, fun s t wf apart e => ?_⟩
  exact t.windowsGood_iff.mpr ((s.windowsGood_iff.mp ⟨wf, apart⟩).turns
    ((State.Reshapes.refl s).step e))

end Sys2Proof.Machine
end

section
/-! SUPPORT. The link commands on windows: their judgement, what BIND does, when FORCE is refused; O26 and O28. -/

namespace Sys2Proof.Machine

open Sys2Proof

/-! ## Window numbers, and the commands as they run -/

theorem windowOf_of_toNat {window : Byte} {w : WinIx} (h : window.toNat = w.val) : windowOf window = some w := by
  have inside : window.toNat < 16 := h ▸ w.isLt
  rw [windowOf, dif_pos inside]
  exact congrArg some (Fin.ext h)

theorem windowOf_of_gt {window : Byte} (h : 15 < window.toNat) : windowOf window = none :=
  dif_neg (by omega)

theorem State.perform_of_running {s : State} (running : s.power = .running) (f : State → State) :
    s.perform f = (f s).settle := if_pos running

section Running

variable {s : State} (running : s.power = .running) (window : Byte)
include running

theorem exec_bind (r : BindRecord) : exec (.bind window r) s = .next (State.linkBind window r s).settle :=
  congrArg Host.Outcome.next (State.perform_of_running running _)

theorem exec_stage (r : BindRecord) : exec (.stage window r) s = .next (State.linkStage window r s).settle :=
  congrArg Host.Outcome.next (State.perform_of_running running _)

theorem exec_force : exec (.force window) s = .next (State.linkForce window s).settle :=
  congrArg Host.Outcome.next (State.perform_of_running running _)

theorem exec_release : exec (.release window) s = .next (State.linkRelease window s).settle :=
  congrArg Host.Outcome.next (State.perform_of_running running _)

theorem exec_releaseDiscard :
    exec (.releaseDiscard window) s = .next (State.linkReleaseDiscard window s).settle :=
  congrArg Host.Outcome.next (State.perform_of_running running _)

end Running

/-! ## BIND and STAGE are judged step by step (R25, R28) -/

theorem State.linkBind_error {s : State} {window : Byte} {r : BindRecord} {x : Result}
    (judged : s.judgeBind window r = .error x) :
    State.linkBind window r s = s.refusedWith (0x10 :: 13 :: window :: bindRecordBytes r) x := by
  rw [State.linkBind, judged]
  rfl

theorem State.linkBind_ok {s : State} {window : Byte} {r : BindRecord} {w : WinIx} {b : Binding}
    (judged : s.judgeBind window r = .ok (w, b)) : State.linkBind window r s =
      ((s.takeCommand 0x10 (window :: bindRecordBytes r)).bindWindow w b).respond .done [] := by
  rw [State.linkBind, judged]

theorem State.linkStage_error {s : State} {window : Byte} {r : BindRecord} {x : Result}
    (judged : s.judgeStage window r = .error x) :
    State.linkStage window r s = s.refusedWith (0x11 :: 13 :: window :: bindRecordBytes r) x := by
  rw [State.linkStage, judged]
  rfl

theorem State.linkStage_ok {s : State} {window : Byte} {r : BindRecord} {w : WinIx} {b : Binding}
    (judged : s.judgeStage window r = .ok (w, b)) : State.linkStage window r s =
      ((s.takeCommand 0x11 (window :: bindRecordBytes r)).stageWindow w (some b)).respond .done [] := by
  rw [State.linkStage, judged]

/-- The judgement of an offered binding, the last step of BIND and STAGE (R25, R28). -/
def State.judgeOffer (s : State) (w : WinIx) (r : BindRecord) : Except Result (WinIx × Binding) :=
  match bindingOf? r with
  | none => .error .badParam
  | some b => if s.conflicts w b then .error .conflict else .ok (w, b)

theorem State.judgeOffer_none {s : State} {r : BindRecord} (w : WinIx) (refused : bindingOf? r = none) :
    s.judgeOffer w r = .error .badParam := by
  rw [State.judgeOffer, refused]

theorem State.judgeOffer_conflict {s : State} {r : BindRecord} {w : WinIx} {b : Binding}
    (binding : bindingOf? r = some b) (conflict : s.conflicts w b = true) :
    s.judgeOffer w r = .error .conflict := by
  simp only [State.judgeOffer, binding, conflict, if_true]

theorem State.judgeOffer_ok {s : State} {r : BindRecord} {w : WinIx} {b : Binding}
    (binding : bindingOf? r = some b) (free : s.conflicts w b = false) :
    s.judgeOffer w r = .ok (w, b) := by
  simp only [State.judgeOffer, binding, free, Bool.false_eq_true, if_false]

section Judged

variable {s : State} {window : Byte} (r : BindRecord)

theorem State.judgeBind_outside (h : windowOf window = none) : s.judgeBind window r = .error .badParam := by
  rw [State.judgeBind, h]

theorem State.judgeStage_outside (h : windowOf window = none) : s.judgeStage window r = .error .badParam := by
  rw [State.judgeStage, h]

variable {w : WinIx} (named : windowOf window = some w)
include named

theorem State.judgeBind_bound (bound : s.window w ≠ .unbound) : s.judgeBind window r = .error .wrongState := by
  simp only [State.judgeBind, named]
  split
  · contradiction
  · rfl
  · rfl

/-- To an UNBOUND window a BIND is judged by its binding alone. -/
theorem State.judgeBind_unbound (unbound : s.window w = .unbound) : s.judgeBind window r =
    s.judgeOffer w r := by
  simp only [State.judgeBind, named, unbound]
  rfl

theorem State.judgeStage_unbound (unbound : s.window w = .unbound) :
    s.judgeStage window r = .error .wrongState := by
  simp only [State.judgeStage, named, unbound]

/-- To a window with a current binding a STAGE is judged by its binding alone. -/
theorem State.judgeStage_bound (bound : s.window w ≠ .unbound) : s.judgeStage window r =
    s.judgeOffer w r := by
  simp only [State.judgeStage, named]
  split
  · contradiction
  · rfl
  · rfl

end Judged

/-! ## BIND (R22 to R27) -/

theorem driveOf_val {b : Byte} {d : DriveIx} (h : driveOf b = some d) : d.val = b.toNat := by
  unfold driveOf at h
  split at h
  · cases h
    rfl
  · cases h

theorem driveOf_of_le {b : Byte} (h : b.toNat ≤ 3) : ∃ d, driveOf b = some d :=
  ⟨_, dif_pos (by omega)⟩

/-- The cylinder of a run's last sector, on one side of the disk and on two (R23). -/
theorem Binding.lastCylinder (b : Binding) (some : 1 ≤ b.count) : (b.diskAddr (b.count - 1)).cylinder =
    if b.sides = 1 then b.cylinder + (b.sector + b.count - 1) / 16
    else (16 * (2 * b.cylinder + b.side) + b.sector + b.count - 1) / 16 / 2 := by
  rw [Binding.diskAddr]
  split
  · exact congrArg (b.cylinder + · / 16) (by omega)
  · exact congrArg (· / 16 / 2) (by omega)

/-- A record whose fields lie in the ranges of R22, its run on the disk, is accepted. -/
theorem bindingOf?_isSome {r : BindRecord} (ranges : 1 ≤ r.count.toNat ∧ r.count.toNat ≤ 64 ∧
    256 * r.page.toNat + 256 * r.count.toNat ≤ 1048576 ∧ r.drive.toNat ≤ 3 ∧ r.cylinder.toNat ≤ 76 ∧
    r.side.toNat ≤ 1 ∧ r.sector.toNat ≤ 15 ∧
    ((r.sides.toNat = 1 ∧ r.cylinder.toNat + (r.sector.toNat + r.count.toNat - 1) / 16 ≤ 76) ∨
     (r.sides.toNat = 2 ∧ (16 * (2 * r.cylinder.toNat + r.side.toNat) + r.sector.toNat +
        r.count.toNat - 1) / 16 / 2 ≤ 76))) : bindingOf? r ≠ none := by
  obtain ⟨low, high, memory, drive, cylinder, side, sector, run⟩ := ranges
  obtain ⟨d, named⟩ := driveOf_of_le drive
  have sides : (storedBinding r d).sides = 1 ∨ (storedBinding r d).sides = 2 := run.imp And.left And.left
  have last : ((storedBinding r d).diskAddr ((storedBinding r d).count - 1)).cylinder ≤ 76 := by
    rw [Binding.lastCylinder _ low]
    obtain ⟨one, run⟩ | ⟨two, run⟩ := run
    · exact (if_pos (c := (storedBinding r d).sides = 1) one).trans_le run
    · have no : (storedBinding r d).sides ≠ 1 := fun one => by
        exact absurd (one.symm.trans two) (by decide)
      exact (if_neg no).trans_le run
  rw [bindingOf?_eq_some.mpr ⟨d, named, rfl, low, high, memory, cylinder, side, sector, sides, last⟩]
  exact Option.some_ne_none _

/-- Settles O26: the record's acceptance by its ranges, then the judgement of BIND step by step, and what an
accepted one changes. -/
theorem bindMakesWindowBound : Obligations.BindMakesWindowBound := by
  refine ⟨fun r => ?_, fun window r s running => ⟨fun w b named unbound binding free => ?_,
    fun outside => ?_, fun w named bound => ?_, fun w named unbound refused => ?_,
    fun w b named unbound binding conflict => ?_⟩⟩
  · split
    · next b accepted =>
      have wf := bindingOf?_wf accepted
      obtain ⟨d, drive, rfl, -⟩ := bindingOf?_eq_some.mp accepted
      exact ⟨wf, rfl, rfl, driveOf_val drive, rfl, rfl, rfl, rfl, rfl, rfl, rfl, rfl, rfl, rfl⟩
    · next refused => exact fun ranges => bindingOf?_isSome ranges refused
  · have judged := (State.judgeBind_unbound r (windowOf_of_toNat named) unbound).trans
      (State.judgeOffer_ok binding free)
    rw [exec_bind running, State.linkBind_ok judged, State.bindWindow, Window.ofBinding_eq]
    rfl
  · rw [exec_bind running, State.linkBind_error (State.judgeBind_outside r (windowOf_of_gt outside))]
  · rw [exec_bind running, State.linkBind_error (State.judgeBind_bound r (windowOf_of_toNat named) bound)]
  · have judged := (State.judgeBind_unbound r (windowOf_of_toNat named) unbound).trans
      (State.judgeOffer_none w refused)
    rw [exec_bind running, State.linkBind_error judged]
  · have judged := (State.judgeBind_unbound r (windowOf_of_toNat named) unbound).trans
      (State.judgeOffer_conflict binding conflict)
    rw [exec_bind running, State.linkBind_error judged]

/-! ## FORCE and RELEASE (R33, R36, R37) -/

section Released

variable {s : State} {window : Byte}

theorem State.linkForce_outside (h : windowOf window = none) :
    State.linkForce window s = s.refusedWith [0x12, 1, window] .badParam := by
  simp only [State.linkForce, h]
  rfl

theorem State.linkRelease_outside (h : windowOf window = none) :
    State.linkRelease window s = s.refusedWith [0x13, 2, window, 0] .badParam := by
  simp only [State.linkRelease, h]
  rfl

theorem State.linkReleaseDiscard_outside (h : windowOf window = none) :
    State.linkReleaseDiscard window s = s.refusedWith [0x13, 2, window, 1] .badParam := by
  simp only [State.linkReleaseDiscard, h]
  rfl

variable {w : WinIx} (named : windowOf window = some w)
include named

theorem State.linkForce_not_staged (h : (s.window w).isStaged = false) :
    State.linkForce window s = s.refusedWith [0x12, 1, window] .wrongState := by
  simp only [State.linkForce, named]
  split
  · rfl
  · rfl
  · next staged => simp [staged, Window.isStaged] at h

theorem State.linkForce_staged {b : Binding} {next : Option Binding} {es : List Entry}
    (staged : s.window w = .staged b next es) : State.linkForce window s =
      ((s.takeCommand 0x12 [window]).giveUpWindow w next).respond .done [] := by
  simp only [State.linkForce, named, staged]

theorem State.linkRelease_unbound (unbound : s.window w = .unbound) :
    State.linkRelease window s = s.refusedWith [0x13, 2, window, 0] .wrongState := by
  simp only [State.linkRelease, named, unbound]
  rfl

theorem State.linkRelease_bound (bound : s.window w ≠ .unbound) : State.linkRelease window s =
    ((s.takeCommand 0x13 [window, 0]).stageWindow w none).respond .done [] := by
  simp only [State.linkRelease, named]
  split
  · contradiction
  · rfl
  · rfl

theorem State.linkReleaseDiscard_unbound (unbound : s.window w = .unbound) :
    State.linkReleaseDiscard window s = s.refusedWith [0x13, 2, window, 1] .wrongState := by
  simp only [State.linkReleaseDiscard, named, unbound]
  rfl

theorem State.linkReleaseDiscard_bound (bound : s.window w ≠ .unbound) : State.linkReleaseDiscard window s =
    ((s.takeCommand 0x13 [window, 1]).giveUpWindow w none).respond .done [] := by
  simp only [State.linkReleaseDiscard, named]
  split
  · contradiction
  · rfl
  · rfl

end Released

theorem Window.isStaged_iff (x : Window) : x.isStaged = true ↔ ∃ b next es, x = .staged b next es := by
  cases x <;> simp [Window.isStaged]

/-! ## Giving a window up leaves the steady part but the last-discard record -/

/-- A record without its entry. -/
def Record.unowned (q : Record) : Record := { q with owner := none }

/-- Window `w` given up, but for the note of what was discarded (R34, R35). -/
def State.givenUp (s : State) (w : WinIx) (next : Option Binding) : State :=
  (((s.recordsOfWindow w).filter s.endsAtForce).foldl State.endForced
    ((((s.recordsOfWindow w).foldl (fun (t : State) r => t.modRecord r Record.unowned)
      ((s.failMarks w).dropBursts w ((s.recordsOfWindow w).filter s.endsAtForce)))).replaceWindow w
        next)).handBuffers

theorem State.giveUpWindow_eq (s : State) (w : WinIx) (next : Option Binding) :
    s.giveUpWindow w next = (s.givenUp w next).noteDiscard w (s.dirtyCount w) (s.binding? w) := rfl

theorem State.failMarks_steady (s : State) (w : WinIx) : (s.failMarks w).steady = s.steady :=
  foldl_keeps State.steady _ (fun t (e : Entry) => by
    split
    · exact t.marksGone_steady true e.marks
    · rfl) _ _

theorem State.dropBursts_steady (s : State) (w : WinIx) (ending : List RecIx) :
    (s.dropBursts w ending).steady = s.steady :=
  (foldl_keeps State.steady _ (fun t r => t.stopCopyOut_steady r) _ _).trans (State.withdraw_steady _ _)

theorem State.endForced_steady (s : State) (r : RecIx) : (s.endForced r).steady = s.steady := by
  unfold State.endForced
  split
  · rfl
  · split
    · rw [State.releaseRecord_steady, State.endOperation_steady, State.steady_bufWait]
    · exact s.releaseRecord_steady r

theorem State.givenUp_steady (s : State) (w : WinIx) (next : Option Binding) :
    (s.givenUp w next).steady = s.steady := by
  rw [State.givenUp, State.handBuffers_steady, foldl_keeps State.steady _ State.endForced_steady,
    State.replaceWindow_steady, foldl_keeps State.steady _ fun t r => t.modRecord_steady r _,
    State.dropBursts_steady, State.failMarks_steady]

theorem State.noteDiscard_link (s : State) (w : WinIx) (count : Nat) (b : Option Binding) :
    (s.noteDiscard w count b).link = s.link := by
  unfold State.noteDiscard
  split
  · dsimp only
    split <;> rfl
  · rfl

theorem State.giveUpWindow_link (s : State) (w : WinIx) (next : Option Binding) :
    (s.giveUpWindow w next).link = s.link := by
  rw [State.giveUpWindow_eq, State.noteDiscard_link]
  exact congrArg Steady.link (s.givenUp_steady w next)

theorem State.settle_link (s : State) : s.settle.link = s.link := congrArg Steady.link s.settle_steady

/-- Settles O28: the refusals of FORCE change nothing but the link, and its answer stands through what
follows at once. -/
theorem forceNeedsStagedWindow : Obligations.ForceNeedsStagedWindow := by
  refine fun window s running => ⟨fun outside => ?_, fun w named idle => ?_, fun w named staged => ?_⟩
  · rw [exec_force running, State.linkForce_outside (windowOf_of_gt outside)]
  · rw [exec_force running, State.linkForce_not_staged (windowOf_of_toNat named) idle]
  · obtain ⟨b, next, es, staged⟩ := (Window.isStaged_iff _).mp staged
    refine ⟨_, exec_force running window, ?_⟩
    rw [State.settle_link, State.linkForce_staged (windowOf_of_toNat named) staged, State.respond,
      State.giveUpWindow_link]
    rfl

end Sys2Proof.Machine
end

section
/-! SUPPORT. All that the lending of buffers and the freeing of records change, and what they leave as it is. -/

namespace Sys2Proof.Machine

open Sys2Proof

/-! ## Fills that begin (R45) -/

/-- One fill begins: its QUEUED entry becomes FILLING. -/
inductive FillStep : Vector Window 16 → Vector Window 16 → Prop
  | mk (ws : Vector Window 16) (w : WinIx) (i : Nat) :
      FillStep ws (ws.set w (ws[w].modEntry i Entry.fillBegins))

theorem Entry.fillBegins_of_ne {e : Entry} (h : e.state ≠ .queued) : e.fillBegins = e := if_neg h

theorem windows_set (ws : Vector Window 16) (w v : WinIx) (x : Window) :
    (ws.set w x)[v] = if v = w then x else ws[v] := by
  simp only [Fin.getElem_fin, Vector.getElem_set, Fin.ext_iff, eq_comm]

/-- An entry that is not QUEUED stays as it is while fills begin. -/
theorem entry_of_fills {ws vs : Vector Window 16} (fills : Relation.ReflTransGen FillStep ws vs)
    {w : WinIx} {i : Nat} {e : Entry} (here : ws[w].entries[i]? = some e) (idle : e.state ≠ .queued) :
    vs[w].entries[i]? = some e := by
  induction fills with
  | refl => exact here
  | tail _ step ih =>
    obtain ⟨v, j⟩ := step
    rw [windows_set]
    split
    · next same =>
      subst same
      rw [Window.entries_modEntry, List.getElem?_modify, ih]
      split
      · exact congrArg some (Entry.fillBegins_of_ne idle)
      · rfl
    · exact ih

theorem modify_eq_self {α : Type} {l : List α} {f : α → α} (h : ∀ a ∈ l, f a = a) (i : Nat) :
    l.modify i f = l := by
  refine List.ext_getElem? fun j => ?_
  rw [List.getElem?_modify]
  cases at_j : l[j]? with
  | none => rfl
  | some a =>
    split
    · exact congrArg some (h a (List.mem_of_getElem? at_j))
    · rfl

/-- A window without a QUEUED entry stays as it is while fills begin. -/
theorem window_of_fills {ws vs : Vector Window 16} (fills : Relation.ReflTransGen FillStep ws vs)
    {w : WinIx} (idle : ∀ e ∈ ws[w].entries, e.state ≠ .queued) : vs[w] = ws[w] := by
  induction fills with
  | refl => rfl
  | tail _ step ih =>
    obtain ⟨v, j⟩ := step
    rw [windows_set]
    split
    · next same =>
      subst same
      rw [ih]
      have still := modify_eq_self (fun e he => Entry.fillBegins_of_ne (idle e he)) j
      cases at_w : ws[w] <;> simp_all [Window.modEntry, Window.entries]
    · exact ih

/-! ## Lending (R91, R109) -/

/-- A record without what the lending of a buffer changes of it. -/
def Record.unlent (q : Record) : Record := { q with buffer := none, copied := false }

theorem Record.same_of_unlent {p q : Record} (h : p.unlent = q.unlent) :
    p.kind = q.kind ∧ p.owner = q.owner ∧ p.urgency = q.urgency ∧ p.phase = q.phase := by
  simp only [Record.unlent, Record.mk.injEq] at h
  obtain ⟨kind, urgency, -, -, -, -, owner, -, -, -, -, -, phase, -⟩ := h
  exact ⟨kind, owner, urgency, phase⟩

/-- The burst unit while a burst runs: it goes on, and what joins the queue serves no entry by itself. -/
def BurstUnit.Joined (b c : BurstUnit) : Prop :=
  b.running ≠ none → c.running = b.running ∧ ∃ l, c.queue = b.queue ++ l ∧ ∀ u ∈ l, u.served = none

theorem BurstUnit.Joined.refl (b : BurstUnit) : b.Joined b := fun _ =>
  ⟨rfl, [], (List.append_nil _).symm, fun _ h => nomatch h⟩

theorem BurstUnit.Joined.trans {a b c : BurstUnit} (h : a.Joined b) (k : b.Joined c) : a.Joined c := by
  intro runs
  obtain ⟨same, l, queue, served⟩ := h runs
  obtain ⟨same', l', queue', served'⟩ := k (same ▸ runs)
  refine ⟨same'.trans same, l ++ l', by rw [queue', queue, List.append_assoc], fun u hu => ?_⟩
  exact (List.mem_append.mp hu).elim (served u) (served' u)

theorem State.burstOf?_served {s : State} {q : BurstRequest} {u : Burst} (made : s.burstOf? q = some u) :
    u.served = none := by
  unfold State.burstOf? at made
  (repeat' split at made) <;> cases made
  rfl

theorem State.joinQueue_joined {s t : State} {q : BurstRequest} {u : Burst} (made : s.burstOf? q = some u) :
    t.bursts.Joined (t.joinQueue u).bursts := fun _ =>
  ⟨rfl, [u], rfl, fun v hv => by cases List.mem_singleton.mp hv; exact State.burstOf?_served made⟩

theorem State.startNext_joined (s : State) :
    ∃ bs, s.startNext = { s with bursts := bs } ∧ s.bursts.Joined bs := by
  obtain e | ⟨v, rest, idle, -, e⟩ := s.startNext_cases <;> rw [e]
  · exact ⟨_, rfl, .refl _⟩
  · exact ⟨_, rfl, fun runs => absurd idle runs⟩

/-- From `s` to `t` buffers have been lent: fills have begun, records hold buffers, engines go to their
work, copy-outs have been requested, and nothing else has changed. -/
def State.Lends (s t : State) : Prop :=
  ∃ ws recs es wait bs, t = { s with
      windows := ws, pool := { s.pool with records := recs }, engines := es, bufWait := wait, bursts := bs } ∧
    Relation.ReflTransGen FillStep s.windows ws ∧
    (∀ r, (t.record? r).map Record.unlent = (s.record? r).map Record.unlent) ∧ s.bursts.Joined bs

namespace State.Lends

variable {s t u : State}

theorem refl (s : State) : s.Lends s := ⟨_, _, _, _, _, rfl, .refl, fun _ => rfl, .refl _⟩

theorem trans (h : s.Lends t) (k : t.Lends u) : s.Lends u := by
  obtain ⟨_, _, _, _, _, rfl, fills, records, joined⟩ := h
  obtain ⟨_, _, _, _, _, rfl, fills', records', joined'⟩ := k
  exact ⟨_, _, _, _, _, rfl, fills.trans fills', fun r => (records' r).trans (records r),
    joined.trans joined'⟩

theorem bufWait (s : State) (l : List DriveIx) : s.Lends { s with bufWait := l } :=
  ⟨_, _, _, _, _, rfl, .refl, fun _ => rfl, .refl _⟩

theorem modEngine (s : State) (d : DriveIx) (f : Engine → Engine) : s.Lends (s.modEngine d f) :=
  ⟨_, _, _, _, _, rfl, .refl, fun _ => rfl, .refl _⟩

theorem fillBegins (s : State) (x : SectorRef) : s.Lends (s.modEntry x Entry.fillBegins) :=
  ⟨_, _, _, _, _, rfl, .single (.mk _ x.win x.idx), fun _ => rfl, .refl _⟩

theorem modRecord (s : State) (r : RecIx) {f : Record → Record}
    (same : ∀ q, (f q).unlent = q.unlent) : s.Lends (s.modRecord r f) := by
  refine ⟨_, _, _, _, _, rfl, .refl, fun r' => ?_, .refl _⟩
  rw [State.modRecord_eq, State.record_setRecord]
  split
  · next at_r =>
    subst at_r
    rw [Option.map_map]
    exact congrArg (Option.map · _) (funext same)
  · rfl

theorem requestBurst (s : State) (q : BurstRequest) : s.Lends (s.requestBurst q) := by
  obtain e | e | ⟨u, made, e⟩ := s.requestBurst_cases q <;> rw [e]
  · exact .refl s
  · exact ⟨_, _, _, _, _, rfl, .refl, fun _ => rfl, fun _ => ⟨rfl, [], (List.append_nil _).symm, fun _ h => nomatch h⟩⟩
  · obtain ⟨bs, next, joins⟩ := (s.joinQueue u).startNext_joined
    rw [next]
    exact ⟨_, _, _, _, _, rfl, .refl, fun _ => rfl, (State.joinQueue_joined made).trans joins⟩

theorem startPositioning (s : State) (d : DriveIx) (r : RecIx) : s.Lends (s.startPositioning d r) := by
  unfold State.startPositioning
  split
  · exact modEngine s d _
  · exact .refl s

theorem giveBuffer (s : State) (d : DriveIx) (r : RecIx) (b : BufIx) : s.Lends (s.giveBuffer d r b) := by
  unfold State.giveBuffer
  split
  · exact .refl s
  · have lent : s.Lends (s.modRecord r fun q => { q with buffer := some b, copied := false }) :=
      modRecord s r fun _ => rfl
    dsimp only
    split
    · exact (lent.trans (fillBegins _ _)).trans (startPositioning _ d r)
    · exact (lent.trans (fillBegins _ _)).trans (startPositioning _ d r)
    · exact (lent.trans (requestBurst _ _)).trans (startPositioning _ d r)
    · exact lent.trans (startPositioning _ d r)

theorem handBuffer (s : State) (b : BufIx) : s.Lends (s.handBuffer b) := by
  obtain e | ⟨d, rest, -, -, e | ⟨r, -, -, e⟩⟩ := s.handBuffer_cases b <;> rw [e]
  · exact .refl s
  · exact bufWait s rest
  · exact (bufWait s rest).trans (giveBuffer _ d r b)

theorem handBuffers (s : State) : s.Lends s.handBuffers :=
  foldl_invariant s.Lends State.handBuffer (fun _ b ht => ht.trans (handBuffer _ b)) allBuffers s (.refl s)

theorem pool_rest (h : s.Lends t) : t.pool.backlog = s.pool.backlog ∧ t.pool.order = s.pool.order := by
  obtain ⟨_, _, _, _, _, rfl, -⟩ := h
  exact ⟨rfl, rfl⟩

theorem record (h : s.Lends t) (r : RecIx) :
    (t.record? r).map Record.unlent = (s.record? r).map Record.unlent := by
  obtain ⟨_, _, _, _, _, -, -, records, -⟩ := h
  exact records r

theorem fills (h : s.Lends t) : Relation.ReflTransGen FillStep s.windows t.windows := by
  obtain ⟨_, _, _, _, _, rfl, fills, -⟩ := h
  exact fills

theorem joined (h : s.Lends t) : s.bursts.Joined t.bursts := by
  obtain ⟨_, _, _, _, _, rfl, -, -, joined⟩ := h
  exact joined

end State.Lends

/-! ## Records that are freed and handed on (R73) -/

/-- A record that has been handed on: a stamp read, or an URGENT write-back for an entry that was on the
Backlog List `l`. -/
def Record.HandedOn (l : List SectorRef) (q : Record) : Prop :=
  (q.kind = .stampRead ∧ q.owner = none) ∨
    (q.kind = .writeback ∧ q.urgency = .urgent ∧ ∃ x ∈ l, q.owner = some x)

theorem State.handOutEntry?_mem {s : State} {x : SectorRef} (h : s.handOutEntry? = some x) :
    x ∈ s.pool.backlog := List.mem_of_find?_eq_some h

/-- A record is freed and handed on: only the pool changes; the record is free or has been handed on, the
others stand, and the Backlog List can only lose an entry. -/
theorem State.releaseRecord_spec (s : State) (r : RecIx) :
    ∃ p, s.releaseRecord r = { s with pool := p } ∧
      (∀ r', r' ≠ r → (s.releaseRecord r).record? r' = s.record? r') ∧
      (∀ q, (s.releaseRecord r).record? r = some q → q.HandedOn s.pool.backlog) ∧
      (∀ x ∈ p.backlog, x ∈ s.pool.backlog) ∧
      ∀ x ∈ s.pool.backlog, x ∈ p.backlog ∨ ∃ q, (s.releaseRecord r).record? r = some q ∧ q.owner = some x := by
  rw [State.releaseRecord]
  have dropped (r' : RecIx) (h : r' ≠ r) : (s.dropRecord r).record? r' = s.record? r' := by
    rw [State.record_dropRecord, if_neg h]
  obtain ⟨-, -, e⟩ | ⟨d, rest, -, e⟩ | ⟨x, y, -, next, -, e⟩ := (s.dropRecord r).handOut_cases r <;> rw [e]
  · refine ⟨_, rfl, dropped, fun q hq => ?_, fun _ h => h, fun _ h => .inl h⟩
    rw [State.record_dropRecord, if_pos rfl] at hq
    cases hq
  · refine ⟨_, rfl, fun r' h => ?_, fun q hq => ?_, fun _ h => h, fun _ h => .inl h⟩
    · rw [State.record_makeRecord, if_neg h]
      exact dropped r' h
    · rw [State.record_makeRecord, if_pos rfl] at hq
      cases hq
      exact .inl ⟨rfl, rfl⟩
  · refine ⟨_, rfl, fun r' h => ?_, fun q hq => ?_, fun z hz => List.mem_of_mem_filter hz, fun z hz => ?_⟩
    · rw [State.record_makeRecord, if_neg h]
      exact dropped r' h
    · rw [State.record_makeRecord, if_pos rfl] at hq
      cases hq
      exact .inr ⟨rfl, rfl, x, State.handOutEntry?_mem (s := s.dropRecord r) next, rfl⟩
    · by_cases same : z = x
      · subst same
        exact .inr ⟨_, by rw [State.record_makeRecord, if_pos rfl], rfl⟩
      · exact .inl (List.mem_filter.mpr ⟨hz, decide_eq_true same⟩)

end Sys2Proof.Machine
end

section
/-! SUPPORT. A window given up, part by part (R34, R35, R37): marks that fail, bursts dropped, records ended. -/

namespace Sys2Proof.Machine

open Sys2Proof

/-! ## Events that stay raised (R169) -/

/-- Every event that is raised in `u` is raised in `v`. -/
def EventUnit.Grows (u v : EventUnit) : Prop := ∀ e, u.raised e = true → v.raised e = true

theorem EventUnit.Grows.refl (u : EventUnit) : u.Grows u := fun _ h => h

theorem EventUnit.Grows.trans {u v x : EventUnit} (h : u.Grows v) (k : v.Grows x) : u.Grows x :=
  fun e he => k e (h e he)

theorem EventUnit.grows_raise (u : EventUnit) (f : Event) : u.Grows (u.raise f) := fun e h => by
  have again : (u.raise f).again.getLsbD e.number = (u.again.getLsbD e.number || decide (e.number = f.number)) :=
    EventUnit.raise_flags ⟨u.again, u.again, u.mask, u.readTag⟩ f e.number
  rw [EventUnit.raised] at h ⊢
  rw [EventUnit.raise_flags, again, ← Bool.or_and_distrib_right, h, Bool.true_or]

/-! ## Marks that are counted as failures (R34, R152) -/

/-- From `s` to `t` slot `k`, ACTIVE in `s`, has lost `m` of its marks by failures, at the coarse time of
`s`: with none left it has ended DONE-FAILED. -/
def State.Lost (s t : State) (k : SlotIx) (m : Nat) : Prop :=
  t.clock = s.clock ∧ (m ≤ (s.slot k).remaining →
    (t.slot k).remaining = (s.slot k).remaining - m ∧ (t.slot k).failed = (s.slot k).failed + m ∧
    (t.slot k).taken = (s.slot k).taken ∧
    (m < (s.slot k).remaining ∨ m = 0 → (t.slot k).state = .active) ∧
    (0 < m → m = (s.slot k).remaining → (t.slot k).state = .doneFailed ∧
      (t.slot k).ended = some s.clock.coarse ∧ t.events.raised .secureDone = true))

theorem State.endSlot_grows (s : State) (k : SlotIx) : s.events.Grows (s.endSlot k).events := by
  unfold State.endSlot
  split
  · exact EventUnit.grows_raise _ _
  · exact .refl _

theorem State.markGone_grows (s : State) (failure : Bool) (k : SlotIx) :
    s.events.Grows (s.markGone failure k).events := by
  unfold State.markGone
  split
  · exact State.endSlot_grows (s.setSlot k _) k
  · exact .refl _

theorem State.endSlot_slot_other (s : State) {j k : SlotIx} (h : k ≠ j) : (s.endSlot j).slot k = s.slot k := by
  unfold State.endSlot
  split
  · exact State.slot_setSlot_other s _ h
  · rfl

theorem State.markGone_slot_other (s : State) (failure : Bool) {j k : SlotIx} (h : k ≠ j) :
    (s.markGone failure j).slot k = s.slot k := by
  unfold State.markGone
  split
  · rw [State.endSlot_slot_other _ h, State.slot_setSlot_other s _ h]
  · rfl

theorem State.markGone_clock (s : State) (failure : Bool) (k : SlotIx) :
    (s.markGone failure k).clock = s.clock := congrArg Steady.clock (s.markGone_steady failure k)

/-- A failed mark of an ACTIVE slot that is not its last is counted; the last one ends the slot (R152). -/
theorem State.markGone_fails {s : State} {k : SlotIx} (active : (s.slot k).state = .active) :
    ((s.slot k).remaining ≠ 1 → 0 < (s.slot k).remaining →
      (s.markGone true k).slot k = { s.slot k with
        remaining := (s.slot k).remaining - 1, failed := (s.slot k).failed + 1 }) ∧
    ((s.slot k).remaining = 1 → (s.markGone true k).slot k = { s.slot k with
        state := .doneFailed, ended := some s.clock.coarse, remaining := 0, failed := (s.slot k).failed + 1 } ∧
      (s.markGone true k).events.raised .secureDone = true) := by
  rw [State.markGone, if_pos active, State.endSlot, State.slot_setSlot_self]
  refine ⟨fun more some => ?_, fun last => ?_⟩
  · have left : (s.slot k).remaining - 1 ≠ 0 := by omega
    rw [if_neg fun ended => left ended.2, State.slot_setSlot_self]
    rfl
  · rw [if_pos ⟨active, by rw [last]⟩]
    refine ⟨?_, EventUnit.raised_raise _ _⟩
    refine (State.slot_setSlot_self _ k _).trans ?_
    simp [last]

theorem allSlots_count : ∀ k, allSlots.count k = 1 := by decide

namespace State.Lost

variable {s t : State} {k : SlotIx} {m : Nat}

/-- Slot `k` stands, and the events grow. -/
theorem still (h : s.Lost t k m) {u : State} (clock : u.clock = t.clock) (slot : u.slot k = t.slot k)
    (grows : t.events.Grows u.events) : s.Lost u k m := by
  obtain ⟨time, counts⟩ := h
  refine ⟨clock.trans time, fun le => ?_⟩
  obtain ⟨remaining, failed, taken, active, done⟩ := counts le
  rw [slot]
  refine ⟨remaining, failed, taken, active, fun some all => ?_⟩
  obtain ⟨state, ended, raised⟩ := done some all
  exact ⟨state, ended, grows _ raised⟩

/-- One mark more of slot `k` fails. -/
theorem mark (h : s.Lost t k m) : s.Lost (t.markGone true k) k (m + 1) := by
  obtain ⟨time, counts⟩ := h
  refine ⟨(t.markGone_clock true k).trans time, fun le => ?_⟩
  obtain ⟨remaining, failed, taken, active, -⟩ := counts (by omega)
  obtain ⟨more, last⟩ := State.markGone_fails (active (.inl le))
  by_cases all : (t.slot k).remaining = 1
  · obtain ⟨slot, raised⟩ := last all
    rw [slot, ← time]
    exact ⟨by dsimp only; omega, by dsimp only; omega, taken, fun h => by omega, fun _ _ => ⟨rfl, rfl, raised⟩⟩
  · rw [more all (by omega)]
    exact ⟨by dsimp only; omega, by dsimp only; omega, taken, fun _ => active (.inl le), fun _ h => by omega⟩

theorem markGone (h : s.Lost t k m) (j : SlotIx) :
    s.Lost (t.markGone true j) k (m + if j = k then 1 else 0) := by
  split
  · next same => exact same ▸ h.mark
  · next other =>
    exact h.still (t.markGone_clock true j) (t.markGone_slot_other true (Ne.symm other)) (t.markGone_grows true j)

/-- The marks of one entry fail. -/
theorem marksGone (h : s.Lost t k m) (marks : BitVec 4) :
    s.Lost (t.marksGone true marks) k (m + if marks.getLsbD k.val then 1 else 0) := by
  have each (l : List SlotIx) (t : State) (m : Nat) (h : s.Lost t k m) :
      s.Lost (l.foldl (fun t j => if marks.getLsbD j.val then t.markGone true j else t) t) k
        (m + if marks.getLsbD k.val then l.count k else 0) := by
    induction l generalizing t m with
    | nil => simpa using h
    | cons j l ih =>
      rw [List.foldl_cons, List.count_cons]
      by_cases here : marks.getLsbD j.val = true
      · rw [if_pos here]
        have next := ih _ _ (h.markGone j)
        convert next using 1
        by_cases same : j = k
        · subst same
          simp only [here, if_true, beq_self_eq_true]
          omega
        · simp [same]
      · rw [if_neg here]
        convert ih _ _ h using 1
        by_cases same : j = k
        · subst same
          rw [if_neg here, if_neg here]
        · simp [same]
  have all := each allSlots t m h
  rwa [allSlots_count k] at all

/-- The marks of the dirty entries of a list fail, entry by entry. -/
theorem entries (h : s.Lost t k m) (l : List Entry) :
    s.Lost (l.foldl (fun t e => if e.state.isDirty then t.marksGone true e.marks else t) t) k
      (m + l.countP fun e => e.state.isDirty && e.marks.getLsbD k.val) := by
  induction l generalizing t m with
  | nil => exact h
  | cons e l ih =>
    rw [List.foldl_cons, List.countP_cons]
    by_cases dirty : e.state.isDirty = true
    · rw [if_pos dirty]
      convert ih (h.marksGone e.marks) using 1
      simp only [dirty, Bool.true_and]
      omega
    · rw [if_neg dirty]
      convert ih h using 1
      simp [dirty]

end State.Lost

/-- The secure marks of window `w`'s dirty entries fail. -/
theorem State.failMarks_lost {s : State} {k : SlotIx} (active : (s.slot k).state = .active) (w : WinIx) :
    s.Lost (s.failMarks w) k
      ((s.window w).entries.countP fun e => e.state.isDirty && e.marks.getLsbD k.val) := by
  have none : s.Lost s k 0 :=
    ⟨rfl, fun _ => ⟨rfl, rfl, rfl, fun _ => active, fun some _ => absurd some (Nat.lt_irrefl 0)⟩⟩
  have all := none.entries (s.window w).entries
  rwa [Nat.zero_add] at all

end Sys2Proof.Machine
end

section
/-! SUPPORT. A window given up (R34, R35, R37): O30. -/

namespace Sys2Proof.Machine

open Sys2Proof

/-! ## Bursts that are withdrawn or stopped (R113, R116, R117) -/

theorem State.placeFreed_joined (s : State) (d : DriveIx) :
    ∃ bs, s.placeFreed d = { s with bursts := bs } ∧ s.bursts.Joined bs := by
  unfold State.placeFreed
  split
  · exact ⟨_, rfl, .refl _⟩
  · dsimp only
    split
    · next made => exact ⟨_, rfl, State.joinQueue_joined made⟩
    · exact ⟨_, rfl, fun _ => ⟨rfl, [], (List.append_nil _).symm, fun _ h => nomatch h⟩⟩

/-- Waiting bursts are withdrawn: only the burst unit changes, and what joins its queue serves no entry. -/
theorem State.withdraw_joined (s : State) (p : Burst → Bool) :
    ∃ bs, s.withdraw p = { s with bursts := bs } ∧
      { s.bursts with queue := s.bursts.queue.filter fun u => !p u }.Joined bs := by
  have freed (l : List Burst) (t : State) :
      ∃ bs, l.foldl (fun (t : State) u => t.placeFreed u.drive) t = { t with bursts := bs } ∧
        t.bursts.Joined bs := by
    induction l generalizing t with
    | nil => exact ⟨_, rfl, .refl _⟩
    | cons u l ih =>
      obtain ⟨bs, one, joined⟩ := t.placeFreed_joined u.drive
      obtain ⟨bs', rest, joined'⟩ := ih (t.placeFreed u.drive)
      rw [List.foldl_cons, rest, one]
      rw [one] at joined'
      exact ⟨bs', rfl, joined.trans joined'⟩
  obtain ⟨bs, places, joined⟩ := freed (s.bursts.queue.filter p)
    { s with bursts := { s.bursts with queue := s.bursts.queue.filter fun u => !p u } }
  obtain ⟨bs', next, joined'⟩ := State.startNext_joined { s with bursts := bs }
  refine ⟨bs', ?_, joined.trans joined'⟩
  rw [State.withdraw]
  dsimp only
  rw [places, next]

theorem State.stopCopyOut_bursts (s : State) (r : RecIx) : ∃ bs, s.stopCopyOut r = { s with bursts := bs } := by
  have ended : ∃ bs, s.endRunning = { s with bursts := bs } := by
    unfold State.endRunning
    split
    · exact ⟨_, rfl⟩
    · next u _ =>
      obtain ⟨bs, freed, -⟩ := State.placeFreed_joined
        { s with bursts := { s.bursts with running := none, owed := false } } u.drive
      obtain ⟨bs', next, -⟩ := State.startNext_joined { s with bursts := bs }
      rw [freed, next]
      exact ⟨bs', rfl⟩
  unfold State.stopCopyOut
  split
  · split
    · exact ended
    · exact ⟨_, rfl⟩
  · exact ⟨_, rfl⟩

theorem State.dropBursts_bursts (s : State) (w : WinIx) (ending : List RecIx) :
    ∃ bs, s.dropBursts w ending = { s with bursts := bs } := by
  rw [State.dropBursts]
  refine foldl_invariant (fun t => ∃ bs, t = { s with bursts := bs }) State.stopCopyOut (fun t r ht => ?_)
    ending _ ?_
  · obtain ⟨bs, rfl⟩ := ht
    obtain ⟨bs', e⟩ := State.stopCopyOut_bursts { s with bursts := bs } r
    exact ⟨bs', e⟩
  · obtain ⟨bs, e, -⟩ := State.withdraw_joined _ _
    exact ⟨bs, e⟩

/-! ## Records that are detached or end (R35, R115) -/

/-- The records `l` are detached, and nothing else changes. -/
theorem State.detach_spec (s : State) (l : List RecIx) :
    ∃ recs, l.foldl (fun (t : State) r => t.modRecord r Record.unowned) s =
        { s with pool := { s.pool with records := recs } } ∧
      ∀ r, recs[r] = if r ∈ l then (s.record? r).map Record.unowned else s.record? r := by
  induction l generalizing s with
  | nil => exact ⟨_, rfl, fun _ => rfl⟩
  | cons r l ih =>
    obtain ⟨recs, rest, detached⟩ := ih (s.modRecord r Record.unowned)
    refine ⟨recs, rest, fun r' => (detached r').trans ?_⟩
    have twice : (s.record? r).map (Record.unowned ∘ Record.unowned) = (s.record? r).map Record.unowned := rfl
    rw [State.modRecord_eq, State.record_setRecord]
    by_cases same : r' = r
    · simp [same, twice]
    · simp [same]

/-- A record ends: the pool, the engines and the buffer wait list change; the other records stand, and the
Backlog List can only lose an entry. -/
theorem State.endForced_spec (s : State) (r : RecIx) :
    ∃ p es wait, s.endForced r = { s with pool := p, engines := es, bufWait := wait } ∧
      (∀ r', r' ≠ r → p.records[r'] = s.pool.records[r']) ∧ ∀ x ∈ p.backlog, x ∈ s.pool.backlog := by
  unfold State.endForced
  split
  · exact ⟨_, _, _, rfl, fun _ _ => rfl, fun _ h => h⟩
  · next q _ =>
    split
    · obtain ⟨p, freed, others, -, backlog, -⟩ := State.releaseRecord_spec
        ({ s with bufWait := s.bufWait.filter (· ≠ q.drive) }.endOperation q.drive) r
      rw [freed] at others ⊢
      exact ⟨p, _, _, rfl, others, backlog⟩
    · obtain ⟨p, freed, others, -, backlog, -⟩ := s.releaseRecord_spec r
      rw [freed] at others ⊢
      exact ⟨p, _, _, rfl, others, backlog⟩

theorem State.endForced_all (s : State) (l : List RecIx) :
    ∃ p es wait, l.foldl State.endForced s = { s with pool := p, engines := es, bufWait := wait } ∧
      (∀ r, r ∉ l → p.records[r] = s.pool.records[r]) ∧ ∀ x ∈ p.backlog, x ∈ s.pool.backlog := by
  induction l generalizing s with
  | nil => exact ⟨_, _, _, rfl, fun _ _ => rfl, fun _ h => h⟩
  | cons r l ih =>
    obtain ⟨p, es, wait, one, others, backlog⟩ := s.endForced_spec r
    obtain ⟨p', es', wait', rest, others', backlog'⟩ := ih (s.endForced r)
    rw [one] at others' backlog'
    refine ⟨p', es', wait', ?_, fun r' h => ?_, fun x hx => backlog x (backlog' x hx)⟩
    · rw [List.foldl_cons, rest, one]
    · rw [List.mem_cons, not_or] at h
      exact (others' r' h.2).trans (others r' h.1)

/-! ## The binding that takes the window's place -/

theorem State.dropBoundId_grows (s : State) (d : DriveIx) : s.events.Grows (s.dropBoundId d).events := by
  unfold State.dropBoundId
  split
  · next none =>
    have attached (f : Volume → Volume) : ((s.modVolume d f).attach d false).events = s.events := by
      have entries (g : Volume → Volume) : ((s.modVolume d f).modVolume d g).refsOfDrive d = [] := by
        change (s.windowsOfDrive d).flatMap _ = []
        rw [none, List.flatMap_nil]
      rw [State.attach, entries]
      rfl
    split
    · intro e h
      exact EventUnit.grows_raise _ _ e (by rwa [attached])
    · exact .refl _
  · exact .refl _

theorem State.replaceWindow_grows (s : State) (w : WinIx) (next : Option Binding) :
    s.events.Grows (s.replaceWindow w next).events := by
  have dropped (t : State) (same : t.events = s.events) :
      s.events.Grows (match s.binding? w with
        | some b => t.dropBoundId b.drive
        | none => t).events := by
    rw [← same]
    split
    · exact t.dropBoundId_grows _
    · exact .refl _
  cases next with
  | none => exact dropped _ rfl
  | some b => exact dropped _ rfl

/-! ## What a window given up leaves (R34, R35) -/

/-- From `s` to `t` window `w` has been given up, before buffers are lent: `next` is current in it, its
traces are gone, its secure marks have failed, and its records that go on are detached. -/
structure State.Emptied (s t : State) (w : WinIx) (next : Option Binding) : Prop where
  windows : t.windows = s.windows.set w (Window.ofBinding next)
  deferred : t.path.deferred = (s.forgetWindow w).path.deferred
  backlog : ∀ x ∈ t.pool.backlog, x.win ≠ w
  slots : t.slots = (s.failMarks w).slots
  events : (s.failMarks w).events.Grows t.events
  records : ∀ r ∈ s.recordsOfWindow w, s.endsAtForce r = false →
    t.record? r = (s.record? r).map Record.unowned

theorem State.endSlot_eq (s : State) (k : SlotIx) :
    ∃ slots events, s.endSlot k = { s with slots := slots, events := events } := by
  unfold State.endSlot
  split
  · exact ⟨_, _, rfl⟩
  · exact ⟨s.slots, s.events, rfl⟩

theorem State.markGone_eq (s : State) (failure : Bool) (k : SlotIx) :
    ∃ slots events, s.markGone failure k = { s with slots := slots, events := events } := by
  unfold State.markGone
  split
  · obtain ⟨slots, ev, e⟩ := State.endSlot_eq (s.setSlot k _) k
    exact ⟨slots, ev, e⟩
  · exact ⟨s.slots, s.events, rfl⟩

theorem State.failMarks_eq (s : State) (w : WinIx) :
    ∃ slots events, s.failMarks w = { s with slots := slots, events := events } := by
  refine foldl_invariant (fun t : State => ∃ slots events, t = { s with slots := slots, events := events }) _
    (fun t e ht => ?_) _ _ ⟨s.slots, s.events, rfl⟩
  split
  · refine foldl_invariant (fun t : State => ∃ slots events, t = { s with slots := slots, events := events }) _
      (fun t j ht => ?_) _ _ ht
    split
    · obtain ⟨_, _, rfl⟩ := ht
      obtain ⟨slots, events, e⟩ := State.markGone_eq _ true j
      exact ⟨slots, events, e⟩
    · exact ht
  · exact ht

theorem State.mem_recordsOfWindow {s : State} {w : WinIx} {r : RecIx} {q : Record} {y : SectorRef}
    (used : r ∈ s.pool.order) (record : s.record? r = some q) (owner : q.owner = some y) (mine : y.win = w) :
    r ∈ s.recordsOfWindow w := by
  refine List.mem_filter.mpr ⟨used, ?_⟩
  rw [record]
  exact decide_eq_true (by rw [owner]; exact congrArg some mine)

/-- The window's marks have failed, its bursts are dropped and its records detached: nothing else has
changed. -/
theorem State.detached_eq (s : State) (w : WinIx) (ending : List RecIx) :
    ∃ bs recs, (s.recordsOfWindow w).foldl (fun (t : State) r => t.modRecord r Record.unowned)
        ((s.failMarks w).dropBursts w ending) =
        { s.failMarks w with bursts := bs, pool := { s.pool with records := recs } } ∧
      ∀ r ∈ s.recordsOfWindow w, recs[r] = (s.record? r).map Record.unowned := by
  obtain ⟨slots, events, failed⟩ := s.failMarks_eq w
  obtain ⟨bs, dropped⟩ := (s.failMarks w).dropBursts_bursts w ending
  obtain ⟨recs, detached, owners⟩ :=
    State.detach_spec ((s.failMarks w).dropBursts w ending) (s.recordsOfWindow w)
  refine ⟨bs, recs, ?_, fun r mine => ?_⟩
  · rw [detached, dropped, failed]
  · rw [owners, if_pos mine, dropped, failed]
    rfl

/-- The binding is replaced and the records end. -/
theorem State.Emptied.replaced {s m : State} {w : WinIx} (next : Option Binding) (windows : m.windows = s.windows)
    (path : m.path = s.path) (slots : m.slots = (s.failMarks w).slots)
    (events : m.events = (s.failMarks w).events)
    (records : ∀ r ∈ s.recordsOfWindow w, m.record? r = (s.record? r).map Record.unowned) :
    s.Emptied (((s.recordsOfWindow w).filter s.endsAtForce).foldl State.endForced (m.replaceWindow w next))
      w next := by
  obtain ⟨p, es, wait, ended, others, shrinks⟩ := State.endForced_all (m.replaceWindow w next)
    ((s.recordsOfWindow w).filter s.endsAtForce)
  have grows := m.replaceWindow_grows w next
  obtain ⟨vs, ev, rebound, -⟩ := m.rebound_replaceWindow w next
  rw [rebound] at ended others shrinks grows
  rw [rebound, ended]
  refine ⟨?_, ?_, fun x hx => ?_, slots, fun e h => grows e (by rwa [events]),
    fun r mine goesOn => ?_⟩
  · change m.windows.set w (Window.ofBinding next) = _
    rw [windows]
  · change (m.forgetWindow w).path.deferred = _
    rw [State.forgetWindow, path]
    rfl
  · exact of_decide_eq_true (List.mem_filter.mp (shrinks x hx)).2
  · have stays : r ∉ (s.recordsOfWindow w).filter s.endsAtForce := fun h => by
      rw [(List.mem_filter.mp h).2] at goesOn
      cases goesOn
    exact (others r stays).trans (records r mine)

/-- A window given up is emptied, and then the freed buffers are lent. -/
theorem State.givenUp_emptied (s : State) (w : WinIx) (next : Option Binding) :
    ∃ t, s.Emptied t w next ∧ t.Lends (s.givenUp w next) := by
  refine ⟨_, ?_, State.Lends.handBuffers _⟩
  obtain ⟨slots, events, failed⟩ := s.failMarks_eq w
  obtain ⟨bs, recs, detached, owners⟩ := s.detached_eq w ((s.recordsOfWindow w).filter s.endsAtForce)
  rw [detached]
  refine .replaced next ?_ ?_ rfl rfl owners
  · exact s.failMarks_windows w
  · exact (congrArg State.path failed).trans rfl

/-! ## The note of what was discarded (R34) -/

theorem State.noteDiscard_none (s : State) (w : WinIx) (b : Option Binding) : s.noteDiscard w 0 b = s := by
  cases b <;> rfl

theorem State.noteDiscard_some (s : State) (w : WinIx) {n : Nat} (b : Binding) (some_lost : 0 < n) :
    s.noteDiscard w n (some b) = State.raise { s with
      lastDiscard := some { win := w, count := n, drive := b.drive, time := s.clock.coarse } } .discarded :=
  if_neg (Nat.ne_of_gt some_lost)

/-- The note changes only the last-discard record and the events, which grow. -/
theorem State.noteDiscard_eq (s : State) (w : WinIx) (n : Nat) (b : Option Binding) :
    ∃ note ev, s.noteDiscard w n b = { s with lastDiscard := note, events := ev } ∧ s.events.Grows ev := by
  unfold State.noteDiscard
  split
  · dsimp only
    split
    · exact ⟨s.lastDiscard, s.events, rfl, .refl _⟩
    · exact ⟨_, _, rfl, EventUnit.grows_raise _ _⟩
  · exact ⟨s.lastDiscard, s.events, rfl, .refl _⟩

/-! ## The outcome of giving a window up -/

/-- The entries of a new binding wait for nothing. -/
theorem Window.ofBinding_idle (next : Option Binding) :
    ∀ e ∈ (Window.ofBinding next).entries, e.state ≠ .queued := by
  intro e he
  cases next with
  | none => cases he
  | some b =>
    obtain ⟨a, -, rfl⟩ := List.mem_map.mp he
    exact fun h => by cases h

section GivenUp

variable (s : State) (w : WinIx) (next : Option Binding)

theorem State.giveUpWindow_window :
    (s.giveUpWindow w next).window w = Window.ofBinding next := by
  obtain ⟨t, emptied, lent⟩ := s.givenUp_emptied w next
  obtain ⟨note, ev, noted, -⟩ := (s.givenUp w next).noteDiscard_eq w (s.dirtyCount w) (s.binding? w)
  have made : t.windows[w] = Window.ofBinding next := by rw [emptied.windows, windows_set, if_pos rfl]
  rw [State.giveUpWindow_eq, noted]
  exact (window_of_fills lent.fills (made ▸ Window.ofBinding_idle next)).trans made

theorem State.giveUpWindow_entry {x : SectorRef} {e : Entry} (other : x.win ≠ w) (entry : s.entry? x = some e)
    (dirty : e.state.isDirty = true) : (s.giveUpWindow w next).entry? x = some e := by
  obtain ⟨t, emptied, lent⟩ := s.givenUp_emptied w next
  obtain ⟨note, ev, noted, -⟩ := (s.givenUp w next).noteDiscard_eq w (s.dirtyCount w) (s.binding? w)
  have stays : t.windows[x.win] = s.windows[x.win] := by rw [emptied.windows, windows_set, if_neg other]
  rw [State.giveUpWindow_eq, noted]
  refine entry_of_fills lent.fills (by rw [stays]; exact entry) fun queued => ?_
  rw [queued] at dirty
  cases dirty

/-- Buffers are lent and the discard noted: what `Emptied` says of the other parts stands. -/
theorem State.giveUpWindow_rest : (s.giveUpWindow w next).path.deferred = (s.forgetWindow w).path.deferred ∧
    (∀ x ∈ (s.giveUpWindow w next).pool.backlog, x.win ≠ w) ∧
    (s.giveUpWindow w next).slots = (s.failMarks w).slots ∧
    (s.failMarks w).events.Grows (s.giveUpWindow w next).events := by
  obtain ⟨t, emptied, lent⟩ := s.givenUp_emptied w next
  obtain ⟨note, ev, noted, grows⟩ := (s.givenUp w next).noteDiscard_eq w (s.dirtyCount w) (s.binding? w)
  obtain ⟨ws, recs, es, wait, bs, same, -⟩ := lent
  rw [same] at grows noted
  rw [State.giveUpWindow_eq, same, noted]
  exact ⟨emptied.deferred, emptied.backlog, emptied.slots, emptied.events.trans grows⟩

theorem State.giveUpWindow_lost {k : SlotIx} (active : (s.slot k).state = .active) :
    s.Lost (s.giveUpWindow w next) k
      ((s.window w).entries.countP fun e => e.state.isDirty && e.marks.getLsbD k.val) := by
  obtain ⟨-, -, slots, grows⟩ := s.giveUpWindow_rest w next
  have clock : (s.giveUpWindow w next).clock = (s.failMarks w).clock := by
    obtain ⟨note, ev, noted, -⟩ := (s.givenUp w next).noteDiscard_eq w (s.dirtyCount w) (s.binding? w)
    rw [State.giveUpWindow_eq, noted]
    exact congrArg Steady.clock ((s.givenUp_steady w next).trans (s.failMarks_steady w).symm)
  exact (State.failMarks_lost active w).still clock (congrArg (·[k]) slots) grows

theorem State.giveUpWindow_record {r : RecIx} {q : Record} {y : SectorRef} (used : r ∈ s.pool.order)
    (record : s.record? r = some q) (owner : q.owner = some y) (mine : y.win = w)
    (goesOn : s.endsAtForce r = false) :
    ∃ q', (s.giveUpWindow w next).record? r = some q' ∧ q'.kind = q.kind ∧ q'.owner = none := by
  obtain ⟨t, emptied, lent⟩ := s.givenUp_emptied w next
  obtain ⟨note, ev, noted, -⟩ := (s.givenUp w next).noteDiscard_eq w (s.dirtyCount w) (s.binding? w)
  have same := lent.record r
  rw [emptied.records r (State.mem_recordsOfWindow used record owner mine) goesOn, record] at same
  obtain ⟨q', here, unlent⟩ := Option.map_eq_some_iff.mp same
  have still : (s.giveUpWindow w next).record? r = (s.givenUp w next).record? r := by
    rw [State.giveUpWindow_eq, noted, State.record?]
    rfl
  obtain ⟨kind, owner, -, -⟩ := Record.same_of_unlent unlent
  exact ⟨q', still.trans here, kind, owner⟩

theorem State.giveUpWindow_memory : (s.giveUpWindow w next).memory = s.memory := by
  obtain ⟨note, ev, noted, -⟩ := (s.givenUp w next).noteDiscard_eq w (s.dirtyCount w) (s.binding? w)
  rw [State.giveUpWindow_eq, noted]
  exact congrArg Steady.memory (s.givenUp_steady w next)

theorem State.giveUpWindow_note {b : Binding} (bound : s.binding? w = some b) :
    (s.dirtyCount w = 0 → (s.giveUpWindow w next).lastDiscard = s.lastDiscard) ∧
    (0 < s.dirtyCount w → (s.giveUpWindow w next).events.raised .discarded = true ∧
      (s.giveUpWindow w next).lastDiscard = some
        { win := w, count := s.dirtyCount w, drive := b.drive, time := s.clock.coarse }) := by
  have steady := s.givenUp_steady w next
  rw [State.giveUpWindow_eq, bound]
  refine ⟨fun clean => ?_, fun dirty => ?_⟩
  · rw [clean, State.noteDiscard_none]
    exact congrArg Steady.lastDiscard steady
  · rw [State.noteDiscard_some _ w b dirty]
    refine ⟨EventUnit.raised_raise _ _, ?_⟩
    have clock : (s.givenUp w next).clock = s.clock := congrArg Steady.clock steady
    rw [clock]
    rfl

end GivenUp

/-- Settles O30: the refusals, then what giving a window up leaves, part by part. -/
theorem forceAndDiscardGiveUpEntries : Obligations.ForceAndDiscardGiveUpEntries := by
  refine ⟨fun window s running => ⟨fun outside => ?_, fun w named unbound => ?_⟩,
    fun window w c next b s running named bound given => ?_⟩
  · rw [exec_releaseDiscard running, State.linkReleaseDiscard_outside (windowOf_of_gt outside)]
  · rw [exec_releaseDiscard running, State.linkReleaseDiscard_unbound (windowOf_of_toNat named) unbound]
  · have command : ∃ code operands, exec c s = .next
        (((s.takeCommand code operands).giveUpWindow w next).respond .done []).settle := by
      obtain ⟨es, rfl, staged⟩ | ⟨rfl, rfl⟩ := given
      · refine ⟨0x12, [window], ?_⟩
        rw [exec_force running, State.linkForce_staged (windowOf_of_toNat named) staged]
      · have held : s.window w ≠ .unbound := fun unbound => by
          rw [State.binding?, unbound] at bound
          cases bound
        refine ⟨0x13, [window, 1], ?_⟩
        rw [exec_releaseDiscard running, State.linkReleaseDiscard_bound (windowOf_of_toNat named) held]
    obtain ⟨code, operands, command⟩ := command
    have rest := (s.takeCommand code operands).giveUpWindow_rest w next
    refine ⟨_, command, ?_, State.giveUpWindow_memory _ w next, ?_, fun tag => ?_, rest.2.1,
      fun x e other entry dirty => State.giveUpWindow_entry _ w next other entry dirty,
      fun k active => ((s.takeCommand code operands).giveUpWindow_lost w next active).2,
      fun r q y used record owner mine goesOn => State.giveUpWindow_record _ w next used record owner mine goesOn,
      State.giveUpWindow_note (s.takeCommand code operands) w next bound⟩
    · rw [State.respond, State.giveUpWindow_link]
      rfl
    · exact ((s.takeCommand code operands).giveUpWindow_window w next).trans (Window.ofBinding_eq next)
    · have deferred := congrArg (·[tag]) rest.1
      exact deferred.trans (Vector.getElem_map ..)

end Sys2Proof.Machine
end

section
/-! SUPPORT. What a warm reset records and what it clears (R158, R159), and the time that passes in it: O49. -/

namespace Sys2Proof.Machine

open Sys2Proof

/-! ## The dirty entries, as the windows alone give them -/

/-- What a recording notes of an entry of window `w`, if it is dirty. -/
def Entry.lost? (w : WinIx) (e : Entry) : Option OutageEntry :=
  if e.state.isDirty then some { addr := e.addr, win := w } else none

/-- What a recording notes of the windows, in increasing window number and sector index (R159). -/
def lostOf (ws : Vector Window 16) : List OutageEntry :=
  allWindows.flatMap fun w => ws[w].entries.filterMap (Entry.lost? w)

theorem filterMap_range_getElem? {α β : Type} (l : List α) (f : α → Option β) :
    (List.range l.length).filterMap (fun i => l[i]?.bind f) = l.filterMap f := by
  induction l with
  | nil => rfl
  | cons a l ih =>
    rw [List.length_cons, List.range_succ_eq_map, List.filterMap_cons, List.filterMap_map, List.filterMap_cons]
    exact congrArg (fun t => match f a with
      | none => t
      | some b => b :: t) ih

theorem filterMap_modify {α β : Type} {f : α → α} {g : α → Option β} (same : ∀ a, g (f a) = g a) (l : List α)
    (i : Nat) : (l.modify i f).filterMap g = l.filterMap g := by
  induction l generalizing i with
  | nil => simp
  | cons a l ih =>
    cases i with
    | zero => simp [List.filterMap_cons, same]
    | succ i => simp [List.filterMap_cons, ih]

theorem State.lost_eq (s : State) : s.allRefs.filterMap s.lostEntry? = lostOf s.windows := by
  have entry (w : WinIx) (i : Nat) : s.lostEntry? ⟨w, i⟩ = (s.window w).entries[i]?.bind (Entry.lost? w) := by
    rw [State.lostEntry?, State.entry?]
    cases (s.window w).entries[i]? <;> rfl
  rw [State.allRefs, List.filterMap_flatMap, lostOf]
  refine congrArg (allWindows.flatMap ·) (funext fun w => ?_)
  rw [State.refsOfWindow, List.filterMap_map]
  exact (congrArg (List.filterMap · _) (funext (entry w))).trans (filterMap_range_getElem? _ _)

theorem Entry.Keeps.lost {f : Entry → Entry} (keeps : Entry.Keeps f) (w : WinIx) (e : Entry) :
    (f e).lost? w = e.lost? w := by
  rw [Entry.lost?, keeps.dirty, keeps.addr]
  rfl

theorem Entry.lost?_of_quiet {e : Entry} (w : WinIx) (quiet : e.state.isQuiet = true) : e.lost? w = none := by
  refine if_neg fun dirty => ?_
  cases state : e.state <;> rw [state] at quiet dirty <;> cases quiet <;> cases dirty

theorem Window.ofBinding_lost (w : WinIx) (next : Option Binding) :
    (Window.ofBinding next).entries.filterMap (Entry.lost? w) = [] := by
  refine List.filterMap_eq_nil_iff.mpr fun e he => ?_
  cases next with
  | none => cases he
  | some b =>
    obtain ⟨a, -, rfl⟩ := List.mem_map.mp he
    rfl

theorem Window.entries_mapEntries (f : Entry → Entry) (x : Window) :
    (x.mapEntries f).entries = x.entries.map f := by
  cases x <;> rfl

/-- The part, working by itself, keeps what a recording would note: only quiet windows are swapped. -/
theorem lostOf_of_steps {ws vs : Vector Window 16} (steps : Relation.ReflTransGen WindowsStep ws vs) :
    lostOf vs = lostOf ws := by
  have each {us xs : Vector Window 16} (step : WindowsStep us xs) (v : WinIx) :
      xs[v].entries.filterMap (Entry.lost? v) = us[v].entries.filterMap (Entry.lost? v) := by
    cases step with
    | entry w i keeps =>
      rw [windows_set]
      split
      · next same =>
        rw [Window.entries_modEntry, filterMap_modify (keeps.lost v), same]
      · rfl
    | unmark k =>
      have get : (us.map (Window.mapEntries (Entry.unmark k)))[v] = us[v].mapEntries (Entry.unmark k) :=
        Vector.getElem_map ..
      rw [get, Window.entries_mapEntries, List.filterMap_map]
      exact congrArg (List.filterMap · _) (funext ((Entry.unmark_keeps k).lost v))
    | @swap w b next es staged quiet =>
      rw [windows_set]
      split
      · next same =>
        rw [same, staged, Window.ofBinding_lost, Window.entries, List.filterMap_eq_nil_iff.mpr]
        exact fun e he => Entry.lost?_of_quiet w (quiet e he)
      · rfl
  induction steps with
  | refl => rfl
  | tail _ step ih => rw [← ih, lostOf, lostOf]; exact congrArg (allWindows.flatMap ·) (funext (each step))

/-! ## What a recording leaves in the Outage Store (R159) -/

theorem Store.foldl_record_overflow (o : Store) (l : List OutageEntry) (room : o.list.length ≤ 32)
    (low : o.overflow ≤ 255) : (l.foldl Store.record o).overflow =
      min 255 (o.overflow + (l.length - (32 - o.list.length))) := by
  induction l generalizing o with
  | nil => simp [low]
  | cons x l ih =>
    rw [List.foldl_cons, List.length_cons]
    by_cases more : o.list.length < 32
    · have added : o.record x = { o with list := o.list ++ [x] } := if_pos more
      have longer : (o.list ++ [x]).length = o.list.length + 1 := List.length_append
      have room' : (o.list ++ [x]).length ≤ 32 := by omega
      rw [added, ih { o with list := o.list ++ [x] } room' low]
      dsimp only
      omega
    · have full : o.record x = { o with overflow := min 255 (o.overflow + 1) } := if_neg more
      rw [full, ih { o with overflow := min 255 (o.overflow + 1) } room (Nat.min_le_left ..)]
      dsimp only
      omega

theorem Store.foldl_record_valid (o : Store) (l : List OutageEntry) :
    (l.foldl Store.record o).valid = o.valid :=
  foldl_keeps Store.valid _ (fun o x => by
    unfold Store.record
    split <;> rfl) l o

theorem Store.foldl_record_dipTimer (o : Store) (n : Option Nat) (l : List OutageEntry) :
    l.foldl Store.record { o with dipTimer := n } = { l.foldl Store.record o with dipTimer := n } := by
  induction l generalizing o with
  | nil => rfl
  | cons x l ih =>
    have one : Store.record { o with dipTimer := n } x = { o.record x with dipTimer := n } := by
      unfold Store.record
      dsimp only
      split <;> rfl
    rw [List.foldl_cons, one, ih, List.foldl_cons]

/-- The recording of all dirty entries. -/
theorem State.recorded_all (s : State) (cause : WarmCause) : s.recorded cause s.dirtyRefs.length =
    (lostOf s.windows).foldl Store.record { s.store with cause := warmCause cause } := by
  have all := s.take_dirtyRefs (s.dirtyRefs.length + (lostOf s.windows).length)
  rw [s.lost_eq, List.take_of_length_le (Nat.le_add_left ..), List.take_of_length_le (Nat.le_add_right ..)] at all
  rw [State.recorded, List.take_length, all]

theorem State.dirtyRefs_eq_nil (s : State) : s.dirtyRefs = [] ↔ lostOf s.windows = [] := by
  rw [← s.lost_eq, List.filterMap_eq_nil_iff, State.dirtyRefs, List.filter_eq_nil_iff]
  refine forall_congr' fun x => imp_congr_right fun _ => ?_
  unfold State.lostEntry?
  cases s.entry? x with
  | none => simp
  | some e => simp

/-- To a recording `u` is like `s`: the same dirty entries, and the same Outage Store, its dip timer apart;
memory and the ready lines are the same too. -/
def State.Alike (s u : State) : Prop :=
  lostOf u.windows = lostOf s.windows ∧ { u.store with dipTimer := none } = { s.store with dipTimer := none } ∧
    u.memory = s.memory ∧ ∀ d, (u.engine d).ready = (s.engine d).ready

theorem State.Drifts.alike {n : Nat} {s u : State} (h : s.Drifts n u) (memory : u.memory = s.memory) :
    s.Alike u := by
  obtain ⟨-, -, -, -, store, ready, windows⟩ := h
  exact ⟨lostOf_of_steps windows, store, memory, ready⟩

theorem State.Alike.store {s u : State} (h : s.Alike u) (cause : WarmCause) :
    (u.warmReset cause).store = { (lostOf s.windows).foldl Store.record
      { s.store with cause := warmCause cause } with dipTimer := none } := by
  obtain ⟨lost, store, -⟩ := h
  rw [State.warmReset_store, State.recorded_all, lost, ← Store.foldl_record_dipTimer,
    ← Store.foldl_record_dipTimer]
  exact congrArg (fun o : Store => (lostOf s.windows).foldl Store.record { o with cause := warmCause cause }) store

theorem State.Alike.power {s u : State} (h : s.Alike u) (cause : WarmCause) :
    (u.warmReset cause).power = .inReset false (decide (lostOf s.windows ≠ [])) := by
  obtain ⟨lost, -⟩ := h
  rw [State.warmReset_power, ← lost]
  exact congrArg _ (decide_eq_decide.mpr (not_congr u.dirtyRefs_eq_nil))

/-! ## Time that passes in a reset -/

/-- From `s` to `t` only the clocks and the engines have changed. -/
def State.Clocked (s t : State) : Prop := ∃ clock engines, t = { s with clock := clock, engines := engines }

theorem State.Clocked.trans {s t u : State} (h : s.Clocked t) (k : t.Clocked u) : s.Clocked u := by
  obtain ⟨_, _, rfl⟩ := h
  obtain ⟨_, _, rfl⟩ := k
  exact ⟨_, _, rfl⟩

theorem State.Clocked.countCoarse (s : State) : s.Clocked s.countCoarse := ⟨_, s.engines, rfl⟩

/-- A reset is in force and no dip is timed. -/
def State.Resetting (s : State) : Prop := (∃ p raised, s.power = .inReset p raised) ∧ s.store.dipTimer = none

namespace State.Resetting

variable {s t : State}

theorem clocked (h : s.Resetting) (k : s.Clocked t) : t.Resetting := by
  obtain ⟨_, _, rfl⟩ := k
  exact h

theorem not_running (h : s.Resetting) : s.power ≠ .running := by
  obtain ⟨⟨p, raised, reset⟩, -⟩ := h
  rw [reset]
  exact fun h => by cases h

theorem not_off (h : s.Resetting) : s.power ≠ .off := by
  obtain ⟨⟨p, raised, reset⟩, -⟩ := h
  rw [reset]
  exact fun h => by cases h

theorem passTicks (h : s.Resetting) (n : Nat) : s.Clocked (s.passTicks n) := by
  have store : { s.store with dipTimer := s.store.dipTimer.map fun t => min (t + n) 2000 } = s.store := by
    rw [h.2]
    exact congrArg (fun t => { s.store with dipTimer := t }) h.2.symm
  rw [State.passTicks, if_neg h.not_off, store]
  exact ⟨_, _, rfl⟩

/-- No index is lost in a reset. -/
theorem passLost (h : s.Resetting) (k n limit : Nat) : s.Clocked (s.passLost k n limit) := by
  rw [State.passLost_none k n limit (if_neg h.not_running)]
  exact h.passTicks n

/-- Nothing is judged in a reset, and an advance only counts. -/
theorem advance (h : s.Resetting) (n limit : Nat) :
    s.Clocked (s.judgePast.passLost 4 n limit).coarseMoment := by
  have judged : s.judgePast = s := if_neg h.not_running
  have ticks := h.passLost 4 n limit
  rw [judged]
  obtain ⟨off, -⟩ | ⟨-, e⟩ | ⟨running, -⟩ := (s.passLost 4 n limit).coarseMoment_cases
  · exact absurd off (h.clocked ticks).not_off
  · exact e ▸ ticks.trans (.countCoarse _)
  · exact absurd running (h.clocked ticks).not_running

theorem passAdvances (h : s.Resetting) (k n : Nat) : s.Clocked (s.passAdvances k n) := by
  induction k generalizing s n with
  | zero => exact h.passLost 4 n (n + 1)
  | succ k ih =>
    have one := h.advance (10000 - s.clock.toCoarse) (10000 - s.clock.toCoarse)
    exact one.trans (ih (h.clocked one) _)

/-- In a reset only the clocks and the engines' counts go on. -/
theorem passClocks (h : s.Resetting) (n : Nat) : s.Clocked (s.passClocks n) := by
  rw [State.passClocks, if_neg h.not_off]
  exact h.passAdvances _ n

end State.Resetting

theorem State.warmReset_resetting (s : State) (cause : WarmCause) : (s.warmReset cause).Resetting :=
  ⟨⟨false, _, rfl⟩, rfl⟩

/-! ## The causes of a warm reset (R158) -/

/-- Ticks that a long dip ends among: those up to it, the warm reset, and the rest of them in it. -/
theorem State.passTime_split {s : State} {n k : Nat} (dip : s.longDipIn? n = some k) :
    s.passTime n = ((s.passTime k).warmReset .longDip).passTime (n - k) := by
  obtain ⟨-, t, timer, rest, -⟩ := State.longDipIn?_eq_some.mp dip
  have early : s.longDipIn? k = none := by
    refine Option.eq_none_iff_forall_ne_some.mpr fun j hj => ?_
    obtain ⟨-, t', timer', rest', less⟩ := State.longDipIn?_eq_some.mp hj
    rw [timer] at timer'
    cases timer'
    omega
  have before : s.passTime k = s.passClocks k := by rw [State.passTime, State.acrossDip, early]
  have after (u : State) : (u.warmReset .longDip).passTime (n - k) = (u.warmReset .longDip).passClocks (n - k) := by
    rw [State.passTime, State.acrossDip, State.longDipIn?_idle _ rfl]
  rw [before, after, State.passTime, State.acrossDip, dip]

/-- A long dip among the ticks leaves a state that its warm reset gives, the clocks and the engines apart. -/
theorem State.passTime_dip {s : State} {n k : Nat} (dip : s.longDipIn? n = some k) :
    ((s.passClocks k).warmReset .longDip).Clocked (s.passTime n) := by
  rw [State.passTime, State.acrossDip, dip]
  exact (State.warmReset_resetting _ _).passClocks _

/-- A command that begins a warm reset: the state at its beginning, like the one before it to the recording,
and what the ticks lacking to a long dip have changed of it. -/
theorem exec_warmReset {s : State} {c : Instr} {cause : ResetCause} (running : s.power = .running)
    (begins : (c = .reset ∧ cause = .resetCommand) ∨ (c = .resetLine ∧ cause = .resetLine) ∨
      (c = .longDip ∧ cause = .longDip ∧ s.store.dipTimer ≠ none)) :
    ∃ u wc, exec c s = .next { u.warmReset wc with resetLine := decide (c = .resetLine) || s.resetLine } ∧
      warmCause wc = cause ∧ s.Alike u ∧ (c ≠ .longDip → u.clock.coarse = s.clock.coarse) ∧
      (∀ n, c = .longDip → s.store.dipTimer = some n → u.clock.coarse =
        s.clock.coarse + BitVec.ofNat 16 ((s.clock.toCoarse + (2000 - n)) / 10000)) ∧
      (c ≠ .reset → u.link.command = s.link.command) := by
  obtain ⟨rfl, rfl⟩ | ⟨rfl, rfl⟩ | ⟨rfl, rfl, timed⟩ := begins
  · refine ⟨s.takeCommand 0x7F [], .resetCommand, ?_, rfl, ⟨rfl, rfl, rfl, fun _ => rfl⟩, fun _ => rfl,
      fun _ h => (nomatch h), fun h => absurd rfl h⟩
    exact congrArg Host.Outcome.next (if_pos running)
  · refine ⟨s, .resetLine, ?_, rfl, ⟨rfl, rfl, rfl, fun _ => rfl⟩, fun _ => rfl, fun _ h => (nomatch h),
      fun _ => rfl⟩
    have acts : s.resetLineActs = { s.warmReset .resetLine with resetLine := true } := by
      rw [State.resetLineActs, running]
    exact congrArg Host.Outcome.next acts
  · obtain ⟨n, timer⟩ := Option.ne_none_iff_exists'.mp timed
    have on : s.power ≠ .off := fun off => by
      rw [running] at off
      cases off
    have none : s.longDipIn? (2000 - n) = none := by
      rw [State.longDipIn?, running, timer]
      exact if_neg (Nat.lt_irrefl _)
    have clocks : s.passTime (2000 - n) = s.passClocks (2000 - n) := by rw [State.passTime, State.acrossDip, none]
    have drifts := (State.Drifts.refl s).passClocks on (2000 - n)
    have memory := ((State.Onward.refl s).passClocks (2000 - n)).memory
    have acts : s.dipRunsOut = (s.passClocks (2000 - n)).warmReset .longDip := by
      rw [State.dipRunsOut, timer]
      exact congrArg (State.warmReset .longDip) clocks
    have begun : exec .longDip s = .next ((s.passClocks (2000 - n)).warmReset .longDip) :=
      congrArg Host.Outcome.next ((if_pos running).trans acts)
    have alike := drifts.alike memory
    obtain ⟨coarse, link, line, -⟩ := drifts
    refine ⟨_, .longDip, ?_, rfl, alike, fun h => absurd rfl h, fun n' _ timer' => ?_, fun _ => congrArg _ link⟩
    · rw [begun]
      exact congrArg (fun l => Host.Outcome.next
        { (s.passClocks (2000 - n)).warmReset .longDip with resetLine := l }) line
    · rw [timer] at timer'
      cases timer'
      rw [coarse, Nat.zero_add]

/-- Settles O49: a second cause, then what the recording and the clearing leave, then a long dip that runs
out among the ticks of any command. -/
theorem warmResetRecordsDirtyEntries : Obligations.WarmResetRecordsDirtyEntries := by
  refine ⟨fun s p raised reset => ?_, fun s c cause running room low begins => ?_, fun s n k dip => ?_⟩
  · have idle : s.power ≠ .running := fun running => by
      rw [reset] at running
      cases running
    refine ⟨congrArg Host.Outcome.next (if_neg idle), congrArg Host.Outcome.next (if_neg idle),
      congrArg Host.Outcome.next ?_⟩
    rw [State.resetLineActs, reset]
  · have all : s.allRefs.filterMap s.lostEntry? = lostOf s.windows := s.lost_eq
    obtain ⟨u, wc, begun, rfl, alike, coarse, dipCoarse, command⟩ := exec_warmReset running begins
    have store := alike.store wc
    have power := alike.power wc
    obtain ⟨-, -, memory, ready⟩ := alike
    rw [← all] at store power
    refine ⟨_, begun, ?_, ?_, ?_, ?_, rfl, power, memory, coarse, dipCoarse, rfl, fun w => ?_, fun r => ?_, rfl, rfl,
      rfl, rfl, rfl, rfl, rfl, fun d => ?_, fun k => ?_, rfl, rfl, rfl, rfl, fun d => ?_, command⟩
    · exact (congrArg Store.list store).trans (Store.foldl_record_list _ _ room)
    · exact (congrArg Store.overflow store).trans (Store.foldl_record_overflow _ _ room low)
    · exact u.recorded_cause wc _
    · exact (congrArg Store.valid store).trans (Store.foldl_record_valid _ _)
    · exact Vector.getElem_replicate ..
    · exact Vector.getElem_replicate ..
    · exact Vector.getElem_replicate ..
    · exact Vector.getElem_replicate ..
    · have engine : (u.warmReset wc).engine d = (u.engine d).cleared := u.warmReset_engine wc d
      exact ⟨congrArg Engine.gate engine, congrArg Engine.current engine, congrArg Engine.cyl engine,
        congrArg Engine.dip engine, congrArg Engine.stepMs engine, congrArg Engine.retries engine,
        congrArg Engine.halt engine, congrArg Engine.lastFault engine,
        (congrArg Engine.ready engine).trans (ready d)⟩
  · obtain ⟨running, t, timer, -, -⟩ := State.longDipIn?_eq_some.mp dip
    have on : s.power ≠ .off := fun off => by
      rw [running] at off
      cases off
    have drifts := (State.Drifts.refl s).passClocks on k
    have alike := drifts.alike ((State.Onward.refl s).passClocks k).memory
    obtain ⟨clock, engines, passed⟩ := State.passTime_dip dip
    obtain ⟨-, -, -, supply, -⟩ := drifts
    refine ⟨⟨_, running, Option.ne_none_iff_exists'.mpr ⟨t, timer⟩, congrArg State.power passed,
      (congrArg (·.store.cause) passed).trans (State.recorded_cause _ .longDip _)⟩,
      State.passTime_split dip, congrArg State.events passed, congrArg State.pool passed, fun w => ?_,
      (congrArg State.supplyLow passed).trans supply, fun _ => ⟨?_, ?_⟩⟩
    · rw [passed]
      exact Vector.getElem_replicate ..
    · rw [(congrArg State.power passed).trans (alike.power .longDip)]
      exact congrArg _ (decide_eq_decide.mpr (not_congr s.dirtyRefs_eq_nil.symm))
    · rw [s.recorded_all]
      exact (congrArg State.store passed).trans (alike.store .longDip)

end Sys2Proof.Machine
end

section
/-! SUPPORT. A window that enters STAGED: what is cancelled and which records are freed (R29, R73, R109). -/

namespace Sys2Proof.Machine

open Sys2Proof

/-! ## Records and the entries that own them (R60) -/

/-- Record `r` belongs to the entry at `x`. -/
def State.Owned (s : State) (x : SectorRef) (r : RecIx) : Prop := ∃ q, s.record? r = some q ∧ q.owner = some x

theorem mem_allRecords : ∀ r : RecIx, r ∈ allRecords := by decide

theorem State.owned_iff (s : State) (x : SectorRef) (r : RecIx) :
    (match s.record? r with
      | some q => decide (q.owner = some x)
      | none => false) = true ↔ s.Owned x r := by
  unfold State.Owned
  cases s.record? r <;> simp

theorem State.owned_of_opOf {s : State} {x : SectorRef} {r : RecIx} (op : s.opOf x = some r) : s.Owned x r :=
  (s.owned_iff x r).mp (List.find?_some (p := fun r => match s.record? r with
    | some q => decide (q.owner = some x)
    | none => false) op)

theorem State.opOf_eq_none {s : State} {x : SectorRef} : s.opOf x = none ↔ ∀ r, ¬ s.Owned x r := by
  rw [State.opOf, List.find?_eq_none]
  exact ⟨fun h r owned => h r (mem_allRecords r) ((s.owned_iff x r).mpr owned),
    fun h r _ owned => h r ((s.owned_iff x r).mp owned)⟩

theorem State.opOf_isSome {s : State} {x : SectorRef} {r : RecIx} (owned : s.Owned x r) :
    (s.opOf x).isSome = true := by
  cases op : s.opOf x with
  | some _ => rfl
  | none => exact absurd owned (State.opOf_eq_none.mp op r)

/-- The operation field follows which records belong to the entry. -/
theorem State.opOf_congr {s t : State} {x : SectorRef} (same : ∀ r, t.Owned x r ↔ s.Owned x r) :
    t.opOf x = s.opOf x := by
  refine congrArg (allRecords.find? ·) (funext fun r => Bool.eq_iff_iff.mpr ?_)
  exact (t.owned_iff x r).trans ((same r).trans (s.owned_iff x r).symm)

/-! ## The shape of a window -/

/-- Window `w` is STAGED with these bindings and `n` entries. -/
def StagedWith (ws : Vector Window 16) (w : WinIx) (b : Binding) (next : Option Binding) (n : Nat) : Prop :=
  ∃ es, ws[w] = .staged b next es ∧ es.length = n

theorem StagedWith.modEntry {ws : Vector Window 16} {w : WinIx} {b : Binding} {next : Option Binding} {n : Nat}
    (h : StagedWith ws w b next n) (v : WinIx) (i : Nat) (f : Entry → Entry) :
    StagedWith (ws.set v (ws[v].modEntry i f)) w b next n := by
  obtain ⟨es, staged, length⟩ := h
  by_cases same : w = v
  · subst same
    exact ⟨es.modify i f, by rw [windows_set, if_pos rfl, staged]; rfl, by rw [List.length_modify, length]⟩
  · exact ⟨es, by rw [windows_set, if_neg same, staged], length⟩

theorem StagedWith.fills {ws vs : Vector Window 16} {w : WinIx} {b : Binding} {next : Option Binding} {n : Nat}
    (h : StagedWith ws w b next n) (fills : Relation.ReflTransGen FillStep ws vs) : StagedWith vs w b next n := by
  induction fills with
  | refl => exact h
  | tail _ step ih =>
    obtain ⟨v, i⟩ := step
    exact ih.modEntry v i _

/-! ## Entries whose fill is cancelled (R29, R45) -/

theorem Entry.fillCancelled_waiting {e : Entry} (h : e.state = .queued ∨ e.state = .filling) :
    e.fillCancelled = Entry.new e.addr := if_pos h

theorem Entry.fillCancelled_dirty {e : Entry} (h : e.state.isDirty = true) : e.fillCancelled = e := by
  refine if_neg ?_
  rintro (state | state) <;> rw [state] at h <;> cases h

theorem Entry.fillCancelled_twice (e : Entry) : e.fillCancelled.fillCancelled = e.fillCancelled := by
  by_cases h : e.state = .queued ∨ e.state = .filling
  · rw [Entry.fillCancelled_waiting h]
    rfl
  · have stays : e.fillCancelled = e := if_neg h
    rw [stays, stays]

/-- The fills of the entries at `l` are cancelled. -/
def State.cancelEntries (s : State) (l : List SectorRef) : State :=
  l.foldl (fun t x => t.modEntry x Entry.fillCancelled) s

theorem State.cancelEntries_windows (s : State) (l : List SectorRef) :
    ∃ ws, s.cancelEntries l = { s with windows := ws } ∧
      ∀ w b next n, StagedWith s.windows w b next n → StagedWith ws w b next n := by
  refine foldl_invariant (fun t : State => ∃ ws, t = { s with windows := ws } ∧
    ∀ w b next n, StagedWith s.windows w b next n → StagedWith ws w b next n) _ (fun t x ht => ?_) l s
    ⟨s.windows, rfl, fun _ _ _ _ h => h⟩
  obtain ⟨ws, rfl, keeps⟩ := ht
  exact ⟨_, rfl, fun w b next n h => (keeps w b next n h).modEntry x.win x.idx _⟩

theorem State.entry_cancelEntries (s : State) (l : List SectorRef) (x : SectorRef) :
    (s.cancelEntries l).entry? x = if x ∈ l then (s.entry? x).map Entry.fillCancelled else s.entry? x := by
  induction l generalizing s with
  | nil => rfl
  | cons y l ih =>
    have twice : (s.entry? x).map (Entry.fillCancelled ∘ Entry.fillCancelled) =
        (s.entry? x).map Entry.fillCancelled :=
      congrArg (Option.map · _) (funext Entry.fillCancelled_twice)
    have rest := ih (s.modEntry y Entry.fillCancelled)
    rw [State.entry_modEntry] at rest
    refine rest.trans ?_
    by_cases same : x = y
    · subst same
      simp [twice]
    · simp [same]

/-! ## Records that are freed, one after the other -/

theorem Record.HandedOn.of_unlent {l : List SectorRef} {p q : Record} (same : p.unlent = q.unlent)
    (h : q.HandedOn l) : p.HandedOn l := by
  obtain ⟨kind, owner, urgency, -⟩ := Record.same_of_unlent same
  rw [Record.HandedOn, kind, owner, urgency]
  exact h

theorem Record.HandedOn.mono {l m : List SectorRef} {q : Record} (h : q.HandedOn l) (sub : ∀ x ∈ l, x ∈ m) :
    q.HandedOn m := by
  obtain h | ⟨kind, urgent, x, hx, owner⟩ := h
  · exact .inl h
  · exact .inr ⟨kind, urgent, x, sub x hx, owner⟩

/-- From `s` to `t` the records `l` have been freed and handed on, and their buffers have been lent. -/
structure State.Freed (s t : State) (l : List RecIx) : Prop where
  fills : Relation.ReflTransGen FillStep s.windows t.windows
  joined : s.bursts.Joined t.bursts
  backlog : ∀ x ∈ t.pool.backlog, x ∈ s.pool.backlog
  others : ∀ r, r ∉ l → (t.record? r).map Record.unlent = (s.record? r).map Record.unlent
  handed : ∀ r ∈ l, ∀ q, t.record? r = some q → q.HandedOn s.pool.backlog

theorem State.freeRecord_freed (s : State) (r : RecIx) : s.Freed (s.freeRecord r) [r] := by
  obtain ⟨p, freed, others, handed, backlog, -⟩ := s.releaseRecord_spec r
  have lent := State.Lends.handBuffers (s.releaseRecord r)
  have windows : (s.releaseRecord r).windows = s.windows := by rw [freed]
  have bursts : (s.releaseRecord r).bursts = s.bursts := by rw [freed]
  have pool : (s.releaseRecord r).pool = p := by rw [freed]
  refine ⟨windows ▸ lent.fills, bursts ▸ lent.joined, fun x hx => backlog x ?_, fun r' other => ?_,
    fun r' here q record => ?_⟩
  · obtain ⟨same, -⟩ := lent.pool_rest
    rwa [State.freeRecord, same, pool] at hx
  · rw [List.mem_singleton] at other
    exact (lent.record r').trans (congrArg (Option.map _) (others r' other))
  · cases List.mem_singleton.mp here
    have same := lent.record r
    rw [show (s.releaseRecord r).handBuffers.record? r = some q from record] at same
    obtain ⟨p, before, unlent⟩ := Option.map_eq_some_iff.mp same.symm
    exact (handed p before).of_unlent unlent.symm

theorem State.Freed.trans {s t u : State} {l m : List RecIx} (h : s.Freed t l) (k : t.Freed u m) :
    s.Freed u (l ++ m) := by
  refine ⟨h.fills.trans k.fills, h.joined.trans k.joined, fun x hx => h.backlog x (k.backlog x hx),
    fun r none => ?_, fun r here q record => ?_⟩
  · rw [List.mem_append, not_or] at none
    exact (k.others r none.2).trans (h.others r none.1)
  · by_cases late : r ∈ m
    · exact (k.handed r late q record).mono h.backlog
    · have same := k.others r late
      rw [record] at same
      obtain ⟨p, before, unlent⟩ := Option.map_eq_some_iff.mp same.symm
      exact (h.handed r ((List.mem_append.mp here).resolve_right late) p before).of_unlent unlent.symm

theorem State.freeAll_freed (s : State) (l : List RecIx) : s.Freed (l.foldl State.freeRecord s) l := by
  induction l generalizing s with
  | nil => exact ⟨.refl, .refl _, fun _ h => h, fun _ _ => rfl, fun _ h => nomatch h⟩
  | cons r l ih => exact (s.freeRecord_freed r).trans (ih (s.freeRecord r))

end Sys2Proof.Machine
end

section
/-! SUPPORT. A window that enters STAGED: its DIRTY entries are provided for (R29, R69), and what the whole of it leaves: O27. -/

namespace Sys2Proof.Machine

open Sys2Proof

/-! ## Requests at URGENT (R69) -/

/-- `p` is record `q`, but that a write-back may have become URGENT. -/
def Record.Raised (p q : Record) : Prop := p = q ∨ q.kind = .writeback ∧ p = { q with urgency := .urgent }

theorem Record.Raised.trans {p q r : Record} (h : p.Raised q) (k : q.Raised r) : p.Raised r := by
  obtain rfl | ⟨kind, rfl⟩ := h
  · exact k
  · obtain rfl | ⟨kind', rfl⟩ := k
    · exact .inr ⟨kind, rfl⟩
    · exact .inr ⟨kind', rfl⟩

theorem Record.Raised.owner {p q : Record} (h : p.Raised q) : p.owner = q.owner := by
  obtain rfl | ⟨-, rfl⟩ := h <;> rfl

theorem Record.Raised.kind {p q : Record} (h : p.Raised q) : p.kind = q.kind := by
  obtain rfl | ⟨-, rfl⟩ := h <;> rfl

theorem Record.Raised.urgent {p q : Record} (h : p.Raised q) (urgent : q.urgency = .urgent) :
    p.urgency = .urgent := by
  obtain rfl | ⟨-, rfl⟩ := h
  · exact urgent
  · rfl

theorem State.backlogInsert_keeps (s : State) (x : SectorRef) (age : Nat) {y : SectorRef} {l : List SectorRef}
    (h : y ∈ l) : y ∈ s.backlogInsert x age l := by
  induction l with
  | nil => cases h
  | cons z l ih =>
    rw [State.backlogInsert]
    split_ifs
    · exact List.mem_cons_of_mem x h
    · obtain same | later := List.mem_cons.mp h
      · exact same ▸ List.mem_cons_self
      · exact List.mem_cons_of_mem z (ih later)

theorem State.record_of_free {s : State} {r : RecIx} (free : s.freeRecord? = some r) : s.record? r = none :=
  Option.isNone_iff_eq_none.mp (List.find?_some (p := fun r => (s.record? r).isNone) free)

/-- From `s` to `t` write-backs have been requested at URGENT: entries joined the Backlog List, write-backs
became URGENT, and free records became URGENT write-backs of entries that had no record. -/
structure State.Requests (s t : State) : Prop where
  rest : ∃ p v, t = { s with pool := p, events := v }
  backlog : ∀ x ∈ s.pool.backlog, x ∈ t.pool.backlog
  kept : ∀ r q, s.record? r = some q → ∃ p, t.record? r = some p ∧ p.Raised q
  made : ∀ r p, s.record? r = none → t.record? r = some p →
    p.kind = .writeback ∧ p.urgency = .urgent ∧ ∃ y, p.owner = some y ∧ ∀ r', ¬ s.Owned y r'

namespace State.Requests

variable {s t u : State}

theorem refl (s : State) : s.Requests s :=
  ⟨⟨s.pool, s.events, rfl⟩, fun _ h => h, fun _ q h => ⟨q, h, .inl rfl⟩, fun _ _ h k => by rw [h] at k; cases k⟩

theorem owned (h : s.Requests t) {x : SectorRef} {r : RecIx} (owned : s.Owned x r) : t.Owned x r := by
  obtain ⟨q, record, owner⟩ := owned
  obtain ⟨p, record', raised⟩ := h.kept r q record
  exact ⟨p, record', raised.owner.trans owner⟩

theorem trans (h : s.Requests t) (k : t.Requests u) : s.Requests u := by
  have rest : ∃ p v, u = { s with pool := p, events := v } := by
    obtain ⟨_, _, same⟩ := h.rest
    obtain ⟨_, _, same'⟩ := k.rest
    rw [same', same]
    exact ⟨_, _, rfl⟩
  refine ⟨rest, fun x hx => k.backlog x (h.backlog x hx), fun r q record => ?_, fun r p free record => ?_⟩
  · obtain ⟨q', record', raised⟩ := h.kept r q record
    obtain ⟨p, record'', raised'⟩ := k.kept r q' record'
    exact ⟨p, record'', raised'.trans raised⟩
  · cases between : t.record? r with
    | none =>
      obtain ⟨kind, urgent, y, owner, alone⟩ := k.made r p between record
      exact ⟨kind, urgent, y, owner, fun r' owned => alone r' (h.owned owned)⟩
    | some q =>
      obtain ⟨kind, urgent, y, owner, alone⟩ := h.made r q free between
      obtain ⟨p', record', raised⟩ := k.kept r q between
      cases record.symm.trans record'
      exact ⟨raised.kind.trans kind, raised.urgent urgent, y, raised.owner.trans owner, alone⟩

theorem raised (s : State) (r : RecIx) : s.Requests (s.modRecord r fun q =>
    if q.kind = .writeback then { q with urgency := .urgent } else q) := by
  refine ⟨⟨_, s.events, rfl⟩, fun _ h => h, fun r' q record => ?_, fun r' p free record => ?_⟩
  · rw [State.modRecord_eq, State.record_setRecord]
    split
    · next same =>
      subst same
      rw [record]
      refine ⟨_, rfl, ?_⟩
      dsimp only
      split
      · next kind => exact .inr ⟨kind, rfl⟩
      · exact .inl rfl
    · exact ⟨q, record, .inl rfl⟩
  · rw [State.modRecord_eq, State.record_setRecord] at record
    split at record
    · next same =>
      subst same
      rw [free] at record
      cases record
    · rw [free] at record
      cases record

theorem joined (s : State) (x : SectorRef) (e : Entry) : s.Requests (s.joinBacklog x e) :=
  ⟨⟨_, _, rfl⟩, fun _ h => State.backlogInsert_keeps s x _ h, fun _ q h => ⟨q, h, .inl rfl⟩, fun r p free record => by
    rw [show s.record? r = some p from record] at free
    cases free⟩

theorem made_record {s : State} {r : RecIx} (free : s.record? r = none) {x : SectorRef} (e : Entry)
    (alone : ∀ r', ¬ s.Owned x r') : s.Requests (s.makeRecord r (s.writebackRecord x e .urgent)) := by
  refine ⟨⟨_, s.events, rfl⟩, fun _ h => h, fun r' q record => ?_, fun r' p none record => ?_⟩
  · have other : r' ≠ r := fun same => by
      rw [same, free] at record
      cases record
    exact ⟨q, by rw [State.record_makeRecord, if_neg other, record], .inl rfl⟩
  · rw [State.record_makeRecord] at record
    split at record
    · cases record
      exact ⟨rfl, rfl, x, rfl, alone⟩
    · rw [none] at record
      cases record

theorem requestWrite (s : State) (x : SectorRef) : s.Requests (s.requestWrite x .urgent) := by
  obtain e | ⟨r, -, -, e⟩ | ⟨y, -, -, -, -, e⟩ | ⟨y, r, -, idle, -, -, -, free, e⟩ :=
    s.requestWrite_cases x .urgent <;> rw [e]
  · exact .refl s
  · exact raised s r
  · exact joined s x y
  · exact made_record (State.record_of_free free) y (State.opOf_eq_none.mp idle)

theorem drainEntry (s : State) (x : SectorRef) : s.Requests (s.drainEntry x) := by
  unfold State.drainEntry
  split
  · split
    · exact requestWrite s x
    · exact .refl s
  · exact .refl s

theorem drainAll (s : State) (l : List SectorRef) : s.Requests (l.foldl State.drainEntry s) :=
  foldl_invariant s.Requests State.drainEntry (fun t x ht => ht.trans (drainEntry t x)) l s (.refl s)

end State.Requests

/-! ## What the requests leave for a DIRTY entry -/

section Drained

variable {s t : State} {x : SectorRef}

theorem State.Requests.entry (h : s.Requests t) : t.entry? x = s.entry? x := by
  obtain ⟨p, v, rfl⟩ := h.rest
  rfl

/-- An entry with a record keeps its operation field: no other record is made for it. -/
theorem State.Requests.opOf (h : s.Requests t) {r : RecIx} (op : s.opOf x = some r) : t.opOf x = some r := by
  rw [State.opOf_congr fun r' => ?_, op]
  refine ⟨fun ⟨p, record, owner⟩ => ?_, h.owned⟩
  cases before : s.record? r' with
  | none =>
    obtain ⟨-, -, y, owner', alone⟩ := h.made r' p before record
    cases owner.symm.trans owner'
    exact absurd (State.owned_of_opOf op) (alone r)
  | some q =>
    obtain ⟨p', record', raised⟩ := h.kept r' q before
    cases record.symm.trans record'
    exact ⟨q, before, raised.owner.symm.trans owner⟩

theorem State.drainEntry_dirty {e : Entry} (entry : s.entry? x = some e) (dirty : e.state = .dirty) :
    s.drainEntry x = s.requestWrite x .urgent := by
  rw [State.drainEntry, entry]
  exact if_pos dirty

/-- A DIRTY entry that is requested has a record or a place on the Backlog List. -/
theorem State.drainEntry_provides {e : Entry} (entry : s.entry? x = some e) (dirty : e.state = .dirty) :
    (∃ r, (s.drainEntry x).Owned x r) ∨ x ∈ (s.drainEntry x).pool.backlog := by
  have requests := State.Requests.drainEntry s x
  cases op : s.opOf x with
  | some r => exact .inl ⟨r, requests.owned (State.owned_of_opOf op)⟩
  | none =>
    by_cases listed : x ∈ s.pool.backlog
    · exact .inr (requests.backlog x listed)
    · rw [State.drainEntry_dirty entry dirty]
      cases free : s.freeRecord? with
      | none =>
        rw [State.requestWrite_backlog entry op dirty listed .urgent (.inr free)]
        exact .inr (s.mem_backlogInsert x _ _)
      | some r =>
        cases taken : s.sectorTaken e.addr with
        | true =>
          rw [State.requestWrite_backlog entry op dirty listed .urgent (.inl taken)]
          exact .inr (s.mem_backlogInsert x _ _)
        | false =>
          rw [State.requestWrite_made entry op dirty listed .urgent taken free]
          exact .inl ⟨r, _, by rw [State.record_makeRecord, if_pos rfl], rfl⟩

/-- The write-back of a DIRTY entry that is requested is URGENT. -/
theorem State.drainEntry_urgent {e : Entry} (entry : s.entry? x = some e) (dirty : e.state = .dirty) {r : RecIx}
    {q : Record} (op : s.opOf x = some r) (record : s.record? r = some q) (kind : q.kind = .writeback) :
    (s.drainEntry x).record? r = some { q with urgency := .urgent } := by
  have raises : s.requestWrite x .urgent = s.modRecord r fun q =>
      if q.kind = .writeback then { q with urgency := .urgent } else q := by
    rw [State.requestWrite, entry, op]
    rfl
  rw [State.drainEntry_dirty entry dirty, raises, State.modRecord_eq, State.record_setRecord_self, record]
  exact congrArg some (if_pos kind)

end Drained

/-! ## All requests, one after the other -/

section DrainedAll

variable {s : State} {x : SectorRef} {e : Entry} {l : List SectorRef}

/-- Requests come before and after the one for the place `x` of the list. -/
theorem State.drainAll_at (s : State) (here : x ∈ l) : ∃ m, s.Requests m ∧
    (m.drainEntry x).Requests (l.foldl State.drainEntry s) := by
  obtain ⟨before, after, rfl⟩ := List.append_of_mem here
  rw [List.foldl_append, List.foldl_cons]
  exact ⟨_, .drainAll s before, .drainAll _ after⟩

theorem State.drainAll_provides (here : x ∈ l) (entry : s.entry? x = some e) (dirty : e.state = .dirty) :
    ((l.foldl State.drainEntry s).opOf x).isSome = true ∨ x ∈ (l.foldl State.drainEntry s).pool.backlog := by
  obtain ⟨m, before, after⟩ := State.drainAll_at s here
  refine (State.drainEntry_provides (before.entry.trans entry) dirty).imp (fun ⟨r, owned⟩ => ?_) (after.backlog x)
  exact State.opOf_isSome (after.owned owned)

theorem State.drainAll_urgent (here : x ∈ l) (entry : s.entry? x = some e) (dirty : e.state = .dirty) {r : RecIx}
    {q : Record} (op : s.opOf x = some r) (record : s.record? r = some q) (kind : q.kind = .writeback) :
    ∃ p, (l.foldl State.drainEntry s).record? r = some p ∧ p.kind = .writeback ∧ p.urgency = .urgent ∧
      p.owner = q.owner := by
  obtain ⟨m, before, after⟩ := State.drainAll_at s here
  obtain ⟨q', record', raised⟩ := before.kept r q record
  have urgent := State.drainEntry_urgent (before.entry.trans entry) dirty (before.opOf op) record'
    (raised.kind.trans kind)
  obtain ⟨p, last, raised'⟩ := after.kept r _ urgent
  exact ⟨p, last, raised'.kind.trans (raised.kind.trans kind), raised'.urgent rfl,
    raised'.owner.trans raised.owner⟩

end DrainedAll

end Sys2Proof.Machine
end

section
/-! SUPPORT. What entering STAGED leaves, part by part (R29), and the commands that lead there (R28, R36): O27. -/

namespace Sys2Proof.Machine

open Sys2Proof

/-! ## The parts of entering STAGED -/

/-- The records of window `w` that end when their fills are cancelled. -/
def State.freedFills (s : State) (w : WinIx) : List RecIx :=
  s.pool.order.filter fun r => decide (r ∈ (s.waitingFills w).filterMap s.waitingFill?)

/-- Window `w` as it enters STAGED, its fills and blank fills cancelled and nothing requested yet. -/
def State.undrained (s : State) (w : WinIx) : State :=
  ((s.cancelFills w).withdraw (Burst.blankOf w)).cancelEntries ((s.cancelFills w).waitingBlanks w)

section Parts

variable {s : State} {w : WinIx} {x : SectorRef} {e : Entry} {r : RecIx}

theorem State.enterStaged_requests : (s.undrained w).Requests (s.enterStaged w) := .drainAll _ _

theorem State.cancelFills_freed :
    (s.cancelEntries (s.waitingFills w)).Freed (s.cancelFills w) (s.freedFills w) := State.freeAll_freed _ _

theorem State.undrained_eq : ∃ ws bs, s.undrained w = { s.cancelFills w with windows := ws, bursts := bs } ∧
    { (s.cancelFills w).bursts with
      queue := (s.cancelFills w).bursts.queue.filter fun u => !u.blankOf w }.Joined bs := by
  obtain ⟨bs, withdrawn, joined⟩ := (s.cancelFills w).withdraw_joined (Burst.blankOf w)
  obtain ⟨ws, cancelled, -⟩ := ((s.cancelFills w).withdraw (Burst.blankOf w)).cancelEntries_windows
    ((s.cancelFills w).waitingBlanks w)
  rw [withdrawn] at cancelled
  exact ⟨ws, bs, (congrArg (State.cancelEntries · _) withdrawn).trans cancelled, joined⟩

theorem State.mem_refsOfWindow {i : Nat} (entry : s.entry? ⟨w, i⟩ = some e) : ⟨w, i⟩ ∈ s.refsOfWindow w :=
  List.mem_map.mpr ⟨i, List.mem_range.mpr (List.getElem?_eq_some_iff.mp entry).1, rfl⟩

/-- The record of an entry whose fill is WAITING is a fill or a prefetch of that entry. -/
theorem State.waitingFill?_spec (waits : s.waitingFill? x = some r) : s.opOf x = some r ∧
    ∃ q, s.record? r = some q ∧ q.owner = some x ∧ (q.kind = .fill ∨ q.kind = .prefetch) := by
  unfold State.waitingFill? at waits
  (repeat' split at waits) <;> cases waits
  next q fill op record =>
    obtain ⟨q', record', owner⟩ := State.owned_of_opOf op
    cases record.symm.trans record'
    obtain ⟨kind, -⟩ := fill
    exact ⟨op, q, record, owner, kind⟩

theorem State.waitingFill?_of {q : Record} (op : s.opOf x = some r) (record : s.record? r = some q)
    (kind : q.kind = .fill ∨ q.kind = .prefetch) (waits : q.phase = .waiting) : s.waitingFill? x = some r := by
  simp only [State.waitingFill?, op, record]
  exact if_pos ⟨kind, waits⟩

/-- A record that ends with its cancelled fill is a fill or a prefetch of an entry that has no other. -/
theorem State.freedFills_spec (freed : r ∈ s.freedFills w) : ∃ y, s.opOf y = some r ∧
    ∃ q, s.record? r = some q ∧ q.owner = some y ∧ (q.kind = .fill ∨ q.kind = .prefetch) := by
  obtain ⟨y, -, waits⟩ := List.mem_filterMap.mp (of_decide_eq_true (List.mem_filter.mp freed).2)
  exact ⟨y, State.waitingFill?_spec waits⟩

/-! ## Entries -/

/-- A dirty entry stays as it is (R29). -/
theorem State.undrained_dirty (entry : s.entry? x = some e) (dirty : e.state.isDirty = true) :
    (s.undrained w).entry? x = some e := by
  have first : (s.cancelEntries (s.waitingFills w)).entry? x = some e := by
    rw [State.entry_cancelEntries, entry, Option.map_some, Entry.fillCancelled_dirty dirty, ite_self]
  have freed : (s.cancelFills w).entry? x = some e := entry_of_fills State.cancelFills_freed.fills first
    fun queued => by
      rw [queued] at dirty
      cases dirty
  rw [State.undrained, State.entry_cancelEntries, State.entry_congr (State.withdraw_windows _ _), freed,
    Option.map_some, Entry.fillCancelled_dirty dirty, ite_self]

/-- An entry that is ABSENT once the fills are cancelled is so to the end. -/
theorem State.undrained_absent {a : DiskAddr}
    (first : (s.cancelEntries (s.waitingFills w)).entry? x = some (Entry.new a)) :
    (s.undrained w).entry? x = some (Entry.new a) := by
  have freed : (s.cancelFills w).entry? x = some (Entry.new a) :=
    entry_of_fills State.cancelFills_freed.fills first fun queued => by cases queued
  have still : (Entry.new a).fillCancelled = Entry.new a := rfl
  rw [State.undrained, State.entry_cancelEntries, State.entry_congr (State.withdraw_windows _ _), freed,
    Option.map_some, still, ite_self]

/-- An entry whose fill was WAITING is ABSENT (R29, first item). -/
theorem State.undrained_waiting {i : Nat} (entry : s.entry? ⟨w, i⟩ = some e) (queued : e.state = .queued)
    (waits : s.waitingFill? ⟨w, i⟩ = some r) : (s.undrained w).entry? ⟨w, i⟩ = some (Entry.new e.addr) := by
  have listed : ⟨w, i⟩ ∈ s.waitingFills w :=
    List.mem_filter.mpr ⟨State.mem_refsOfWindow entry, by rw [waits]; rfl⟩
  refine State.undrained_absent ?_
  rw [State.entry_cancelEntries, if_pos listed, entry, Option.map_some, Entry.fillCancelled_waiting (.inl queued)]

/-- While a burst runs, what joins the queue as the fills are cancelled serves no entry. -/
theorem State.cancelFills_joined : s.bursts.Joined (s.cancelFills w).bursts := by
  obtain ⟨ws, cancelled, -⟩ := s.cancelEntries_windows (s.waitingFills w)
  have joined := (State.cancelFills_freed (s := s) (w := w)).joined
  rwa [cancelled] at joined

/-- While a burst runs, no waiting burst of the queue is a blank fill of the window any more (R12, R29). -/
theorem State.undrained_queue {i : Nat} {v : Burst} (running : s.bursts.running ≠ none)
    (queued : v ∈ (s.undrained w).bursts.queue) (kind : v.kind = .blankFill) : v.served ≠ some ⟨w, i⟩ := by
  intro served
  obtain ⟨same, -⟩ := State.cancelFills_joined (w := w) running
  obtain ⟨ws, bs, undrained, joined⟩ := State.undrained_eq (s := s) (w := w)
  obtain ⟨-, l, queue, unserved⟩ := joined (same ▸ running)
  rw [undrained, queue] at queued
  obtain stays | joins := List.mem_append.mp queued
  · have other := (List.mem_filter.mp stays).2
    simp [Burst.blankOf, kind, served] at other
  · rw [unserved v joins] at served
    cases served

/-- An entry whose blank fill waited is ABSENT (R12, R29). -/
theorem State.undrained_blank {i : Nat} {v : Burst} (entry : s.entry? ⟨w, i⟩ = some e) (filling : e.state = .filling)
    (running : s.bursts.running ≠ none) (queued : v ∈ s.bursts.queue) (kind : v.kind = .blankFill)
    (served : v.served = some ⟨w, i⟩) : (s.undrained w).entry? ⟨w, i⟩ = some (Entry.new e.addr) := by
  by_cases listed : ⟨w, i⟩ ∈ s.waitingFills w
  · refine State.undrained_absent ?_
    rw [State.entry_cancelEntries, if_pos listed, entry, Option.map_some, Entry.fillCancelled_waiting (.inr filling)]
  · have first : (s.cancelEntries (s.waitingFills w)).entry? ⟨w, i⟩ = some e := by
      rw [State.entry_cancelEntries, if_neg listed, entry]
    have freed : (s.cancelFills w).entry? ⟨w, i⟩ = some e := entry_of_fills State.cancelFills_freed.fills first
      fun queued => by
        rw [filling] at queued
        cases queued
    have blank : ⟨w, i⟩ ∈ (s.cancelFills w).waitingBlanks w := by
      obtain ⟨-, l, queue, -⟩ := State.cancelFills_joined (w := w) running
      refine List.mem_filterMap.mpr ⟨v, List.mem_filter.mpr ⟨?_, ?_⟩, served⟩
      · rw [queue]
        exact List.mem_append_left l queued
      · simp [Burst.blankOf, kind, served]
    rw [State.undrained, State.entry_cancelEntries, if_pos blank, State.entry_congr (State.withdraw_windows _ _),
      freed, Option.map_some, Entry.fillCancelled_waiting (.inr filling)]

/-! ## Records -/

theorem State.record_cancelEntries (l : List SectorRef) : (s.cancelEntries l).record? r = s.record? r := by
  obtain ⟨ws, cancelled, -⟩ := s.cancelEntries_windows l
  rw [cancelled]
  rfl

theorem State.undrained_pool : (s.undrained w).pool = (s.cancelFills w).pool := by
  obtain ⟨ws, bs, undrained, -⟩ := State.undrained_eq (s := s) (w := w)
  rw [undrained]

/-- A record that does not end with its fill stands, what the lending of buffers changes apart. -/
theorem State.undrained_other (stays : r ∉ s.freedFills w) :
    ((s.undrained w).record? r).map Record.unlent = (s.record? r).map Record.unlent := by
  rw [State.record?, State.undrained_pool]
  refine (State.cancelFills_freed.others r stays).trans ?_
  rw [State.record_cancelEntries]

/-- A record that ended with its fill is free or has been handed on (R73). -/
theorem State.undrained_handed {q : Record} (freed : r ∈ s.freedFills w)
    (record : (s.undrained w).record? r = some q) : q.HandedOn s.pool.backlog := by
  rw [State.record?, State.undrained_pool] at record
  have handed := State.cancelFills_freed.handed r freed q record
  obtain ⟨ws, cancelled, -⟩ := s.cancelEntries_windows (s.waitingFills w)
  rwa [cancelled] at handed

theorem State.record_of_unlent {t : State} {q : Record}
    (same : (t.record? r).map Record.unlent = (s.record? r).map Record.unlent) (record : s.record? r = some q) :
    ∃ p, t.record? r = some p ∧ p.kind = q.kind ∧ p.owner = q.owner := by
  rw [record] at same
  obtain ⟨p, record', unlent⟩ := Option.map_eq_some_iff.mp same
  obtain ⟨kind, owner, -⟩ := Record.same_of_unlent unlent
  exact ⟨p, record', kind, owner⟩

theorem State.owned_of_unlent {t : State}
    (same : (t.record? r).map Record.unlent = (s.record? r).map Record.unlent) (owned : s.Owned x r) :
    t.Owned x r := by
  obtain ⟨q, record, owner⟩ := owned
  obtain ⟨p, record', -, owner'⟩ := State.record_of_unlent same record
  exact ⟨p, record', owner'.trans owner⟩

/-- A DIRTY entry off the Backlog List that has a write-back keeps it as its first record. -/
theorem State.undrained_writeback {q : Record} (op : s.opOf x = some r) (record : s.record? r = some q)
    (kind : q.kind = .writeback) (unlisted : x ∉ s.pool.backlog) : (s.undrained w).opOf x = some r ∧
      ∃ p, (s.undrained w).record? r = some p ∧ p.kind = .writeback ∧ p.owner = some x := by
  have others {r' : RecIx} (owned : s.Owned x r') : r' ∉ s.freedFills w := fun freed => by
    obtain ⟨y, op', q', record', owner', fill⟩ := State.freedFills_spec freed
    obtain ⟨q'', record'', owner''⟩ := owned
    cases record'.symm.trans record''
    cases owner'.symm.trans owner''
    cases op.symm.trans op'
    cases record.symm.trans record'
    rw [kind] at fill
    obtain fill | fill := fill <;> cases fill
  refine ⟨(State.opOf_congr fun r' => ⟨fun owned => ?_, fun owned => ?_⟩).trans op, ?_⟩
  · by_cases freed : r' ∈ s.freedFills w
    · obtain ⟨p, record', owner⟩ := owned
      obtain ⟨-, none⟩ | ⟨-, -, y, listed, owner'⟩ := State.undrained_handed freed record'
      · cases none.symm.trans owner
      · cases owner'.symm.trans owner
        exact absurd listed unlisted
    · exact State.owned_of_unlent (State.undrained_other freed).symm owned
  · exact State.owned_of_unlent (State.undrained_other (others owned)) owned
  · have owned := State.owned_of_opOf op
    obtain ⟨p, record', kind', owner'⟩ := State.record_of_unlent (State.undrained_other (others owned)) record
    obtain ⟨q', record'', owner''⟩ := owned
    cases record.symm.trans record''
    exact ⟨p, record', kind'.trans kind, owner'.trans owner''⟩

/-- An entry that had no record has only URGENT write-backs. -/
theorem State.undrained_alone {q : Record} (op : s.opOf x = none) (record : (s.undrained w).record? r = some q)
    (owner : q.owner = some x) : q.kind = .writeback ∧ q.urgency = .urgent := by
  by_cases freed : r ∈ s.freedFills w
  · obtain ⟨-, none⟩ | ⟨kind, urgent, -⟩ := State.undrained_handed freed record
    · cases none.symm.trans owner
    · exact ⟨kind, urgent⟩
  · exact absurd (State.owned_of_unlent (State.undrained_other freed).symm ⟨q, record, owner⟩)
      (State.opOf_eq_none.mp op r)

/-! ## The window -/

theorem State.undrained_staged {b : Binding} {next : Option Binding} {n : Nat}
    (staged : StagedWith s.windows w b next n) : StagedWith (s.undrained w).windows w b next n := by
  obtain ⟨ws, first, keeps⟩ := s.cancelEntries_windows (s.waitingFills w)
  have freed := (keeps w b next n staged).fills (vs := (s.cancelFills w).windows)
    (by have fills := (State.cancelFills_freed (s := s) (w := w)).fills; rwa [first] at fills)
  obtain ⟨vs, last, keeps'⟩ := ((s.cancelFills w).withdraw (Burst.blankOf w)).cancelEntries_windows
    ((s.cancelFills w).waitingBlanks w)
  rw [State.undrained, last]
  exact keeps' w b next n (by rwa [State.withdraw_windows])

end Parts

end Sys2Proof.Machine
end

section
/-! SUPPORT. STAGE and RELEASE (R28, R29, R36): O27. -/

namespace Sys2Proof.Machine

open Sys2Proof

section Entered

variable {s : State} {w : WinIx} {i : Nat} {e : Entry} {r : RecIx}

theorem State.enterStaged_staged {b : Binding} {next : Option Binding} {n : Nat}
    (staged : StagedWith s.windows w b next n) : StagedWith (s.enterStaged w).windows w b next n := by
  obtain ⟨p, v, requested⟩ := (State.enterStaged_requests (s := s) (w := w)).rest
  rw [requested]
  exact State.undrained_staged staged

theorem State.enterStaged_entry {x : SectorRef} : (s.enterStaged w).entry? x = (s.undrained w).entry? x :=
  State.enterStaged_requests.entry

/-- What a DIRTY entry is provided with (R29, third item). -/
theorem State.enterStaged_dirty (entry : s.entry? ⟨w, i⟩ = some e) (dirty : e.state = .dirty) :
    (((s.enterStaged w).opOf ⟨w, i⟩).isSome = true ∨ ⟨w, i⟩ ∈ (s.enterStaged w).pool.backlog) ∧
    (∀ r q, s.opOf ⟨w, i⟩ = some r → s.record? r = some q → q.kind = .writeback → ⟨w, i⟩ ∉ s.pool.backlog →
      ∃ q', (s.enterStaged w).record? r = some q' ∧ q'.kind = .writeback ∧ q'.urgency = .urgent ∧
        q'.owner = some ⟨w, i⟩) ∧
    (∀ r q, s.opOf ⟨w, i⟩ = none → (s.enterStaged w).opOf ⟨w, i⟩ = some r →
      (s.enterStaged w).record? r = some q → q.kind = .writeback ∧ q.urgency = .urgent) := by
  have stays : (s.undrained w).entry? ⟨w, i⟩ = some e := State.undrained_dirty entry (by rw [dirty]; rfl)
  have listed := State.mem_refsOfWindow stays
  refine ⟨State.drainAll_provides listed stays dirty, fun r q op record kind unlisted => ?_,
    fun r q op op' record => ?_⟩
  · obtain ⟨op', p, record', kind', owner⟩ := State.undrained_writeback op record kind unlisted
    obtain ⟨p', last, kind'', urgent, owner'⟩ := State.drainAll_urgent listed stays dirty op' record' kind'
    exact ⟨p', last, kind'', urgent, owner'.trans owner⟩
  · obtain ⟨q', record', owner⟩ := State.owned_of_opOf op'
    cases record.symm.trans record'
    have requests := State.enterStaged_requests (s := s) (w := w)
    cases before : (s.undrained w).record? r with
    | none =>
      obtain ⟨kind, urgent, -⟩ := requests.made r q before record
      exact ⟨kind, urgent⟩
    | some p =>
      obtain ⟨p', last, raised⟩ := requests.kept r p before
      cases record.symm.trans last
      obtain ⟨kind, urgent⟩ := State.undrained_alone op before (raised.owner.symm.trans owner)
      exact ⟨raised.kind.trans kind, raised.urgent urgent⟩

/-- A record that ended with its fill is free, a stamp read or a write-back (R73). -/
theorem State.enterStaged_freed {q : Record} (freed : r ∈ s.freedFills w)
    (record : (s.enterStaged w).record? r = some q) : q.kind = .stampRead ∨ q.kind = .writeback := by
  have requests := State.enterStaged_requests (s := s) (w := w)
  cases before : (s.undrained w).record? r with
  | none =>
    obtain ⟨kind, -⟩ := requests.made r q before record
    exact .inr kind
  | some p =>
    obtain ⟨p', last, raised⟩ := requests.kept r p before
    cases record.symm.trans last
    exact (State.undrained_handed freed before).imp (fun ⟨kind, _⟩ => raised.kind.trans kind)
      fun ⟨kind, _⟩ => raised.kind.trans kind

theorem State.enterStaged_bursts : (s.enterStaged w).bursts = (s.undrained w).bursts := by
  obtain ⟨p, v, requested⟩ := (State.enterStaged_requests (s := s) (w := w)).rest
  rw [requested]

/-- The record of an entry whose fill is WAITING ends with it. -/
theorem State.mem_freedFills (entry : s.entry? ⟨w, i⟩ = some e) (waits : s.waitingFill? ⟨w, i⟩ = some r)
    (used : r ∈ s.pool.order) : r ∈ s.freedFills w := by
  have listed : ⟨w, i⟩ ∈ s.waitingFills w :=
    List.mem_filter.mpr ⟨State.mem_refsOfWindow entry, by rw [waits]; rfl⟩
  exact List.mem_filter.mpr ⟨used, decide_eq_true (List.mem_filterMap.mpr ⟨_, listed, waits⟩)⟩

end Entered

theorem State.stageWindow_bound {s : State} {w : WinIx} {b : Binding} {es : List Entry}
    (bound : s.window w = .bound b es) (next : Option Binding) :
    s.stageWindow w next = (s.setWindow w (.staged b next es)).enterStaged w := by
  rw [State.stageWindow, bound]

theorem State.stageWindow_staged {s : State} {w : WinIx} {b : Binding} {old : Option Binding} {es : List Entry}
    (staged : s.window w = .staged b old es) (next : Option Binding) :
    s.stageWindow w next = s.setWindow w (.staged b next es) := by
  rw [State.stageWindow, staged]

section Outcome

variable {s t : State} {w : WinIx} {b : Binding} {next : Option Binding} {es : List Entry} {i : Nat} {e : Entry}

theorem State.record_of_pool (same : t.pool = s.pool) (r : RecIx) : t.record? r = s.record? r :=
  State.record_congr (congrArg Pool.records same) r

theorem State.opOf_of_pool (same : t.pool = s.pool) (x : SectorRef) : t.opOf x = s.opOf x :=
  State.opOf_congr fun r => by rw [State.Owned, State.record_of_pool same]; rfl

theorem State.entry_of_window (window : s.window w = .staged b next es) (here : es[i]? = some e) :
    s.entry? ⟨w, i⟩ = some e := by
  rw [State.entry?, window]
  exact here

/-- The entries of the window that has entered STAGED. -/
def State.drained (s : State) (w : WinIx) : List Entry := ((s.enterStaged w).window w).entries

theorem State.drained_staged (window : s.window w = .staged b next es) :
    (s.enterStaged w).window w = .staged b next (s.drained w) ∧ (s.drained w).length = es.length := by
  obtain ⟨es', shape, length⟩ := State.enterStaged_staged (s := s) (w := w) ⟨es, window, rfl⟩
  have drained : s.drained w = es' := congrArg Window.entries shape
  rw [drained]
  exact ⟨shape, length⟩

theorem State.drained_entry (h : (s.undrained w).entry? ⟨w, i⟩ = some e) : (s.drained w)[i]? = some e := by
  have last := (State.enterStaged_entry (s := s) (w := w) (x := ⟨w, i⟩)).trans h
  exact last

end Outcome

/-- Settles O27: a STAGED window takes the new binding alone; a BOUND one enters STAGED, part by part; and
the refusals. -/
theorem stageAndReleaseStartTheDrain : Obligations.StageAndReleaseStartTheDrain := by
  refine fun window r s running => ⟨fun w b n old es named staged => ?_,
    fun w b es named bound c next given => ?_, fun outside => ?_, fun w named unbound => ?_,
    fun w named bound => ⟨fun refused => ?_, fun n binding conflict => ?_⟩⟩
  · have named := windowOf_of_toNat named
    have held : s.window w ≠ .unbound := fun unbound => by
      rw [staged] at unbound
      cases unbound
    refine ⟨fun binding free => ?_, ?_⟩
    · have judged := (State.judgeStage_bound r named held).trans (State.judgeOffer_ok binding free)
      rw [exec_stage running, State.linkStage_ok judged,
        State.stageWindow_staged (s := s.takeCommand 0x11 (window :: bindRecordBytes r)) staged]
      rfl
    · rw [exec_release running, State.linkRelease_bound named held,
        State.stageWindow_staged (s := s.takeCommand 0x13 [window, 0]) staged]
      rfl
  · have named := windowOf_of_toNat named
    have held : s.window w ≠ .unbound := fun unbound => by
      rw [bound] at unbound
      cases unbound
    have command : ∃ code operands, exec c s = .next
        ((((s.takeCommand code operands).setWindow w (.staged b next es)).enterStaged w).respond .done []).settle := by
      obtain ⟨rfl, rfl⟩ | ⟨n, rfl, rfl, binding, free⟩ := given
      · refine ⟨0x13, [window, 0], ?_⟩
        rw [exec_release running, State.linkRelease_bound named held,
          State.stageWindow_bound (s := s.takeCommand 0x13 [window, 0]) bound]
      · have judged := (State.judgeStage_bound r named held).trans (State.judgeOffer_ok binding free)
        refine ⟨0x11, window :: bindRecordBytes r, ?_⟩
        rw [exec_stage running, State.linkStage_ok judged,
          State.stageWindow_bound (s := s.takeCommand 0x11 (window :: bindRecordBytes r)) bound]
    obtain ⟨code, operands, command⟩ := command
    obtain ⟨t, before⟩ : ∃ t, t = (s.takeCommand code operands).setWindow w (.staged b next es) := ⟨_, rfl⟩
    have window : t.window w = .staged b next es := by rw [before, State.window_setWindow_self]
    have pool : t.pool = s.pool := by rw [before]; rfl
    have bursts : t.bursts = s.bursts := by rw [before]; rfl
    have memory : (t.enterStaged w).memory = s.memory :=
      (congrArg Steady.memory (t.enterStaged_steady w)).trans (by rw [before]; rfl)
    have windowAfter : ((t.enterStaged w).respond .done []).window w = (t.enterStaged w).window w :=
      State.window_congr (State.respond_windows ..) w
    have opAfter := State.opOf_of_pool (State.respond_pool (t.enterStaged w) .done [])
    have recordAfter := State.record_of_pool (State.respond_pool (t.enterStaged w) .done [])
    obtain ⟨shape, length⟩ := State.drained_staged window
    rw [← before] at command
    simp only [← State.opOf_of_pool pool, ← State.record_of_pool pool, ← pool, ← bursts]
    refine ⟨_, t.drained w, command, ?_⟩
    simp only [windowAfter, opAfter, recordAfter, State.respond_link, State.respond_memory, State.respond_pool,
      State.respond_bursts]
    refine ⟨shape, length, rfl, memory, fun i e here dirty => ?_,
      fun i e r q here queued op record kind waits => ?_, fun i e v here filling runs queued kind served => ?_⟩
    · have entry := State.entry_of_window window here
      have stays := State.drained_entry (State.undrained_dirty (w := w) entry dirty)
      refine ⟨stays, fun dirty => ?_, fun r q dirty => ?_, fun r q dirty => ?_⟩
      all_goals obtain ⟨provided, kept, alone⟩ := State.enterStaged_dirty entry dirty
      · exact provided
      · exact kept r q
      · exact alone r q
    · have entry := State.entry_of_window window here
      have waiting := State.waitingFill?_of op record kind waits
      exact ⟨State.drained_entry (State.undrained_waiting entry queued waiting),
        fun used q' => State.enterStaged_freed (State.mem_freedFills entry waiting used)⟩
    · have entry := State.entry_of_window window here
      refine ⟨State.drained_entry (State.undrained_blank entry filling runs queued kind served),
        fun v' queued' kind' => State.undrained_queue runs ?_ kind'⟩
      rwa [← State.enterStaged_bursts]
  · have outside := windowOf_of_gt outside
    rw [exec_stage running, exec_release running, State.linkRelease_outside outside,
      State.linkStage_error (State.judgeStage_outside r outside)]
    exact ⟨rfl, rfl⟩
  · have named := windowOf_of_toNat named
    rw [exec_stage running, exec_release running, State.linkRelease_unbound named unbound,
      State.linkStage_error (State.judgeStage_unbound r named unbound)]
    exact ⟨rfl, rfl⟩
  · have judged := (State.judgeStage_bound r (windowOf_of_toNat named) bound).trans
      (State.judgeOffer_none w refused)
    rw [exec_stage running, State.linkStage_error judged]
  · have judged := (State.judgeStage_bound r (windowOf_of_toNat named) bound).trans
      (State.judgeOffer_conflict binding conflict)
    rw [exec_stage running, State.linkStage_error judged]

end Sys2Proof.Machine
end

section
/-! SUPPORT. A change that is not on disk yet: what the work of the part, cycles and bursts leave of it (R43). -/

namespace Sys2Proof.Machine

open Sys2Proof

/-! ## Windows that hold a change -/

/-- The entry at place `x`, for the disk address `a`, is in a dirty state. -/
def HoldsIn (ws : Vector Window 16) (x : SectorRef) (a : DiskAddr) : Prop :=
  ∃ e, ws[x.win].entries[x.idx]? = some e ∧ e.state.isDirty = true ∧ e.addr = a

/-- A change of an entry that ends no time in the dirty states. -/
def Entry.Spares (f : Entry → Entry) : Prop :=
  ∀ e, e.state.isDirty = true → (f e).state.isDirty = true ∧ (f e).addr = e.addr

theorem Entry.Keeps.spares {f : Entry → Entry} (keeps : Entry.Keeps f) : Entry.Spares f := fun e dirty =>
  ⟨(keeps.dirty e).trans dirty, keeps.addr e⟩

/-- A change that acts in one state only, which is not dirty, ends no time in the dirty states. -/
theorem Entry.Spares.of_clean {st : SectorState} {f g : Entry → Entry} (clean : st.isDirty = false)
    (same : ∀ e, g e = if e.state = st then f e else e) : Entry.Spares g := by
  intro e dirty
  have other : e.state ≠ st := fun at_st => by
    rw [at_st, clean] at dirty
    cases dirty
  rw [same, if_neg other]
  exact ⟨dirty, rfl⟩

theorem Entry.firstWrite_spares (attached : Bool) (now : Coarse) : Entry.Spares (Entry.firstWrite attached now) :=
  .of_clean (st := .clean) rfl fun _ => rfl

theorem Entry.blankEnds_spares (attached : Bool) (now : Coarse) : Entry.Spares (Entry.blankEnds attached now) :=
  .of_clean (st := .filling) rfl fun _ => rfl

namespace HoldsIn

variable {ws vs : Vector Window 16} {x : SectorRef} {a : DiskAddr}

/-- A window gives way to one that has its dirty entries in their places. -/
theorem set (h : HoldsIn ws x a) {w : WinIx} {v : Window}
    (keeps : ∀ (i : Nat) (e : Entry), ws[w].entries[i]? = some e → e.state.isDirty = true →
      ∃ e' : Entry, v.entries[i]? = some e' ∧ e'.state.isDirty = true ∧ e'.addr = e.addr) :
    HoldsIn (ws.set w v) x a := by
  obtain ⟨e, here, dirty, rfl⟩ := h
  unfold HoldsIn
  rw [windows_set]
  split
  · next same => 
    subst same
    exact keeps x.idx e here dirty
  · exact ⟨e, here, dirty, rfl⟩

theorem entry (h : HoldsIn ws x a) (w : WinIx) (i : Nat) {f : Entry → Entry} (spares : Entry.Spares f) :
    HoldsIn (ws.set w (ws[w].modEntry i f)) x a := by
  refine h.set fun j e here dirty => ?_
  rw [Window.entries_modEntry, List.getElem?_modify, here]
  split
  · obtain ⟨dirty', addr⟩ := spares e dirty
    exact ⟨f e, rfl, dirty', addr⟩
  · exact ⟨e, rfl, dirty, rfl⟩

/-- A step of the part by itself: only quiet windows are swapped. -/
theorem step (h : HoldsIn ws x a) (step : WindowsStep ws vs) : HoldsIn vs x a := by
  cases step with
  | entry w i keeps => exact h.entry w i keeps.spares
  | unmark k =>
    obtain ⟨e, here, dirty, addr⟩ := h
    have get : (ws.map (Window.mapEntries (Entry.unmark k)))[x.win] = ws[x.win].mapEntries (Entry.unmark k) :=
      Vector.getElem_map ..
    unfold HoldsIn
    rw [get, Window.entries_mapEntries, List.getElem?_map, here]
    exact ⟨e.unmark k, rfl, dirty, addr⟩
  | swap staged quiet =>
    refine h.set fun i e here dirty => ?_
    rw [staged] at here
    have still := quiet e (List.mem_of_getElem? here)
    cases state : e.state <;> rw [state] at still dirty <;> cases still <;> cases dirty

theorem steps (h : HoldsIn ws x a) (steps : Relation.ReflTransGen WindowsStep ws vs) : HoldsIn vs x a := by
  induction steps with
  | refl => exact h
  | tail _ one ih => exact ih.step one

end HoldsIn

/-! ## States that hold a change -/

/-- The entry at place `x`, for the disk address `a`, is in a dirty state. -/
def State.Holds (s : State) (x : SectorRef) (a : DiskAddr) : Prop := HoldsIn s.windows x a

theorem State.drifts_askFor (s : State) (x : SectorRef) (b : Binding) (e : Entry) :
    s.Drifts 0 (s.askFor x b e) := by
  have t := State.Drifts.refl s
  unfold State.askFor
  split
  · exact ((t.ite ((t.modEntry x Entry.blankBegins_keeps).joinQueue _).startNext).ite (t.requestFill x e)).ite t
  · exact t.raiseFill x
  · exact t.raiseFill x
  all_goals exact t

theorem State.drifts_endDelivery (s : State) (u : Burst) : s.Drifts 0 (s.endDelivery u) := by
  have t := State.Drifts.refl s
  unfold State.endDelivery
  split
  · exact t.handBuffers
  · next r _ =>
    split
    · exact t.handBuffers
    · split
      · exact t.freeRecord r
      · next x _ =>
        have delivered := (t.modEntry x (Entry.delivered_keeps u.damaged)).freeRecord r
        dsimp only
        split
        · exact delivered.readAhead _ _ _
        · exact delivered

theorem State.drifts_endCopyOut (s : State) (u : Burst) : s.Drifts 0 (s.endCopyOut u) := by
  have t := State.Drifts.refl s
  unfold State.endCopyOut
  split
  · exact t.handBuffers
  · next r _ =>
    have ended {v : State} (h : s.Drifts 0 v) {p : Prop} [Decidable p] : s.Drifts 0
        (if p then (v.modRecord r fun q => { q with copied := true }).requestChannel u.drive
          else v.modRecord r fun q => { q with copied := true }) :=
      ((h.modRecord r _).requestChannel u.drive).ite (h.modRecord r _)
    dsimp only
    cases s.burstOwner u with
    | some x => exact ended (t.modEntry x Entry.copyEnds_keeps)
    | none => exact ended t

theorem State.drifts_beginCopy (s : State) (u : Burst) : s.Drifts 0 (s.beginCopy u) := by
  have t := State.Drifts.refl s
  unfold State.beginCopy
  refine State.Drifts.ite ?_ t
  split
  · exact t.modEntry _ Entry.copyBegins_keeps
  · exact t

namespace State.Holds

variable {s : State} {x : SectorRef} {a : DiskAddr}

/-- What the part does by itself keeps a change. -/
theorem drift (h : s.Holds x a) {n : Nat} {t : State} (k : s.Drifts n t) : t.Holds x a := h.steps k.windows

/-- The windows stand. -/
theorem same (h : s.Holds x a) {t : State} (windows : t.windows = s.windows) : t.Holds x a := by
  unfold State.Holds
  rwa [windows]

theorem ite {p : Prop} [Decidable p] {t : State} (hs : s.Holds x a) (ht : t.Holds x a) :
    (if p then s else t).Holds x a := by
  split
  · exact hs
  · exact ht

theorem modEntry (h : s.Holds x a) (y : SectorRef) {f : Entry → Entry} (spares : Entry.Spares f) :
    (s.modEntry y f).Holds x a := h.entry y.win y.idx spares

theorem settle (h : s.Holds x a) : s.settle.Holds x a := h.drift (State.Drifts.refl s).settle

theorem whileRunning (h : s.Holds x a) {f : State → State} (hf : (f s).Holds x a) :
    (s.whileRunning f).Holds x a := hf.ite h

theorem perform (h : s.Holds x a) {f : State → State} (hf : (f s).Holds x a) : (s.perform f).Holds x a :=
  hf.settle.ite h

/-- Work of the part itself, with the swaps and choices that follow it. -/
theorem work (h : s.Holds x a) {f : State → State} (hf : s.Drifts 0 (f s)) : (s.perform f).Holds x a :=
  h.perform (h.drift hf)

/-! ## Cycles and bursts -/

theorem noteServed (h : s.Holds x a) (tag : Tag) (y : SectorRef) : (s.noteServed tag y).Holds x a := by
  unfold State.noteServed
  split <;> exact h

theorem noteDefer (h : s.Holds x a) (tag : Tag) (y : SectorRef) : (s.noteDefer tag y).Holds x a := by
  unfold State.noteDefer
  split <;> exact h

theorem writeFor (h : s.Holds x a) (n : Nat) (c : Access) : (s.writeFor n c).Holds x a := by
  cases c <;> exact h

/-- A passed write begins a time in the dirty states, or goes on with it (R8, R9). -/
theorem noteWrite (h : s.Holds x a) (y : SectorRef) (b : Binding) (e : Entry) :
    (s.noteWrite y b e).Holds x a := by
  unfold State.noteWrite
  split
  · have t := h.modEntry y (Entry.firstWrite_spares (s.attached b.drive) s.clock.coarse)
    exact (t.same (State.requestWrite_windows _ y .normal)).ite t
  · exact h.modEntry y (Entry.rewritten_keeps s.clock.coarse).spares
  all_goals exact h

theorem judge (h : s.Holds x a) (c : UpCycle) (y : SectorRef) (b : Binding) (e : Entry) :
    (s.judge c y b e).Holds x a := by
  have answered {t : State} (ht : t.Holds x a) (w : Answer) (o : Option ReadData) : (t.answered w o).Holds x a := ht
  have refused (p : Path) (v : Event) : ({ s with path := p }.raise v).Holds x a := h
  unfold State.judge
  dsimp only
  split
  · exact answered ((refused _ _).noteServed c.tag y) _ _
  · split
    · exact (answered (((h.noteWrite y b e).ite h).noteServed c.tag y) _ _).writeFor _ _
    · exact answered (h.noteServed c.tag y) _ _
    · split
      · exact h
      · exact answered ((h.ite (h.drift (s.drifts_askFor y b e))).noteDefer c.tag y) _ _

theorem decodeCycle (h : s.Holds x a) (c : UpCycle) : (s.decodeCycle c).Holds x a := by
  have outside : ((s.answered .pass (s.readFor c.addr.toNat c.access)).writeFor c.addr.toNat c.access).Holds x a :=
    writeFor (s := s.answered _ _) h _ _
  unfold State.decodeCycle
  dsimp only
  split
  · exact outside
  · split
    · exact h.judge c _ _ _
    · exact outside

/-- The last word of a blank fill begins a time in the dirty states (R12). -/
theorem endBlank (h : s.Holds x a) (u : Burst) : (s.endBlank u).Holds x a := by
  unfold State.endBlank
  split
  · exact h
  · next y _ =>
    split
    · exact h
    · next b _ =>
      have t := h.modEntry y (Entry.blankEnds_spares (s.attached b.drive) s.clock.coarse)
      have requested (p : Urgency) := t.same (State.requestWrite_windows _ y p)
      exact t.ite ((requested _).ite (t.ite (requested _)))

theorem burstTurn (h : s.Holds x a) : s.burstTurn.Holds x a := by
  unfold State.burstTurn
  split
  · exact h
  · next u _ =>
    have moved : ((s.beginCopy (s.firstWord u)).moveWord (s.firstWord u)).Holds x a := by
      rw [State.moveWord_eq]
      exact h.drift (s.drifts_beginCopy (s.firstWord u))
    have ended := moved.drift (State.Drifts.refl _).endRunning
    refine ite moved ?_
    unfold State.endBurst
    split
    · exact ended.drift (State.drifts_endDelivery _ _)
    · exact ended.drift (State.drifts_endCopyOut _ _)
    · exact ended.endBlank _

theorem upCycle (h : s.Holds x a) (c : UpCycle) : (s.upCycle c).Holds x a := by
  have paid : s.payBurst.Holds x a := h.burstTurn.settle.ite h
  exact ((paid.drift (State.Drifts.refl _).judgeExpiry).decodeCycle c).settle

/-! ## The link commands -/

/-- A binding comes only to an UNBOUND window, which has no entries (R25). -/
theorem linkBind (h : s.Holds x a) (window : Byte) (record : BindRecord) :
    (State.linkBind window record s).Holds x a := by
  unfold State.linkBind
  dsimp only
  split
  · exact h
  · next w b accepted =>
    have unbound : s.window w = .unbound := by
      unfold State.judgeBind at accepted
      (repeat' split at accepted) <;> cases accepted
      assumption
    refine HoldsIn.set (w := w) h fun i e here _ => ?_
    have none : (s.window w).entries[i]? = some e := here
    rw [unbound] at none
    cases none

/-- A window that is staged keeps its entries (R28, R36). -/
theorem stageWindow (h : s.Holds x a) (w : WinIx) (next : Option Binding) : (s.stageWindow w next).Holds x a := by
  have staged {b : Binding} {es : List Entry} (entries : (s.window w).entries = es) :
      (s.setWindow w (.staged b next es)).Holds x a :=
    HoldsIn.set h fun i e here dirty => ⟨e, entries ▸ here, dirty, rfl⟩
  unfold State.stageWindow
  split
  · exact h
  · next bound => exact (staged (congrArg Window.entries bound)).drift ((State.Drifts.refl _).enterStaged w)
  · next old => exact staged (congrArg Window.entries old)

theorem linkStage (h : s.Holds x a) (window : Byte) (record : BindRecord) :
    (State.linkStage window record s).Holds x a := by
  unfold State.linkStage
  dsimp only
  split
  · exact h
  · exact stageWindow (s := s.takeCommand 0x11 _) h _ _

theorem linkRelease (h : s.Holds x a) (window : Byte) : (State.linkRelease window s).Holds x a := by
  have t (w : WinIx) : ((s.takeCommand 0x13 [window, 0]).stageWindow w none).Holds x a :=
    stageWindow (s := s.takeCommand 0x13 _) h w none
  unfold State.linkRelease
  dsimp only
  split
  · exact h
  · split
    · exact h
    · exact t _
    · exact t _

/-! The other link commands do work of the part itself, or leave the windows alone. -/

/-- A command is taken, and work of the part itself follows. -/
theorem taken (h : s.Holds x a) {c : Byte} {params : List Byte} {t : State}
    (k : (s.takeCommand c params).Drifts 0 t) : t.Holds x a := drift (s := s.takeCommand c params) h k

theorem respond (h : s.Holds x a) (r : Result) (data : List Byte) : (s.respond r data).Holds x a := h

theorem linkSecure (h : s.Holds x a) (target : BitVec 16) (stampLast : Bool) (deadline : BitVec 16) :
    (State.linkSecure target stampLast deadline s).Holds x a := by
  have opened (t : State) (k : SlotIx) : t.Drifts 0 (t.openSlot k target stampLast deadline) :=
    (((State.Drifts.refl t).setSlot k _).foldl _ (fun _ y hu => hu.secureEntry k y) _).endSlot k
  unfold State.linkSecure
  dsimp only
  split
  · exact h
  · exact (h.taken (opened _ _)).respond _ _

theorem linkSecureStatus (h : s.Holds x a) (slot : Byte) : (State.linkSecureStatus slot s).Holds x a := by
  unfold State.linkSecureStatus
  dsimp only
  split
  · exact h
  · split <;> exact h

theorem linkHold (h : s.Holds x a) (drive : Byte) : (State.linkHold drive s).Holds x a := by
  unfold State.linkHold
  dsimp only
  split
  · exact h
  · next d _ => exact (h.taken (((State.Drifts.refl _).modEngine d).stopForHold d)).respond _ _

theorem linkRun (h : s.Holds x a) (drive : Byte) : (State.linkRun drive s).Holds x a := by
  unfold State.linkRun
  dsimp only
  split
  · exact h
  · next d _ => exact (h.taken (((State.Drifts.refl _).modEngine d).resume d)).respond _ _

theorem linkAdopt (h : s.Holds x a) (drive : Byte) : (State.linkAdopt drive s).Holds x a := by
  unfold State.linkAdopt
  dsimp only
  split
  · exact h
  · next d _ =>
    exact ((h.taken ((((State.Drifts.refl _).modVolume d _).attach d true).raise .volumeArrived)).respond _ _).ite h

theorem linkRetry (h : s.Holds x a) (drive : Byte) : (State.linkRetry drive s).Holds x a := by
  unfold State.linkRetry
  dsimp only
  split
  · exact h
  · next d _ =>
    have entries (l : List SectorRef) := (State.Drifts.refl (s.takeCommand 0x33 [drive])).foldl
      (State.retryEntry d) (fun _ y ht => ht.retryEntry d y) l
    exact (h.taken (((entries _).modEngine d).resume d)).respond _ _

theorem linkFormat (h : s.Holds x a) (p : FormatParams) : (State.linkFormat p s).Holds x a := by
  unfold State.linkFormat
  dsimp only
  split
  · exact h
  · split
    · next made => exact (h.taken ((State.Drifts.refl _).makeOrEvict made)).respond _ _
    · exact h

theorem linkSetDrive (h : s.Holds x a) (drive stepMs retries : Byte) (halt : Bool) :
    (State.linkSetDrive drive stepMs retries halt s).Holds x a := by
  unfold State.linkSetDrive
  dsimp only
  split <;> exact h

theorem linkClearEvents (h : s.Holds x a) (tag : Byte) (mask : BitVec 24) :
    (State.linkClearEvents tag mask s).Holds x a := by
  unfold State.linkClearEvents
  dsimp only
  split <;> exact h

theorem linkSetLimits (h : s.Holds x a) (deferLimit ageLimit : BitVec 16) (blank : Byte) :
    (State.linkSetLimits deferLimit ageLimit blank s).Holds x a := by
  have judged := h.drift (State.Drifts.refl s).judgeLimits
  exact judged

/-- A command that reports leaves the windows alone (R167). -/
theorem reply (h : s.Holds x a) (c : Byte) (params : List Byte) (refusal : Result) (data : Option (List Byte)) :
    ((s.takeCommand c params).reply refusal data).Holds x a := by
  cases data <;> exact h

/-! ## The supply and the end of a reset -/

theorem supplyFalls (h : s.Holds x a) : s.supplyFalls.Holds x a := by
  have low : State.Holds { s with supplyLow := true } x a := h
  have timed : State.Holds ({ s with supplyLow := true, store := { s.store with dipTimer := some 0 } }.raise
    .supplyDip) x a := h
  exact h.ite (low.perform (timed.drift (State.Drifts.refl _).setDip))

theorem supplyReturns (h : s.Holds x a) : s.supplyReturns.Holds x a := by
  unfold State.supplyReturns
  split
  · exact h
  · have calm : State.Holds { s with
        supplyLow := false
        store := { s.store with dipTimer := none }
        engines := s.engines.map Engine.undip } x a := h
    exact calm.drift ((State.Drifts.refl _).foldl State.resume (fun _ d ht => ht.resume d) allDrives)

theorem readyRises (h : s.Holds x a) (d : DriveIx) (protect : Bool) : (s.readyRises d protect).Holds x a := by
  have line : (s.setReady d true protect).Holds x a := h
  exact h.ite (line.work ((State.Drifts.refl _).driveRisen d))

theorem readyFalls (h : s.Holds x a) (d : DriveIx) : (s.readyFalls d).Holds x a := by
  have line : (s.modEngine d fun e => { e with ready := false }).Holds x a := h
  exact line.work (f := fun t => if (t.volume d).state = .empty then t else t.driveFallen d)
    ((State.Drifts.refl _).ite ((State.Drifts.refl _).driveFallen d))

theorem resetEnds (h : s.Holds x a) : s.resetEnds.Holds x a := by
  cases power : s.power with
  | off => rwa [State.resetEnds_off (.inl power)]
  | running => rwa [State.resetEnds_off (.inr power)]
  | inReset powerUp raised =>
    have released : (s.released powerUp).Holds x a := h
    have risen : (s.released powerUp).risen.Holds x a := released.drift
      ((State.Drifts.refl _).foldl State.riseIfReady (fun _ d ht => (ht.driveRisen d).ite ht) allDrives).settle
    have raise {t : State} (ht : t.Holds x a) : (t.raise .outageRecorded).Holds x a := ht
    rw [State.resetEnds_inReset power]
    exact foldl_invariant (fun t : State => t.Holds x a) State.heldCycle (fun _ c ht => ht.upCycle c) _ _
      ((raise risen).ite risen)

end State.Holds
end Sys2Proof.Machine
end

section
/-! SUPPORT. A change that is not on disk yet, while time passes and under every command: O55. -/

namespace Sys2Proof.Machine

open Sys2Proof

variable {x : SectorRef} {a : DiskAddr}

/-! ## While time passes -/

theorem State.coarseMoment_windows (s : State) : s.coarseMoment.windows = s.windows := by
  obtain ⟨-, e⟩ | ⟨-, e⟩ | ⟨-, e⟩ := s.coarseMoment_cases <;> rw [e]
  · rfl
  · obtain ⟨-, e⟩ | ⟨-, -, e⟩ | ⟨-, -, e⟩ := s.countCoarse.sweepTick_cases <;> rw [e] <;> rfl

/-- Ticks with advances among them, before a long dip, keep a change. -/
theorem State.Holds.passAdvances {s : State} (h : s.Holds x a) (k n : Nat) : (s.passAdvances k n).Holds x a :=
  State.passAdvances_invariant (State.Holds · x a) (fun t n ht => ht.same (t.passTicks_windows n))
    (fun t d ht => ht.drift ((State.Drifts.refl t).indexGone d))
    (fun t ht => ht.drift (State.Drifts.refl t).judgePast) (fun t ht => ht.same t.coarseMoment_windows) k n s h

theorem State.Holds.passClocks {s : State} (h : s.Holds x a) (n : Nat) : (s.passClocks n).Holds x a :=
  h.ite (h.passAdvances _ n)

/-- A recording finds a change that is held (R159). -/
theorem State.Holds.recorded {s : State} (h : s.Holds x a) : s.dirtyRefs ≠ [] := by
  obtain ⟨e, here, dirty, -⟩ := h
  intro none
  have lost := s.dirtyRefs_eq_nil.mp none
  rw [lostOf, List.flatMap_eq_nil_iff] at lost
  have at_x := List.filterMap_eq_nil_iff.mp (lost x.win (mem_allWindows _)) e (List.mem_of_getElem? here)
  rw [Entry.lost?, if_pos dirty] at at_x
  cases at_x

/-- From `s` to `t` a change is held on, the part going onward, or a long dip has come among the ticks that
passed, and its recording has found a dirty entry. -/
def State.Carries (s t : State) (x : SectorRef) (a : DiskAddr) : Prop :=
  s.Holds x a → (s.Onward t ∧ t.Holds x a) ∨ s.longDipTo t true

namespace State.Carries

variable {s t u : State}

theorem refl (s : State) : s.Carries s x a := fun h => .inl ⟨.refl s, h⟩

/-- Work of the part itself follows: the reset of a long dip stays in force. -/
theorem work (h : s.Carries t x a) (onward : t.Onward u) {n : Nat} (drifts : t.Drifts n u) : s.Carries u x a := by
  intro held
  obtain ⟨on, held'⟩ | ⟨running, timer, power, cause⟩ := h held
  · exact .inl ⟨on.trans onward, held'.drift drifts⟩
  · obtain ⟨-, power', cause', -⟩ := onward
    exact .inr ⟨running, timer, power'.trans power, cause'.trans cause⟩

/-- Work of the part itself comes before: it starts and stops no dip timer. -/
theorem after (onward : s.Onward t) {n : Nat} (drifts : s.Drifts n t) (k : t.Carries u x a) : s.Carries u x a := by
  intro held
  obtain ⟨on, held'⟩ | ⟨running, timer, power, cause⟩ := k (held.drift drifts)
  · exact .inl ⟨onward.trans on, held'⟩
  · obtain ⟨-, power', -, timer', -⟩ := onward
    refine .inr ⟨power' ▸ running, fun none => timer ?_, power, cause⟩
    rwa [none, Option.isSome_none, Option.isSome_eq_false_iff, Option.isNone_iff_eq_none] at timer'

theorem perform {f : State → State} (h : s.Carries (f s) x a) : s.Carries (s.perform f) x a := by
  unfold State.perform
  split
  · exact h.work (State.Onward.refl _).settle (State.Drifts.refl _).settle
  · exact refl s

theorem whileRunning {f : State → State} (h : s.Carries (f s) x a) : s.Carries (s.whileRunning f) x a := by
  unfold State.whileRunning
  split
  · exact h
  · exact refl s

/-- The ticks of a command: a long dip that comes among them records the change (R157, R159). -/
theorem acrossDip (s : State) (n : Nat) {pass : State → Nat → State} (onward : ∀ t m, State.Onward t (pass t m))
    (holds : ∀ t m, State.Holds t x a → (pass t m).Holds x a) : s.Carries (s.acrossDip n pass) x a := by
  intro held
  unfold State.acrossDip
  split
  · exact .inl ⟨onward s n, holds s n held⟩
  · next k dips =>
    obtain ⟨running, m, timer, -⟩ := State.longDipIn?_eq_some.mp dips
    have found : ((s.passClocks k).warmReset .longDip).power = .inReset false true := by
      rw [State.warmReset_power, decide_eq_true (held.passClocks k).recorded]
    obtain ⟨-, power, cause, -⟩ := onward ((s.passClocks k).warmReset .longDip) (n - k)
    refine .inr ⟨running, by simp [timer], power.trans found, cause.trans ?_⟩
    exact State.recorded_cause _ _ _

theorem passTime (s : State) (n : Nat) : s.Carries (s.passTime n) x a :=
  acrossDip s n (fun t m => (State.Onward.refl t).passClocks m) fun _ m ht => ht.passClocks m

theorem coarseAdvance (s : State) : s.Carries s.coarseAdvance x a :=
  acrossDip s _ (fun t m => (State.Onward.refl t).ite ((State.Onward.refl t).passAdvances 1 m))
    fun _ m ht => ht.ite (ht.passAdvances 1 m)

theorem afterWait (s : State) (d : DriveIx) (awaits : Engine → Bool) {event : State → State}
    (onward : ∀ t : State, t.Onward (event t)) (drifts : ∀ t : State, t.Drifts 0 (event t)) :
    s.Carries (s.afterWait d awaits event) x a := by
  obtain ⟨-, e⟩ | ⟨-, -, e⟩ | ⟨-, -, e⟩ := s.afterWait_cases d awaits event <;> rw [e]
  · exact refl s
  · exact passTime s _
  · exact (passTime s _).work (onward _) (drifts _)

theorem indexLost (s : State) (d : DriveIx) : s.Carries (State.indexLost d s) x a := by
  unfold State.indexLost
  split
  · exact refl s
  · exact passTime s _

theorem indexPulse (s : State) (d : DriveIx) (elapsed : Nat) : s.Carries (State.indexPulse d elapsed s) x a := by
  have due := (State.Onward.refl s).perform fun _ ht => ht.takeDue d
  have due' := (State.Drifts.refl s).perform fun _ ht => ht.takeDue d
  exact (after due due' (passTime _ elapsed)).work ((State.Onward.refl _).perform fun _ ht => ht.pulse d)
    ((State.Drifts.refl _).perform fun _ ht => ht.pulse d)

end State.Carries

/-! ## Under every command -/

/-- A command that may not end a time in the dirty states: the change stays, or the recording of a long dip
among its ticks has found it. -/
theorem exec_holds {c : Instr} {s t : State} (spares : c.mayEndDirty = false) (e : exec c s = .next t)
    (h : s.Holds x a) : t.Holds x a ∨ s.longDipTo t true := by
  have next {u : State} (hu : u.Holds x a) (same : exec c s = .next u) : t.Holds x a ∨ s.longDipTo t true :=
    .inl (Host.Outcome.next.inj (same.symm.trans e) ▸ hu)
  have passes {u : State} (hu : s.Carries u x a) (same : exec c s = .next u) :
      t.Holds x a ∨ s.longDipTo t true :=
    Host.Outcome.next.inj (same.symm.trans e) ▸ (hu h).imp And.right id
  have d := State.Drifts.refl s
  have on {u : State} := State.Onward.refl u
  have stays {u : State} := State.Drifts.refl u
  cases c with
  | dataFieldWritten | verifyRead | force | releaseDiscard | linkWriteMessage | reset | resetLine | longDip
  | powerUp | mainSupplyFailure => cases spares
  | upstreamCycle cycle =>
    refine next ?_ rfl
    split
    · exact h
    · exact h
    · exact h.upCycle cycle
  | burstWord => exact next (h.perform h.burstTurn) rfl
  | coarseClockAdvance => exact passes (.coarseAdvance s) rfl
  | indexPulse drive elapsed => exact passes (.indexPulse s drive elapsed) rfl
  | indexLost drive => exact passes (.perform (.indexLost s drive)) rfl
  | stepPulse drive track0 =>
    exact passes (.whileRunning (.afterWait s drive _ (fun _ => on.modEngine drive _)
      fun _ => stays.modEngine drive fun e => e.step_ready track0)) rfl
  | recalibrationEnd drive =>
    exact passes (.perform (.afterWait s drive _ (fun _ => on.endRecal drive) fun _ => stays.endRecal drive)) rfl
  | positioningEnd drive =>
    exact passes (.perform (.afterWait s drive _ (fun _ => on.endSeek drive) fun _ => stays.endSeek drive)) rfl
  | deferredRecordExpiry => exact next (h.whileRunning (h.drift d.judgeExpiry)) rfl
  | sweep => exact next (h.work d.judgeSweep) rfl
  | agePromotion => exact next (h.work d.judgeAges) rfl
  | secureDeadline => exact next (h.work d.judgeDeadlines) rfl
  | swap window =>
    have swapped : (State.swapIfQuiet window s).Holds x a := by
      unfold State.swapIfQuiet
      split
      · next quiet => exact h.drift (d.swapWindow quiet)
      · exact h
    exact next (h.perform swapped) rfl
  | status part => exact next (h.whileRunning (f := State.linkStatus part) (h.reply _ _ _ _)) rfl
  | windowStates window part =>
    exact next (h.whileRunning (f := State.linkWindowStates window part) (h.reply _ _ _ _)) rfl
  | readDrive drive part =>
    exact next (h.whileRunning (f := State.linkReadDrive drive part) (h.reply _ _ _ _)) rfl
  | readOutage start =>
    exact next (h.whileRunning (f := State.linkReadOutage start) (h.reply _ _ _ _)) rfl
  | bind window record => exact next (h.perform (h.linkBind window record)) rfl
  | stage window record => exact next (h.perform (h.linkStage window record)) rfl
  | release window => exact next (h.perform (h.linkRelease window)) rfl
  | secure target stampLast deadline => exact next (h.perform (h.linkSecure target stampLast deadline)) rfl
  | secureStatus slot => exact next (h.whileRunning (h.linkSecureStatus slot)) rfl
  | hold drive => exact next (h.perform (h.linkHold drive)) rfl
  | run drive => exact next (h.perform (h.linkRun drive)) rfl
  | adopt drive => exact next (h.perform (h.linkAdopt drive)) rfl
  | retry drive => exact next (h.perform (h.linkRetry drive)) rfl
  | format params => exact next (h.perform (h.linkFormat params)) rfl
  | setDrive drive stepMs retries halt =>
    exact next (h.whileRunning (h.linkSetDrive drive stepMs retries halt)) rfl
  | setSweep period enable restart =>
    exact next (h.whileRunning (f := State.linkSetSweep period enable restart) h) rfl
  | setLimits deferLimit ageLimit blank =>
    exact next (h.whileRunning (h.linkSetLimits deferLimit ageLimit blank)) rfl
  | readEvents => exact next (h.whileRunning (f := State.linkReadEvents) h) rfl
  | clearEvents tag mask => exact next (h.whileRunning (h.linkClearEvents tag mask)) rfl
  | setAlertMask mask => exact next (h.whileRunning (f := State.linkSetAlertMask mask) h) rfl
  | clearOutage => exact next (h.whileRunning (f := State.linkClearOutage) h) rfl
  | readyLineRise drive protect => exact next (h.readyRises drive protect) rfl
  | readyLineFall drive => exact next (h.readyFalls drive) rfl
  | speedFault drive => exact next (h.work (d.badPeriods drive)) rfl
  | headUnload drive => exact next (h.whileRunning (h.drift (d.unloadHeads drive))) rfl
  | seekFault drive => exact next (h.work (d.seekFails drive)) rfl
  | idFieldRead drive field =>
    exact next ((h.work (d.takeDue drive)).work (stays.idField drive field)) rfl
  | miss drive => exact next (h.work (d.searchMissed drive)) rfl
  | dataMarkNotFound drive => exact next (h.work (d.markMissing drive)) rfl
  | dataFieldRead drive data crc => exact next (h.work (d.fieldRead drive _ crc)) rfl
  | writeFault drive => exact next (h.work (d.writeFaulted drive)) rfl
  | verifyMiss drive => exact next (h.work (d.verifyMissed drive)) rfl
  | supplyDip => exact next h.supplyFalls rfl
  | shortDip => exact next (h.perform h.supplyReturns) rfl
  | resetEnd => exact next h.resetEnds rfl

/-- Settles O55: the work of every command but the named ones ends no time in the dirty states, and the
recording of a long dip finds what is held. -/
theorem dirtyEntriesAreNeverLost : Obligations.DirtyEntriesAreNeverLost := by
  intro c s t x e spares next here dirty
  exact exec_holds spares next ⟨e, here, dirty, rfl⟩

end Sys2Proof.Machine
end

section
/-! SUPPORT. What the lending of buffers, the channel and the hand-out of records leave alone: engines without an operation, and records that no engine has. -/

namespace Sys2Proof.Machine

open Sys2Proof

/-! ## Work that goes to other engines -/

/-- From `s` to `t` every engine keeps its operation, one without an operation stands, and so does a record
that is no engine's operation. -/
def State.Undisturbed (s t : State) : Prop :=
  (∀ d, (t.engine d).current = (s.engine d).current ∧ ((s.engine d).current = none → t.engine d = s.engine d)) ∧
    ∀ r, (∀ d, (s.engine d).current ≠ some r) → t.record? r = s.record? r

namespace State.Undisturbed

variable {s t u : State}

/-- Only other parts of the state change. -/
theorem of_same (engines : t.engines = s.engines) (records : t.pool.records = s.pool.records) : s.Undisturbed t :=
  ⟨fun d => ⟨by rw [State.engine_congr engines], fun _ => State.engine_congr engines d⟩,
    fun r _ => State.record_congr records r⟩

theorem refl (s : State) : s.Undisturbed s := of_same rfl rfl

theorem trans (h : s.Undisturbed t) (k : t.Undisturbed u) : s.Undisturbed u := by
  obtain ⟨engines, records⟩ := h
  obtain ⟨engines', records'⟩ := k
  refine ⟨fun d => ?_, fun r free => ?_⟩
  · obtain ⟨current, idle⟩ := engines d
    obtain ⟨current', idle'⟩ := engines' d
    exact ⟨current'.trans current, fun none => (idle' (current.trans none)).trans (idle none)⟩
  · refine (records' r fun d => ?_).trans (records r free)
    obtain ⟨current, -⟩ := engines d
    rw [current]
    exact free d

/-- An engine without an operation stands. -/
theorem engine (h : s.Undisturbed t) {d : DriveIx} (idle : (s.engine d).current = none) :
    t.engine d = s.engine d := by
  obtain ⟨engines, -⟩ := h
  obtain ⟨-, stands⟩ := engines d
  exact stands idle

theorem record (h : s.Undisturbed t) {r : RecIx} (free : ∀ d, (s.engine d).current ≠ some r) :
    t.record? r = s.record? r := by
  obtain ⟨-, records⟩ := h
  exact records r free

/-- An engine with an operation changes and keeps it. -/
theorem modEngine {d : DriveIx} {r : RecIx} (busy : (s.engine d).current = some r) {f : Engine → Engine}
    (keeps : ∀ e, (f e).current = e.current) : s.Undisturbed (s.modEngine d f) := by
  refine ⟨fun d' => ?_, fun _ _ => rfl⟩
  rw [State.modEngine_eq, State.engine_setEngine]
  split
  · next same =>
    subst same
    exact ⟨keeps _, fun none => absurd (busy.symm.trans none) (by simp)⟩
  · exact ⟨rfl, fun _ => rfl⟩

/-- The record of an engine's operation changes. -/
theorem modRecord {d : DriveIx} {r : RecIx} (busy : (s.engine d).current = some r) (f : Record → Record) :
    s.Undisturbed (s.modRecord r f) := by
  refine ⟨fun _ => ⟨rfl, fun _ => rfl⟩, fun r' free => ?_⟩
  rw [State.modRecord_eq, State.record_setRecord]
  refine if_neg fun same => free d ?_
  rw [same, busy]

theorem startPositioning {d : DriveIx} {r : RecIx} (busy : (s.engine d).current = some r) :
    s.Undisturbed (s.startPositioning d r) := by
  unfold State.startPositioning
  split
  · refine modEngine busy fun e => ?_
    unfold Engine.beginSeek
    split <;> rfl
  · exact refl s

theorem startNext (s : State) : s.Undisturbed s.startNext := by
  obtain ⟨bs, e, -⟩ := s.startNext_joined
  rw [e]
  exact of_same rfl rfl

theorem requestBurst (s : State) (q : BurstRequest) : s.Undisturbed (s.requestBurst q) := by
  obtain e | e | ⟨u, -, e⟩ := s.requestBurst_cases q <;> rw [e]
  · exact refl s
  · exact of_same rfl rfl
  · exact (of_same (t := s.joinQueue u) rfl rfl).trans (startNext _)

theorem giveBuffer {d : DriveIx} {r : RecIx} (busy : (s.engine d).current = some r) (b : BufIx) :
    s.Undisturbed (s.giveBuffer d r b) := by
  unfold State.giveBuffer
  split
  · exact refl s
  · have lent : s.Undisturbed (s.modRecord r fun q => { q with buffer := some b, copied := false }) :=
      modRecord busy _
    have positioned {v : State} (h : s.Undisturbed v) : s.Undisturbed (v.startPositioning d r) := by
      obtain ⟨engines, -⟩ := id h
      obtain ⟨current, -⟩ := engines d
      exact h.trans (startPositioning (current.trans busy))
    have begun (x : SectorRef) := lent.trans
      (of_same (t := (s.modRecord r fun q => { q with buffer := some b, copied := false }).modEntry x
        Entry.fillBegins) rfl rfl)
    dsimp only
    split
    · exact positioned (begun _)
    · exact positioned (begun _)
    · exact positioned (lent.trans (requestBurst _ _))
    · exact positioned lent

theorem handBuffer (s : State) (b : BufIx) : s.Undisturbed (s.handBuffer b) := by
  obtain e | ⟨d, rest, -, -, e | ⟨r, -, busy, e⟩⟩ := s.handBuffer_cases b <;> rw [e]
  · exact refl s
  · exact of_same rfl rfl
  · exact (of_same (t := { s with bufWait := rest }) rfl rfl).trans
      (giveBuffer (s := { s with bufWait := rest }) busy b)

theorem handBuffers (s : State) : s.Undisturbed s.handBuffers :=
  foldl_invariant s.Undisturbed State.handBuffer (fun _ b ht => ht.trans (handBuffer _ b)) allBuffers s (refl s)

theorem grant (s : State) (d : DriveIx) : s.Undisturbed (s.grant d) := by
  have owned : s.Undisturbed { s with chan := { s.chan with owner := some d } } := of_same rfl rfl
  unfold State.grant
  dsimp only
  split
  · next r _ busy =>
    have begun (t : State) (busy : (t.engine d).current = some r) (f : Record → Record) {g : Engine → Engine}
        (keeps : ∀ e, (g e).current = e.current) : t.Undisturbed ((t.modRecord r f).modEngine d g) :=
      (modRecord busy f).trans (modEngine (s := t.modRecord r f) busy keeps)
    refine owned.trans (begun _ ?_ _ ?_)
    · exact busy
    · exact fun _ => rfl
  · exact owned

theorem leaveChannel (s : State) (d : DriveIx) : s.Undisturbed (s.leaveChannel d) := by
  obtain ⟨-, -, e⟩ | ⟨x, rest, -, -, e⟩ | ⟨-, e⟩ := s.leaveChannel_cases d <;> rw [e]
  · exact of_same rfl rfl
  · exact (of_same (t := { s with chan := { owner := none, queue := rest } }) rfl rfl).trans (grant _ x)
  · exact of_same rfl rfl

end State.Undisturbed

/-! ## What is left alone altogether -/

/-- Leaving the channel, or having it granted, changes the channel, an engine and a record's phase. -/
theorem State.leaveChannel_frame (s : State) (d : DriveIx) : ∃ c recs es, s.leaveChannel d =
    { s with chan := c, pool := { s.pool with records := recs }, engines := es } ∧
    ∀ r, ((s.leaveChannel d).record? r).map Record.owner = (s.record? r).map Record.owner := by
  have granted (t : State) (x : DriveIx) : ∃ c recs es, t.grant x =
      { t with chan := c, pool := { t.pool with records := recs }, engines := es } ∧
      ∀ r, ((t.grant x).record? r).map Record.owner = (t.record? r).map Record.owner := by
    unfold State.grant
    dsimp only
    split
    · next r _ _ =>
      refine ⟨_, _, _, rfl, fun r' => ?_⟩
      have phased := State.record_setRecord { t with chan := { t.chan with owner := some x } } r r'
        ((t.record? r).map fun q => { q with phase := .inEngine })
      refine (congrArg (Option.map Record.owner) phased).trans ?_
      split
      · next same =>
        rw [same, Option.map_map]
        rfl
      · rfl
    · exact ⟨_, _, _, rfl, fun _ => rfl⟩
  obtain ⟨-, -, e⟩ | ⟨x, rest, -, -, e⟩ | ⟨-, e⟩ := s.leaveChannel_cases d <;> rw [e]
  · exact ⟨_, _, _, rfl, fun _ => rfl⟩
  · obtain ⟨c, recs, es, e, owners⟩ := granted { s with chan := { owner := none, queue := rest } } x
    exact ⟨c, recs, es, e, owners⟩
  · exact ⟨_, _, _, rfl, fun _ => rfl⟩

/-- Lending leaves the volumes and the events alone. -/
theorem State.Lends.rest {s t : State} (h : s.Lends t) : t.volumes = s.volumes ∧ t.events = s.events := by
  obtain ⟨_, _, _, _, _, rfl, -⟩ := h
  exact ⟨rfl, rfl⟩

/-- Freeing a record leaves the volumes, the events and engines without an operation alone; fills begin. -/
theorem State.freeRecord_rest (s : State) (r : RecIx) :
    (s.freeRecord r).volumes = s.volumes ∧ (s.freeRecord r).events = s.events ∧
      Relation.ReflTransGen FillStep s.windows (s.freeRecord r).windows ∧
      ∀ d, (s.engine d).current = none → (s.freeRecord r).engine d = s.engine d := by
  obtain ⟨p, e, -⟩ := s.releaseRecord_spec r
  obtain ⟨volumes, events⟩ := (State.Lends.handBuffers (s.releaseRecord r)).rest
  have fills := (State.Lends.handBuffers (s.releaseRecord r)).fills
  have engines {d : DriveIx} := (State.Undisturbed.handBuffers (s.releaseRecord r)).engine (d := d)
  rw [e] at volumes events fills engines
  rw [State.freeRecord, e]
  exact ⟨volumes, events, fills, fun d idle => engines idle⟩

/-- Providing for a write-back changes the pool and the events alone. -/
theorem State.provide_frame (s : State) (x : SectorRef) (retry : Bool) :
    ∃ p v, s.provide x retry = { s with pool := p, events := v } := by
  obtain e | e | e := s.provide_cases x retry <;> rw [e]
  · exact ⟨_, _, rfl⟩
  · exact s.requestWrite_frame x _
  · exact s.requestWrite_frame x _

end Sys2Proof.Machine
end

section
/-! SUPPORT. RETRY (R51, R59, R84): O35. -/

namespace Sys2Proof.Machine

open Sys2Proof

/-! ## Drive numbers -/

theorem driveOf_of_toNat {drive : Byte} {d : DriveIx} (h : drive.toNat = d.val) : driveOf drive = some d := by
  have small : drive.toNat < 4 := h ▸ d.isLt
  rw [driveOf, dif_pos small]
  exact congrArg some (Fin.ext h)

theorem driveOf_of_gt {drive : Byte} (h : 3 < drive.toNat) : driveOf drive = none := dif_neg (by omega)

/-! ## Entries that a fold changes one by one -/

/-- The entries at the places of a list change, each by a change that repeats itself to no effect. -/
theorem State.entry_foldl {f : State → SectorRef → State} {g : Entry → Entry} (twice : ∀ e, g (g e) = g e)
    {x : SectorRef} (P : State → Prop) (keeps : ∀ t y, P t → P (f t y))
    (one : ∀ t y, P t → (f t y).entry? x = if x = y then (t.entry? x).map g else t.entry? x)
    (l : List SectorRef) (s : State) (h : P s) :
    (l.foldl f s).entry? x = if x ∈ l then (s.entry? x).map g else s.entry? x := by
  induction l generalizing s with
  | nil => rfl
  | cons y l ih =>
    have again : g ∘ g = g := funext twice
    rw [List.foldl_cons, ih (f s y) (keeps s y h), one s y h]
    by_cases same : x = y
    · simp [same, again]
    · simp [same]

/-- The places of a drive's entries. -/
theorem State.mem_refsOfDrive {s : State} {x : SectorRef} {e : Entry} {b : Binding} (entry : s.entry? x = some e)
    (binding : s.binding? x.win = some b) (d : DriveIx) : x ∈ s.refsOfDrive d ↔ b.drive = d := by
  obtain ⟨w, i⟩ := x
  have within : i < (s.window w).entries.length := (List.getElem?_eq_some_iff.mp entry).1
  have binding : s.binding? w = some b := binding
  simp [State.refsOfDrive, State.windowsOfDrive, State.refsOfWindow, mem_allWindows, binding, within]

/-! ## Write-backs that are provided for (R51, R69) -/

/-- The entry at `x` has a record or a place on the Backlog List. -/
def State.Provided (s : State) (x : SectorRef) : Prop := (∃ r, s.Owned x r) ∨ x ∈ s.pool.backlog

section Provided

variable {s : State} {x : SectorRef}

theorem State.Provided.outcome (h : s.Provided x) : (s.opOf x).isSome = true ∨ x ∈ s.pool.backlog :=
  h.imp_left fun ⟨_, owned⟩ => State.opOf_isSome owned

/-- A request takes away no record and no place on the Backlog List. -/
theorem State.Provided.requestWrite (h : s.Provided x) (y : SectorRef) (u : Urgency) :
    (s.requestWrite y u).Provided x := by
  obtain e | ⟨r, -, -, e⟩ | ⟨f, -, -, -, -, e⟩ | ⟨f, r, -, -, -, -, -, free, e⟩ := s.requestWrite_cases y u <;>
    rw [e]
  · exact h
  · refine h.imp_left fun ⟨r', q, record, owner⟩ => ?_
    obtain ⟨p, record', raised⟩ := (State.Requests.raised s r).kept r' q record
    exact ⟨r', p, record', raised.owner.trans owner⟩
  · exact h.imp_right (State.backlogInsert_keeps s y _)
  · refine h.imp_left fun ⟨r', q, record, owner⟩ => ⟨r', q, ?_, owner⟩
    have other : r' ≠ r := fun same => by
      rw [same, State.record_of_free free] at record
      cases record
    rw [State.record_makeRecord, if_neg other, record]

theorem State.Provided.provide (h : s.Provided x) (y : SectorRef) (retry : Bool) :
    (s.provide y retry).Provided x := by
  obtain e | e | e := s.provide_cases y retry <;> rw [e]
  · exact h
  · exact h.requestWrite y .urgent
  · exact h.requestWrite y .normal

/-- A DIRTY entry that is requested is provided for. -/
theorem State.requestWrite_provides {e : Entry} (entry : s.entry? x = some e) (dirty : e.state = .dirty)
    (u : Urgency) : (s.requestWrite x u).Provided x := by
  cases op : s.opOf x with
  | some r => exact State.Provided.requestWrite (.inl ⟨r, State.owned_of_opOf op⟩) x u
  | none =>
    by_cases listed : x ∈ s.pool.backlog
    · exact State.Provided.requestWrite (.inr listed) x u
    · by_cases full : s.sectorTaken e.addr = true ∨ s.freeRecord? = none
      · rw [State.requestWrite_backlog entry op dirty listed u full]
        exact .inr (s.mem_backlogInsert x _ _)
      · obtain ⟨untaken, some_free⟩ := not_or.mp full
        obtain ⟨r, free⟩ := Option.ne_none_iff_exists'.mp some_free
        rw [State.requestWrite_made entry op dirty listed u (Bool.eq_false_iff.mpr untaken) free]
        exact .inl ⟨r, _, by rw [State.record_makeRecord, if_pos rfl], rfl⟩

/-- RETRY requests every DIRTY entry it provides for (R59). -/
theorem State.provide_provides {e : Entry} {b : Binding} (entry : s.entry? x = some e)
    (binding : s.binding? x.win = some b) (dirty : e.state = .dirty) : (s.provide x true).Provided x := by
  unfold State.provide
  rw [entry, binding]
  dsimp only
  split
  · exact State.requestWrite_provides entry dirty .urgent
  · rw [Bool.true_or, if_pos rfl]
    exact State.requestWrite_provides entry dirty .normal

end Provided

/-! ## One entry at RETRY (R59) -/

/-- An entry after RETRY. -/
def Entry.retried (attached : Bool) (e : Entry) : Entry :=
  if e.state = .unwritten then e.retryWrite attached else if e.state = .failed then e.retryFill else e

theorem Entry.retryWrite_unwritten {e : Entry} (unwritten : e.state = .unwritten) (attached : Bool) :
    e.retryWrite attached = { e with state := if attached then .dirty else .stranded, cause := none } :=
  if_pos unwritten

theorem Entry.retryFill_failed {e : Entry} (failed : e.state = .failed) : e.retryFill = Entry.new e.addr :=
  if_pos failed

theorem Entry.retried_twice (attached : Bool) (e : Entry) :
    (e.retried attached).retried attached = e.retried attached := by
  by_cases unwritten : e.state = .unwritten
  · have once : e.retried attached = e.retryWrite attached := if_pos unwritten
    rw [once, Entry.retryWrite_unwritten unwritten]
    cases attached <;> rfl
  · by_cases failed : e.state = .failed
    · have once : e.retried attached = e.retryFill := by rw [Entry.retried, if_neg unwritten, if_pos failed]
      rw [once, Entry.retryFill_failed failed]
      rfl
    · have once : e.retried attached = e := by rw [Entry.retried, if_neg unwritten, if_neg failed]
      rw [once, once]

section Retried

variable {s : State} {d : DriveIx} {x : SectorRef}

/-- RETRY changes entries, the pool and the events alone, and no binding. -/
theorem State.retryEntry_frame (s : State) (d : DriveIx) (y : SectorRef) : ∃ ws p v,
    State.retryEntry d s y = { s with windows := ws, pool := p, events := v } ∧
      ∀ w, (State.retryEntry d s y).binding? w = s.binding? w := by
  unfold State.retryEntry
  split
  · exact ⟨_, _, _, rfl, fun _ => rfl⟩
  · split
    · obtain ⟨p, v, e⟩ := (s.modEntry y (Entry.retryWrite (s.attached d))).provide_frame y true
      dsimp only
      split
      · rw [e]
        exact ⟨_, _, _, rfl, fun w => s.binding_modEntry y _ w⟩
      · exact ⟨_, _, _, rfl, fun w => s.binding_modEntry y _ w⟩
    · exact ⟨_, _, _, rfl, fun w => s.binding_modEntry y _ w⟩
    all_goals exact ⟨_, _, _, rfl, fun _ => rfl⟩

/-- One entry at RETRY: it changes, and no other. -/
theorem State.entry_retryEntry (s : State) (d : DriveIx) (x y : SectorRef) : (State.retryEntry d s y).entry? x =
    if x = y then (s.entry? x).map (Entry.retried (s.attached d)) else s.entry? x := by
  by_cases same : x = y
  · subst same
    rw [if_pos rfl]
    unfold State.retryEntry
    cases entry : s.entry? x with
    | none => exact entry
    | some e =>
      dsimp only
      split
      · next unwritten =>
        have changed : (s.modEntry x (Entry.retryWrite (s.attached d))).entry? x =
            some (e.retried (s.attached d)) := by
          rw [State.entry_modEntry_self, entry, Entry.retried, if_pos unwritten]
          rfl
        split
        · exact (State.entry_congr (State.provide_windows ..) x).trans changed
        · exact changed
      · next failed =>
        rw [State.entry_modEntry_self, entry, Option.map_some, Option.map_some, Entry.retried,
          if_neg (by rw [failed]; decide), if_pos failed]
      all_goals
        next other => rw [entry, Option.map_some, Entry.retried, if_neg (by rw [other]; decide),
          if_neg (by rw [other]; decide)]
  · rw [if_neg same]
    have others (f : Entry → Entry) : (s.modEntry y f).entry? x = s.entry? x := State.entry_modEntry_other s f same
    unfold State.retryEntry
    split
    · rfl
    · split
      · dsimp only
        split
        · exact (State.entry_congr (State.provide_windows ..) x).trans (others _)
        · exact others _
      · exact others _
      all_goals rfl

/-- Every entry of the drive at RETRY. -/
def State.retryAll (s : State) (d : DriveIx) : State := (s.refsOfDrive d).foldl (State.retryEntry d) s

theorem State.retryAll_frame (s : State) (d : DriveIx) : ∃ ws p v,
    s.retryAll d = { s with windows := ws, pool := p, events := v } := by
  refine foldl_invariant (fun t => ∃ ws p v, t = { s with windows := ws, pool := p, events := v })
    (State.retryEntry d) (fun t y ht => ?_) (s.refsOfDrive d) s ⟨_, _, _, rfl⟩
  obtain ⟨_, _, _, rfl⟩ := ht
  obtain ⟨ws, p, v, e, -⟩ := State.retryEntry_frame _ d y
  exact ⟨ws, p, v, e⟩

theorem State.attached_retryEntry (s : State) (d : DriveIx) (y : SectorRef) :
    (State.retryEntry d s y).attached d = s.attached d := by
  obtain ⟨ws, p, v, e, -⟩ := s.retryEntry_frame d y
  rw [e]
  rfl

theorem State.entry_retryAll {e : Entry} {b : Binding} (entry : s.entry? x = some e)
    (binding : s.binding? x.win = some b) :
    (s.retryAll d).entry? x = some (if b.drive = d then e.retried (s.attached d) else e) := by
  have folded := State.entry_foldl (f := State.retryEntry d) (Entry.retried_twice (s.attached d)) (x := x)
    (fun t => t.attached d = s.attached d) (fun t y ht => (t.attached_retryEntry d y).trans ht)
    (fun t y ht => ht ▸ t.entry_retryEntry d x y) (s.refsOfDrive d) s rfl
  rw [State.retryAll, folded, entry]
  by_cases named : b.drive = d
  · rw [if_pos named, if_pos ((State.mem_refsOfDrive entry binding d).mpr named)]
    rfl
  · rw [if_neg named, if_neg fun here => named ((State.mem_refsOfDrive entry binding d).mp here)]

/-- What RETRY leaves of an UNWRITTEN entry of an ATTACHED drive at each point: the entry is UNWRITTEN still, or
it is provided for. -/
def State.RetryPending (s : State) (d : DriveIx) (x : SectorRef) : Prop :=
  s.attached d = true ∧ (∃ b, s.binding? x.win = some b) ∧
    ((∃ e, s.entry? x = some e ∧ e.state = .unwritten) ∨ s.Provided x)

theorem State.RetryPending.retryEntry (h : s.RetryPending d x) (y : SectorRef) :
    (State.retryEntry d s y).RetryPending d x := by
  obtain ⟨attached, ⟨b, binding⟩, state⟩ := h
  obtain ⟨_, _, _, -, bindings⟩ := s.retryEntry_frame d y
  refine ⟨(s.attached_retryEntry d y).trans attached, ⟨b, (bindings _).trans binding⟩, ?_⟩
  obtain ⟨e, entry, unwritten⟩ | provided := state
  · by_cases same : x = y
    · subst same
      refine .inr ?_
      have dirty : (s.modEntry x (Entry.retryWrite (s.attached d))).entry? x =
          some (e.retryWrite (s.attached d)) := by rw [State.entry_modEntry_self, entry]; rfl
      have provides := State.provide_provides dirty ((s.binding_modEntry x _ _).trans binding)
        (by rw [Entry.retryWrite_unwritten unwritten, attached]; rfl)
      unfold State.retryEntry
      rw [entry]
      dsimp only
      rw [unwritten]
      dsimp only
      rwa [if_pos attached]
    · refine .inl ⟨e, ?_, unwritten⟩
      rw [State.entry_retryEntry, if_neg same, entry]
  · refine .inr ?_
    have kept (f : Entry → Entry) : (s.modEntry y f).Provided x := provided
    unfold State.retryEntry
    split
    · exact provided
    · split
      · dsimp only
        rw [if_pos attached]
        exact State.Provided.provide (kept _) y true
      · exact kept _
      all_goals exact provided

theorem State.retryAll_provides {e : Entry} {b : Binding} (entry : s.entry? x = some e)
    (binding : s.binding? x.win = some b) (named : b.drive = d) (unwritten : e.state = .unwritten)
    (attached : s.attached d = true) : (s.retryAll d).Provided x := by
  obtain ⟨-, -, ⟨f, after, still⟩ | provided⟩ := foldl_invariant (State.RetryPending · d x) (State.retryEntry d)
    (fun t y ht => ht.retryEntry y) (s.refsOfDrive d) s ⟨attached, ⟨b, binding⟩, .inl ⟨e, entry, unwritten⟩⟩
  · have now := (State.entry_retryAll (d := d) entry binding).symm.trans after
    rw [if_pos named, attached, Entry.retried, if_pos unwritten, Entry.retryWrite_unwritten unwritten] at now
    cases now
    cases still
  · exact provided

end Retried

/-! ## The command -/

/-- An engine that may resume keeps its operation and its hold set. -/
theorem State.engine_resume (s : State) (d : DriveIx) : ((s.resume d).engine d).fault = (s.engine d).fault ∧
    ((s.resume d).engine d).link = (s.engine d).link ∧ ∀ d', d' ≠ d → (s.resume d).engine d' = s.engine d' := by
  have changed {f : Engine → Engine} (fault : (f (s.engine d)).fault = (s.engine d).fault)
      (link : (f (s.engine d)).link = (s.engine d).link) : ((s.modEngine d f).engine d).fault = (s.engine d).fault ∧
      ((s.modEngine d f).engine d).link = (s.engine d).link ∧
      ∀ d', d' ≠ d → (s.modEngine d f).engine d' = s.engine d' := by
    rw [State.engine_modEngine_self]
    exact ⟨fault, link, fun _ other => State.engine_setEngine_other s _ other⟩
  obtain e | ⟨-, -, e⟩ | ⟨-, -, e⟩ := s.resume_cases d <;> rw [e]
  · exact ⟨rfl, rfl, fun _ _ => rfl⟩
  · exact changed rfl rfl
  · exact changed rfl rfl

theorem State.resume_frame (s : State) (d : DriveIx) : ∃ es, s.resume d = { s with engines := es } := by
  obtain e | ⟨-, -, e⟩ | ⟨-, -, e⟩ := s.resume_cases d <;> rw [e] <;> exact ⟨_, rfl⟩

theorem State.linkRetry_outside {drive : Byte} {s : State} (h : driveOf drive = none) :
    State.linkRetry drive s = s.refusedWith [0x33, 1, drive] .badParam := by
  simp only [State.linkRetry, h]
  rfl

theorem State.linkRetry_named {drive : Byte} {d : DriveIx} {s : State} (h : driveOf drive = some d) :
    State.linkRetry drive s = ((s.takeCommand 0x33 [drive]).retryDrive d).respond .done [] := by
  simp only [State.linkRetry, h]

theorem State.retryDrive_eq (s : State) (d : DriveIx) :
    s.retryDrive d = ((s.retryAll d).modEngine d fun e => { e with fault := false }).resume d := rfl

theorem State.entry_retryDrive {s : State} {d : DriveIx} {x : SectorRef} {e : Entry} {b : Binding}
    (entry : s.entry? x = some e) (binding : s.binding? x.win = some b) :
    (s.retryDrive d).entry? x = some (if b.drive = d then e.retried (s.attached d) else e) := by
  obtain ⟨es, resumed⟩ := State.resume_frame ((s.retryAll d).modEngine d fun e => { e with fault := false }) d
  rw [State.retryDrive_eq, resumed]
  exact State.entry_retryAll entry binding

theorem State.retryDrive_provides {s : State} {d : DriveIx} {x : SectorRef} {e : Entry} {b : Binding}
    (entry : s.entry? x = some e) (binding : s.binding? x.win = some b) (named : b.drive = d)
    (unwritten : e.state = .unwritten) (attached : s.attached d = true) : (s.retryDrive d).Provided x := by
  obtain ⟨es, resumed⟩ := State.resume_frame ((s.retryAll d).modEngine d fun e => { e with fault := false }) d
  rw [State.retryDrive_eq, resumed]
  exact State.retryAll_provides entry binding named unwritten attached

/-- RETRY changes no link buffer, no memory and no volume, clears FAULT and keeps LINK, and leaves every other
engine alone. -/
theorem State.retryDrive_rest (s : State) (d : DriveIx) : (s.retryDrive d).link = s.link ∧
    (s.retryDrive d).memory = s.memory ∧ (s.retryDrive d).volumes = s.volumes ∧
    ((s.retryDrive d).engine d).fault = false ∧ ((s.retryDrive d).engine d).link = (s.engine d).link ∧
    ∀ d', d' ≠ d → (s.retryDrive d).engine d' = s.engine d' := by
  obtain ⟨ws, p, v, all⟩ := s.retryAll_frame d
  have engines : (s.retryAll d).engines = s.engines := by rw [all]
  obtain ⟨fault, link, others⟩ :=
    State.engine_resume ((s.retryAll d).modEngine d fun e => { e with fault := false }) d
  obtain ⟨es, resumed⟩ := State.resume_frame ((s.retryAll d).modEngine d fun e => { e with fault := false }) d
  rw [State.engine_modEngine_self] at fault link
  rw [← State.retryDrive_eq] at fault link others resumed
  refine ⟨?_, ?_, ?_, fault, link.trans ?_, fun d' other => (others d' other).trans ?_⟩
  · rw [resumed, all]; rfl
  · rw [resumed, all]; rfl
  · rw [resumed, all]; rfl
  · rw [State.engine_congr engines]
  · exact (State.engine_setEngine_other _ _ other).trans (State.engine_congr engines d')

/-- What RETRY does to the entries of drive `d`, from `s` to `u` (R59). -/
structure State.RetriedTo (s : State) (d : DriveIx) (u : State) : Prop where
  memory : u.memory = s.memory
  volumes : u.volumes = s.volumes
  fault : (u.engine d).fault = false
  held : (u.engine d).link = (s.engine d).link
  others : ∀ d', d' ≠ d → u.engine d' = s.engine d'
  entries : ∀ x e b, s.entry? x = some e → s.binding? x.win = some b →
    u.entry? x = some (if b.drive = d then e.retried (s.attached d) else e)
  provides : ∀ x e b, s.entry? x = some e → s.binding? x.win = some b → b.drive = d → e.state = .unwritten →
    s.attached d = true → u.Provided x

theorem State.retryDrive_retried (s : State) (d : DriveIx) : s.RetriedTo d (s.retryDrive d) := by
  obtain ⟨-, memory, volumes, fault, held, others⟩ := s.retryDrive_rest d
  exact ⟨memory, volumes, fault, held, others, fun _ _ _ => State.entry_retryDrive,
    fun _ _ _ => State.retryDrive_provides⟩

/-- The link's buffers, before and after, are no part of it. -/
theorem State.RetriedTo.answered {s u : State} {d : DriveIx} {command : Byte} {params : List Byte}
    (h : (s.takeCommand command params).RetriedTo d u) (r : Result) (data : List Byte) :
    s.RetriedTo d (u.respond r data) := by
  obtain ⟨memory, volumes, fault, held, others, entries, provides⟩ := h
  exact ⟨memory, volumes, fault, held, others, entries, provides⟩

theorem Entry.retried_eq (attached : Bool) (e : Entry) : e.retried attached =
    if e.state = .unwritten then { e with state := if attached then .dirty else .stranded, cause := none }
    else if e.state = .failed then Entry.new e.addr else e := by
  unfold Entry.retried
  split
  · next unwritten => exact Entry.retryWrite_unwritten unwritten attached
  · split
    · next failed => exact Entry.retryFill_failed failed
    · rfl

/-- Settles O35: RETRY is a fold over the entries of the drive, each of which changes once and for good. -/
theorem retryRevivesFailures : Obligations.RetryRevivesFailures := by
  refine fun drive s running => ⟨fun outside => ?_, fun d named => ⟨_,
    congrArg Host.Outcome.next (State.perform_of_running running _), ?_⟩⟩
  · refine (congrArg Host.Outcome.next (State.perform_of_running running _)).trans ?_
    rw [State.linkRetry_outside (driveOf_of_gt outside)]
  · rw [State.linkRetry_named (driveOf_of_toNat named)]
    obtain ⟨link, -⟩ := (s.takeCommand 0x33 [drive]).retryDrive_rest d
    have retried := (State.retryDrive_retried (s.takeCommand 0x33 [drive]) d).answered .done []
    generalize (s.takeCommand 0x33 [drive]).retryDrive d = u at link retried
    obtain ⟨memory, volumes, fault, held, others, entries, provides⟩ := retried
    refine ⟨?_, memory, volumes, fault, held, others, fun x e b entry binding => ?_,
      fun x e b entry binding on unwritten attached => ?_⟩
    · rw [State.respond, link]
      rfl
    · refine (entries x e b entry binding).trans ?_
      rw [ite_not, Entry.retried_eq, State.attached]
      simp only [decide_eq_true_eq]
    · exact (provides x e b entry binding on unwritten (decide_eq_true attached)).outcome

end Sys2Proof.Machine
end

section
/-! SUPPORT. HOLD and RUN (R54, R84, R86, R102): O33. -/

namespace Sys2Proof.Machine

open Sys2Proof

/-- While buffers are lent, an entry that is not QUEUED stays as it is. -/
theorem State.Lends.entry {s t : State} (h : s.Lends t) {x : SectorRef} {e : Entry} (entry : s.entry? x = some e)
    (idle : e.state ≠ .queued) : t.entry? x = some e := entry_of_fills h.fills entry idle

/-! ## The engine of a drive -/

section Holds

variable {s : State} {d : DriveIx}

theorem State.modEngine_modEngine (s : State) (d : DriveIx) (f g : Engine → Engine) :
    (s.modEngine d f).modEngine d g = s.modEngine d fun e => g (f e) := by
  rw [State.modEngine_eq, State.engine_modEngine_self, State.modEngine_eq, State.modEngine_eq]
  have twice : (s.engines.set d (f (s.engine d))).set d (g (f (s.engine d))) =
      s.engines.set d (g (f (s.engine d))) := by
    ext i h
    simp only [Vector.getElem_set]
    split <;> rfl
  exact congrArg (fun es => { s with engines := es }) twice

theorem State.stopForHold_stopped (stopped : (s.engine d).state = .idle ∨ (s.engine d).state = .held) :
    s.stopForHold d = s.modEngine d fun e => { e with state := e.restState } := by
  obtain state | state := stopped <;> rw [State.stopForHold, state]

theorem State.stopForHold_preparing
    (preparing : (s.engine d).state ∈ [EngineState.waitBuffer, .positioning, .waitChannel]) :
    s.stopForHold d = s.returnRecord d := by
  simp only [List.mem_cons, List.not_mem_nil, or_false] at preparing
  obtain state | state | state := preparing <;> rw [State.stopForHold, state]

/-- Disk work and a recalibration go on, and a drive that is not ready stays so (R102). -/
theorem State.stopForHold_working (working : (s.engine d).state ∈ [EngineState.notReady, .recalibrating, .select,
    .searching, .reading, .writing, .verifying, .formatting]) : s.stopForHold d = s := by
  simp only [List.mem_cons, List.not_mem_nil, or_false] at working
  obtain state | state | state | state | state | state | state | state := working <;> rw [State.stopForHold, state]

/-! ## A record that goes back to WAITING (R102) -/

/-- The state with the operation of drive `d`, record `r`, taken off the engine, the waits and the bursts. -/
def State.setAside (s : State) (d : DriveIx) (r : RecIx) : State :=
  (({ s.endOperation d with bufWait := s.bufWait.filter (· ≠ d) }.leaveChannel d).withdrawRecord r).stopCopyOut r

def Record.returned (q : Record) : Record := { q with phase := .waiting, misses := 0, buffer := none, copied := false }

theorem State.returnRecord_eq {r : RecIx} {q : Record} (current : (s.engine d).current = some r)
    (record : s.record? r = some q) (owned : q.detached = false) :
    s.returnRecord d = (((s.setAside d r).modRecord r Record.returned).returnEntry q).handBuffers := by
  unfold State.returnRecord
  rw [current]
  dsimp only
  rw [record]
  dsimp only
  rw [if_neg (by simp [owned])]
  rfl

/-- The engine has come to rest without an operation; no record nor entry changes but records of other
engines. -/
theorem State.setAside_spec {r : RecIx}
    (alone : ∀ d', d' ≠ d → (s.engine d').current ≠ some r) :
    (s.setAside d r).windows = s.windows ∧ (s.setAside d r).record? r = s.record? r ∧
      (s.setAside d r).engine d = { s.engine d with
        current := none, gate := false, motion := .still, formatOn := false, idFound := false,
        state := (s.engine d).restState } ∧
      ∀ d', ((s.setAside d r).engine d').current ≠ some r := by
  have bursts (t : State) : ∃ bs, (t.withdrawRecord r).stopCopyOut r = { t with bursts := bs } := by
    obtain ⟨bs, withdrawn, -⟩ := State.withdraw_joined { t with bursts := { t.bursts with
      behind := t.bursts.behind.filter fun q => decide (q.record ≠ r) } } fun u => decide (u.record = some r)
    obtain ⟨bs', stopped⟩ := (t.withdrawRecord r).stopCopyOut_bursts r
    rw [stopped, State.withdrawRecord, withdrawn]
    exact ⟨bs', rfl⟩
  have ended : (s.endOperation d).engine d = { s.engine d with
      current := none, gate := false, motion := .still, formatOn := false, idFound := false,
      state := (s.engine d).restState } := State.engine_modEngine_self s d _
  have gone (d' : DriveIx) : ((s.endOperation d).engine d').current ≠ some r := by
    by_cases same : d' = d
    · rw [same, ended]
      exact nofun
    · rw [State.endOperation, State.modEngine_eq, State.engine_setEngine_other _ _ same]
      exact alone d' same
  have left := State.Undisturbed.leaveChannel { s.endOperation d with bufWait := s.bufWait.filter (· ≠ d) } d
  obtain ⟨c, recs, es, e, -⟩ :=
    State.leaveChannel_frame { s.endOperation d with bufWait := s.bufWait.filter (· ≠ d) } d
  obtain ⟨bs, same⟩ := bursts ({ s.endOperation d with bufWait := s.bufWait.filter (· ≠ d) }.leaveChannel d)
  have engine := left.engine (d := d) (congrArg Engine.current ended)
  have record := left.record gone
  obtain ⟨currents, -⟩ := left
  rw [State.setAside, same]
  refine ⟨?_, record, engine.trans ended, fun d' => ?_⟩
  · rw [e]
    rfl
  · obtain ⟨current, -⟩ := currents d'
    exact fun here => gone d' (current.symm.trans here)

/-- A request for a write-back keeps a record but for its urgency. -/
theorem State.requestWrite_raises {r : RecIx} {q : Record} (record : s.record? r = some q) (x : SectorRef)
    (u : Urgency) : ∃ p, (s.requestWrite x u).record? r = some p ∧ p.Raised q := by
  obtain e | ⟨r', -, -, e⟩ | ⟨f, -, -, -, -, e⟩ | ⟨f, r', -, -, -, -, -, free, e⟩ := s.requestWrite_cases x u <;>
    rw [e]
  · exact ⟨q, record, .inl rfl⟩
  · exact (State.Requests.raised s r').kept r q record
  · exact ⟨q, record, .inl rfl⟩
  · have other : r ≠ r' := fun same => by
      rw [same, State.record_of_free free] at record
      cases record
    exact ⟨q, by rw [State.record_makeRecord, if_neg other, record], .inl rfl⟩

theorem State.provide_raises {r : RecIx} {q : Record} (record : s.record? r = some q) (x : SectorRef)
    (retry : Bool) : ∃ p, (s.provide x retry).record? r = some p ∧ p.Raised q := by
  obtain e | e | e := s.provide_cases x retry <;> rw [e]
  · exact ⟨q, record, .inl rfl⟩
  · exact State.requestWrite_raises record x .urgent
  · exact State.requestWrite_raises record x .normal

/-- The entry of a record goes back; the record is kept but for its urgency, and no engine changes. -/
theorem State.returnEntry_spec {r : RecIx} {q : Record} (record : s.record? r = some q) (p : Record) :
    (s.returnEntry p).engines = s.engines ∧ ∃ q', (s.returnEntry p).record? r = some q' ∧ q'.Raised q := by
  unfold State.returnEntry
  split
  · next x _ _ =>
    refine ⟨?_, State.provide_raises (s := s.modEntry x Entry.writeReturns) record x false⟩
    obtain ⟨p, v, e⟩ := (s.modEntry x Entry.writeReturns).provide_frame x false
    rw [e]
    rfl
  all_goals exact ⟨rfl, q, record, .inl rfl⟩

/-- The entry of a write-back that goes back is DIRTY (R54). -/
theorem State.entry_returnEntry {q : Record} {x : SectorRef} {e : Entry} (kind : q.kind = .writeback)
    (owner : q.owner = some x) (entry : s.entry? x = some e) (busy : e.state.inWriteback = true) :
    (s.returnEntry q).entry? x = some { e with state := .dirty, redirtySince := none, late := 0 } := by
  unfold State.returnEntry
  rw [kind, owner]
  dsimp only
  rw [State.entry_congr (State.provide_windows ..), State.entry_modEntry_self, entry, Option.map_some,
    Entry.writeReturns, if_pos busy]

/-- A record that goes back to WAITING: the engine comes to rest, the record keeps all but what its return
clears, and a write-back's entry is DIRTY (R54, R102). -/
theorem State.returnRecord_spec {r : RecIx} {q : Record} (current : (s.engine d).current = some r)
    (record : s.record? r = some q) (owned : q.detached = false)
    (alone : ∀ d', d' ≠ d → (s.engine d').current ≠ some r) :
    ((s.returnRecord d).engine d).link = (s.engine d).link ∧ ((s.returnRecord d).engine d).current = none ∧
      ((s.returnRecord d).engine d).state = (s.engine d).restState ∧
      (∃ p, (s.returnRecord d).record? r = some p ∧ p.Raised q.returned) ∧
      ∀ x e, q.kind = .writeback → q.owner = some x → s.entry? x = some e → e.state.inWriteback = true →
        (s.returnRecord d).entry? x = some { e with state := .dirty, redirtySince := none, late := 0 } := by
  obtain ⟨windows, aside, rests, gone⟩ := State.setAside_spec alone
  have returned : ((s.setAside d r).modRecord r Record.returned).record? r = some q.returned := by
    rw [State.modRecord_eq, State.record_setRecord_self, aside, record]
    rfl
  obtain ⟨engines, p, kept, raised⟩ := State.returnEntry_spec returned q
  have handed := State.Undisturbed.handBuffers (((s.setAside d r).modRecord r Record.returned).returnEntry q)
  have engine (d' : DriveIx) : ((((s.setAside d r).modRecord r Record.returned).returnEntry q).engine d') =
      (s.setAside d r).engine d' := State.engine_congr engines d'
  have stands := (handed.engine (d := d) (by rw [engine, rests])).trans ((engine d).trans rests)
  have record' := (handed.record fun d' => by rw [engine]; exact gone d').trans kept
  rw [State.returnRecord_eq current record owned]
  refine ⟨by rw [stands], by rw [stands], by rw [stands],
    ⟨p, record', raised⟩, fun x e kind owner entry busy => ?_⟩
  have before : ((s.setAside d r).modRecord r Record.returned).entry? x = some e :=
    (State.entry_congr windows x).trans entry
  exact State.Lends.entry (State.Lends.handBuffers _) (State.entry_returnEntry kind owner before busy) nofun

/-! ## The commands -/

theorem State.linkHold_outside {drive : Byte} (h : driveOf drive = none) :
    State.linkHold drive s = s.refusedWith [0x30, 1, drive] .badParam := by
  simp only [State.linkHold, h]
  rfl

theorem State.linkRun_outside {drive : Byte} (h : driveOf drive = none) :
    State.linkRun drive s = s.refusedWith [0x31, 1, drive] .badParam := by
  simp only [State.linkRun, h]
  rfl

theorem exec_hold_named {drive : Byte} (running : s.power = .running) (named : drive.toNat = d.val) :
    exec (.hold drive) s =
      .next (State.settle (((s.takeCommand 0x30 [drive]).holdDrive d).respond .done [])) := by
  refine (congrArg Host.Outcome.next (State.perform_of_running running _)).trans ?_
  rw [State.linkHold, driveOf_of_toNat named]

theorem exec_run_named {drive : Byte} (running : s.power = .running) (named : drive.toNat = d.val) :
    exec (.run drive) s =
      .next (State.settle (((s.takeCommand 0x31 [drive]).runDrive d).respond .done [])) := by
  refine (congrArg Host.Outcome.next (State.perform_of_running running _)).trans ?_
  rw [State.linkRun, driveOf_of_toNat named]

theorem Engine.restState_linked {e : Engine} (linked : e.link = true) :
    e.restState = if e.door then .notReady else .held := by
  rw [Engine.restState, Engine.unheld, linked]
  cases e.door <;> simp

theorem State.holdDrive_stopped (stopped : (s.engine d).state = .idle ∨ (s.engine d).state = .held) :
    s.holdDrive d = s.modEngine d fun e =>
      { e with link := true, state := if e.door then .notReady else .held } := by
  have linked : (s.modEngine d fun e => { e with link := true }).engine d = { s.engine d with link := true } :=
    State.engine_modEngine_self ..
  rw [State.holdDrive, State.stopForHold_stopped (by rw [linked]; exact stopped), State.modEngine_modEngine]
  exact congrArg (State.modEngine s d) (funext fun e => by rw [Engine.restState_linked rfl])

theorem State.holdDrive_working (working : (s.engine d).state ∈ [EngineState.notReady, .recalibrating, .select,
    .searching, .reading, .writing, .verifying, .formatting]) :
    s.holdDrive d = s.modEngine d fun e => { e with link := true } :=
  State.stopForHold_working (by rw [State.engine_modEngine_self]; exact working)

theorem State.holdDrive_preparing
    (preparing : (s.engine d).state ∈ [EngineState.waitBuffer, .positioning, .waitChannel]) :
    s.holdDrive d = (s.modEngine d fun e => { e with link := true }).returnRecord d :=
  State.stopForHold_preparing (by rw [State.engine_modEngine_self]; exact preparing)

/-- The engine of a drive at RUN. -/
def Engine.runs (e : Engine) : Engine :=
  let f := { e with link := false, fault := false }
  if f.door = false ∧ f.dip = false ∧ (f.state = .held ∨ f.state = .notReady) then
    if f.cyl = none then { f.beginRecal with state := .recalibrating } else { f with state := .idle }
  else f

theorem State.runDrive_eq (s : State) (d : DriveIx) : s.runDrive d = s.modEngine d Engine.runs := by
  have cleared : (s.modEngine d fun e => { e with link := false, fault := false }).engine d =
      { s.engine d with link := false, fault := false } := State.engine_modEngine_self ..
  have runs (h : Engine → Engine)
      (same : (s.engine d).runs = h { s.engine d with link := false, fault := false }) :
      (s.modEngine d fun e => { e with link := false, fault := false }).modEngine d h = s.modEngine d Engine.runs := by
    rw [State.modEngine_modEngine, State.modEngine_eq, State.modEngine_eq, same]
  rw [State.runDrive, State.resume]
  rw [cleared]
  by_cases stopped : (s.engine d).door = false ∧ (s.engine d).dip = false ∧
      ((s.engine d).state = .held ∨ (s.engine d).state = .notReady)
  · rw [if_pos (by simpa [Engine.unheld, and_assoc] using stopped)]
    split
    · next unknown => exact runs _ (by rw [Engine.runs]; exact (if_pos stopped).trans (if_pos unknown))
    · next known => exact runs _ (by rw [Engine.runs]; exact (if_pos stopped).trans (if_neg known))
  · rw [if_neg (by simpa [Engine.unheld, and_assoc] using stopped)]
    rw [State.modEngine_eq, State.modEngine_eq, Engine.runs]
    exact congrArg (s.setEngine d) (if_neg stopped).symm

end Holds

/-- Settles O33: HOLD acts by the engine's state, and preparing work goes back to WAITING. -/
theorem holdStopsAndRunResumes : Obligations.HoldStopsAndRunResumes := by
  refine fun drive s running => ⟨fun outside => ⟨?_, ?_⟩, fun d named => ⟨fun stopped => ?_, fun working => ?_,
    fun r q preparing current record owned alone => ?_, ?_⟩⟩
  · refine (congrArg Host.Outcome.next (State.perform_of_running running _)).trans ?_
    rw [State.linkHold_outside (driveOf_of_gt outside)]
  · refine (congrArg Host.Outcome.next (State.perform_of_running running _)).trans ?_
    rw [State.linkRun_outside (driveOf_of_gt outside)]
  · rw [exec_hold_named running named, State.holdDrive_stopped (s := s.takeCommand 0x30 [drive]) stopped]
    rfl
  · rw [exec_hold_named running named, State.holdDrive_working (s := s.takeCommand 0x30 [drive]) working]
    rfl
  · refine ⟨_, exec_hold_named running named, ?_⟩
    rw [State.holdDrive_preparing (s := s.takeCommand 0x30 [drive]) preparing]
    obtain ⟨t, held⟩ : ∃ t, t = (s.takeCommand 0x30 [drive]).modEngine d fun e => { e with link := true } :=
      ⟨_, rfl⟩
    have linked : t.engine d = { s.engine d with link := true } := by
      rw [held]
      exact State.engine_modEngine_self ..
    have others : ∀ d', d' ≠ d → (t.engine d').current ≠ some r := fun d' other => by
      rw [held, State.modEngine_eq, State.engine_setEngine_other _ _ other]
      exact alone d' other
    have memory : t.memory = s.memory := by rw [held]; rfl
    have entries (x : SectorRef) : t.entry? x = s.entry? x := by rw [held]; rfl
    obtain ⟨link, idle, state, ⟨p, kept, raised⟩, back⟩ := State.returnRecord_spec (s := t) (d := d) (r := r)
      (q := q) (by rw [linked, current]) (by rw [held]; exact record) owned others
    have same : (t.returnRecord d).memory = s.memory :=
      (congrArg Steady.memory (t.returnRecord_steady d)).trans memory
    rw [← held]
    generalize t.returnRecord d = u at link idle state kept back same
    refine ⟨link.trans (by rw [linked]), idle, state.trans ?_, rfl, same, ⟨p, kept, ?_⟩,
      fun x e kind owner entry busy => back x e kind owner ((entries x).trans entry) busy⟩
    · rw [linked, Engine.restState_linked rfl]
    · obtain rfl | ⟨-, rfl⟩ := raised <;> exact ⟨rfl, rfl, rfl, rfl, rfl, rfl, rfl, rfl⟩
  · rw [exec_run_named running named, State.runDrive_eq]
    rfl

end Sys2Proof.Machine
end

section
/-! SUPPORT. The fall of a ready line (R57, R85, R137, R138): O38. -/

namespace Sys2Proof.Machine

open Sys2Proof

section Fall

variable {s : State} {d : DriveIx} {x : SectorRef}

/-! ## The engine, its waits and its bursts -/

/-- The engine of drive `d` has fallen, and left the waits, the bursts and the channel. -/
def State.fallWaits (s : State) (d : DriveIx) : State :=
  ({ s.modEngine d Engine.fall with bufWait := s.bufWait.filter (· ≠ d) }.doorBursts d).leaveChannel d

theorem State.doorBursts_bursts (s : State) (d : DriveIx) : ∃ bs, s.doorBursts d = { s with bursts := bs } := by
  obtain ⟨bs, withdrawn, -⟩ := State.withdraw_joined { s with bursts := { s.bursts with
    behind := s.bursts.behind.filter fun q => decide (q.drive ≠ d)
    running := s.bursts.running.map (Burst.orphan d) } } (Burst.bufferedOf d)
  exact ⟨bs, withdrawn⟩

/-- Records that keep their owners leave every entry's operation as it is. -/
theorem State.opOf_of_owners {t : State} (owners : ∀ r, (t.record? r).map Record.owner = (s.record? r).map Record.owner)
    (x : SectorRef) : t.opOf x = s.opOf x := by
  have owned (u : State) (r : RecIx) : u.Owned x r ↔ (u.record? r).map Record.owner = some (some x) := by
    simp [State.Owned]
  exact State.opOf_congr fun r => by rw [owned, owned, owners]

theorem State.fallWaits_spec (s : State) (d : DriveIx) :
    (∃ c recs es bs wait, s.fallWaits d = { s with
        chan := c, pool := { s.pool with records := recs }, engines := es, bursts := bs, bufWait := wait }) ∧
      (s.fallWaits d).engine d = (s.engine d).fall ∧ ∀ x, (s.fallWaits d).opOf x = s.opOf x := by
  obtain ⟨bs, burst⟩ :=
    State.doorBursts_bursts { s.modEngine d Engine.fall with bufWait := s.bufWait.filter (· ≠ d) } d
  have fallen : (s.modEngine d Engine.fall).engine d = (s.engine d).fall := State.engine_modEngine_self ..
  rw [State.fallWaits, burst]
  obtain ⟨c, recs, es, e, owners⟩ := State.leaveChannel_frame
    { s.modEngine d Engine.fall with bufWait := s.bufWait.filter (· ≠ d), bursts := bs } d
  have stands := (State.Undisturbed.leaveChannel
    { s.modEngine d Engine.fall with bufWait := s.bufWait.filter (· ≠ d), bursts := bs } d).engine (d := d)
    (congrArg Engine.current fallen)
  exact ⟨⟨c, recs, es, bs, _, e⟩, stands.trans fallen, State.opOf_of_owners owners⟩

/-! ## The entries (R57) -/

/-- An entry, with an operation or without, after the fall. -/
def Entry.fallen (operation : Bool) (e : Entry) : Entry :=
  if e.state.inWriteback then { e with state := .stranded, redirtySince := none, late := 0 }
  else if e.state = .queued ∨ (e.state = .filling ∧ operation = true) then Entry.new e.addr else e

theorem Entry.fallen_inWriteback {e : Entry} (busy : e.state.inWriteback = true) (operation : Bool) :
    e.fallen operation = { e with state := .stranded, redirtySince := none, late := 0 } := if_pos busy

theorem Entry.fallen_twice (operation : Bool) (e : Entry) :
    (e.fallen operation).fallen operation = e.fallen operation := by
  by_cases busy : e.state.inWriteback = true
  · rw [Entry.fallen_inWriteback busy]
    rfl
  · by_cases filled : e.state = .queued ∨ (e.state = .filling ∧ operation = true)
    · have once : e.fallen operation = Entry.new e.addr := (if_neg busy).trans (if_pos filled)
      rw [once]
      rfl
    · have once : e.fallen operation = e := (if_neg busy).trans (if_neg filled)
      rw [once, once]

theorem Entry.fallen_not_queued (operation : Bool) (e : Entry) : (e.fallen operation).state ≠ .queued := by
  unfold Entry.fallen
  split
  · nofun
  · split
    · nofun
    · next idle => exact fun queued => idle (.inl queued)

theorem State.doorEntry_frame (s : State) (y : SectorRef) :
    (∃ ws bl, s.doorEntry y = { s with windows := ws, pool := { s.pool with backlog := bl } }) ∧
      ∀ x, x ∈ (s.doorEntry y).pool.backlog → x ∈ s.pool.backlog := by
  unfold State.doorEntry
  split
  · exact ⟨⟨_, _, rfl⟩, fun _ h => h⟩
  · split
    · exact ⟨⟨_, _, rfl⟩, fun _ h => h⟩
    · split <;> exact ⟨⟨_, _, rfl⟩, fun _ h => h⟩
    iterate 4 exact ⟨⟨_, _, rfl⟩, fun _ h => List.mem_of_mem_filter h⟩
    all_goals exact ⟨⟨_, _, rfl⟩, fun _ h => h⟩

theorem State.opOf_doorEntry (s : State) (x y : SectorRef) : (s.doorEntry y).opOf x = s.opOf x := by
  obtain ⟨⟨_, _, e⟩, -⟩ := s.doorEntry_frame y
  rw [e]
  rfl

theorem State.entry_doorEntry (s : State) (x y : SectorRef) : (s.doorEntry y).entry? x =
    if x = y then (s.entry? x).map (Entry.fallen (s.opOf x).isSome) else s.entry? x := by
  by_cases same : x = y
  · subst same
    rw [if_pos rfl]
    have changed (f : Entry → Entry) : (s.modEntry x f).entry? x = (s.entry? x).map f := State.entry_modEntry_self ..
    unfold State.doorEntry
    cases entry : s.entry? x with
    | none => exact entry
    | some e =>
      dsimp only
      split
      · next state => simp [changed, entry, Entry.fallen, state, SectorState.inWriteback, Entry.fillCancelled,
          Entry.emptied]
      · next state =>
        split
        · next op => simp [changed, entry, op, Entry.fallen, state, SectorState.inWriteback, Entry.fillCancelled,
            Entry.emptied]
        · next none => simp [entry, none, Entry.fallen, state, SectorState.inWriteback]
      iterate 4
        next state =>
          refine (changed Entry.strand).trans ?_
          simp [entry, Entry.fallen, state, SectorState.inWriteback, Entry.strand]
      all_goals next state => simp [entry, Entry.fallen, state, SectorState.inWriteback]
  · rw [if_neg same]
    have others (f : Entry → Entry) : (s.modEntry y f).entry? x = s.entry? x := State.entry_modEntry_other s f same
    unfold State.doorEntry
    split
    · rfl
    · split
      · exact others _
      · split
        · exact others _
        · rfl
      iterate 4 exact others _
      all_goals rfl

/-- An entry that is to be STRANDED leaves the Backlog List. -/
theorem State.doorEntry_leaves {e : Entry} (entry : s.entry? x = some e) (busy : e.state.inWriteback = true) :
    x ∉ (s.doorEntry x).pool.backlog := by
  have left (t : State) : x ∉ (t.leaveBacklog x).pool.backlog := fun here => by
    simp [State.leaveBacklog] at here
  unfold State.doorEntry
  rw [entry]
  dsimp only
  obtain state | state | state | state := e.state.inWriteback_iff.mp busy <;> rw [state] <;> exact left _

/-- What a fall leaves of an entry on the Backlog List at each point: it is in a state that still leaves it. -/
def State.FallPending (s : State) (x : SectorRef) : Prop :=
  x ∈ s.pool.backlog → ∃ e, s.entry? x = some e ∧ e.state.inWriteback = true

theorem State.FallPending.doorEntry (h : s.FallPending x) (y : SectorRef) : (s.doorEntry y).FallPending x := by
  intro listed
  obtain ⟨-, shrinks⟩ := s.doorEntry_frame y
  obtain ⟨e, entry, busy⟩ := h (shrinks x listed)
  by_cases same : x = y
  · subst same
    exact absurd listed (State.doorEntry_leaves entry busy)
  · exact ⟨e, by rw [State.entry_doorEntry, if_neg same, entry], busy⟩

/-- Every entry of the drive at the fall. -/
def State.doorEntries (s : State) (d : DriveIx) : State := (s.refsOfDrive d).foldl State.doorEntry s

theorem State.doorEntries_frame (s : State) (d : DriveIx) :
    ∃ ws bl, s.doorEntries d = { s with windows := ws, pool := { s.pool with backlog := bl } } := by
  refine foldl_invariant (fun t => ∃ ws bl, t = { s with windows := ws, pool := { s.pool with backlog := bl } })
    State.doorEntry (fun t y ht => ?_) (s.refsOfDrive d) s ⟨_, _, rfl⟩
  obtain ⟨_, _, rfl⟩ := ht
  obtain ⟨⟨ws, bl, e⟩, -⟩ := State.doorEntry_frame _ y
  exact ⟨ws, bl, e⟩

theorem State.doorEntries_spec {e : Entry} {b : Binding} (entry : s.entry? x = some e)
    (binding : s.binding? x.win = some b) (named : b.drive = d) :
    (s.doorEntries d).entry? x = some (e.fallen (s.opOf x).isSome) ∧
      (e.state.inWriteback = true → x ∉ (s.doorEntries d).pool.backlog) := by
  have after : (s.doorEntries d).entry? x = some (e.fallen (s.opOf x).isSome) := by
    refine (State.entry_foldl (Entry.fallen_twice (s.opOf x).isSome) (fun t => t.opOf x = s.opOf x)
      (fun t y ht => (t.opOf_doorEntry x y).trans ht) (fun t y ht => ht ▸ t.entry_doorEntry x y)
      (s.refsOfDrive d) s rfl).trans ?_
    rw [if_pos ((State.mem_refsOfDrive entry binding d).mpr named), entry]
    rfl
  refine ⟨after, fun busy listed => ?_⟩
  obtain ⟨f, now, still⟩ := foldl_invariant (State.FallPending · x) State.doorEntry
    (fun _ y ht => ht.doorEntry y) (s.refsOfDrive d) s (fun _ => ⟨e, entry, busy⟩) listed
  cases now.symm.trans after
  rw [Entry.fallen_inWriteback busy] at still
  cases still

/-! ## The records (R129, R137) -/

theorem State.volume_noteFormat (s : State) (d : DriveIx) (cause : Option FormatCause) (q : Record) :
    (s.noteFormat d cause q).volume d = { s.volume d with
      lastFormat := some
        { cause := cause, cylinder := q.cylinder, side := q.side,
          interleave := (q.format.map (·.interleave)).getD 0, time := s.clock.coarse } } :=
  State.volume_setVolume_self s d _

/-- From `s` to `t` records of drive `d` have been removed: only its last-format record, events and the pool
change, and nothing joins the Backlog List. -/
def State.RecordsFall (s : State) (d : DriveIx) (t : State) : Prop :=
  (∃ vs p ev, t = { s with volumes := vs, pool := p, events := ev }) ∧
    (∃ f, t.volume d = { s.volume d with lastFormat := f }) ∧ ∀ x ∈ t.pool.backlog, x ∈ s.pool.backlog

theorem State.RecordsFall.released {t : State} (h : s.RecordsFall d t) (r : RecIx) :
    s.RecordsFall d (t.releaseRecord r) := by
  obtain ⟨⟨_, _, _, rfl⟩, volume, shrinks⟩ := h
  obtain ⟨p, e, -, -, kept, -⟩ := State.releaseRecord_spec _ r
  rw [e]
  exact ⟨⟨_, _, _, rfl⟩, volume, fun x listed => shrinks x (kept x listed)⟩

theorem State.RecordsFall.doorRecord {t : State} (h : s.RecordsFall d t) (r : RecIx) :
    s.RecordsFall d (State.doorRecord d t r) := by
  unfold State.doorRecord
  split
  · exact h
  · next q _ =>
    split
    · refine State.RecordsFall.released ?_ r
      obtain ⟨same, ⟨f, volume⟩, shrinks⟩ := h
      have noted := t.volume_noteFormat d (some .door) q
      rw [volume] at noted
      refine ⟨?_, ⟨_, noted⟩, shrinks⟩
      obtain ⟨_, _, _, rfl⟩ := same
      exact ⟨_, _, _, rfl⟩
    · exact h.released r

theorem State.doorRecords_spec (s : State) (d : DriveIx) (l : List RecIx) :
    s.RecordsFall d (l.foldl (State.doorRecord d) s) :=
  foldl_invariant (s.RecordsFall d) (State.doorRecord d) (fun _ r ht => ht.doorRecord r) l s
    ⟨⟨_, _, _, rfl⟩, ⟨_, rfl⟩, fun _ h => h⟩

/-! ## The fall -/

/-- What the fall of drive `d` leaves, from `s` to `u`; `n` records of the drive are removed. -/
structure State.FallenTo (s : State) (d : DriveIx) (n : Nat) (u : State) : Prop where
  memory : u.memory = s.memory
  raised : u.events.raised .volumeRemoved = true
  volume : ∃ stranded f, u.volume d = { (s.volume d).fall stranded n s.clock.coarse with lastFormat := f }
  engine : u.engine d = (s.engine d).fall
  entries : ∀ x e b, s.entry? x = some e → s.binding? x.win = some b → b.drive = d →
    (e.state.inWriteback = true → x ∉ u.pool.backlog) ∧ u.entry? x = some (e.fallen (s.opOf x).isSome)

/-- The fall up to the volume's: the waits, the entries, the records, and the freed buffers handed on. -/
def State.fallParts (s : State) (d : DriveIx) : State :=
  let t := (s.fallWaits d).doorEntries d
  let t := { t with pool := { t.pool with stampWaits := t.pool.stampWaits.filter (· ≠ d) } }
  ((s.driveList d).foldl (State.doorRecord d) t).handBuffers

theorem State.driveFallen_eq (s : State) (d : DriveIx) : s.driveFallen d =
    ((s.fallParts d).modVolume d (Volume.fall ((s.fallParts d).strandedCount d) (s.driveList d).length
      (s.fallParts d).clock.coarse)).raise .volumeRemoved := rfl

theorem State.fallParts_steady (s : State) (d : DriveIx) : (s.fallParts d).steady = s.steady := by
  obtain ⟨⟨_, _, _, _, _, waits⟩, -⟩ := s.fallWaits_spec d
  obtain ⟨_, _, entered⟩ := (s.fallWaits d).doorEntries_frame d
  obtain ⟨⟨_, _, _, recorded⟩, -⟩ := State.doorRecords_spec
    { (s.fallWaits d).doorEntries d with pool := { ((s.fallWaits d).doorEntries d).pool with
      stampWaits := ((s.fallWaits d).doorEntries d).pool.stampWaits.filter (· ≠ d) } } d (s.driveList d)
  rw [State.fallParts, State.handBuffers_steady]
  dsimp only
  rw [recorded, entered, waits]
  rfl

theorem State.fallParts_spec (s : State) (d : DriveIx) :
    (s.fallParts d).engine d = (s.engine d).fall ∧
      (∃ f, (s.fallParts d).volume d = { s.volume d with lastFormat := f }) ∧
      ∀ x e b, s.entry? x = some e → s.binding? x.win = some b → b.drive = d →
        (e.state.inWriteback = true → x ∉ (s.fallParts d).pool.backlog) ∧
          (s.fallParts d).entry? x = some (e.fallen (s.opOf x).isSome) := by
  obtain ⟨⟨_, _, _, _, _, waits⟩, fallen, ops⟩ := s.fallWaits_spec d
  have waitsWindows : (s.fallWaits d).windows = s.windows := by rw [waits]
  have waitsVolumes : (s.fallWaits d).volumes = s.volumes := by rw [waits]
  have entries := fun x e b (entry : s.entry? x = some e) (binding : s.binding? x.win = some b) (named : b.drive = d) =>
    State.doorEntries_spec ((State.entry_congr waitsWindows x).trans entry)
      ((State.binding_congr waitsWindows x.win).trans binding) named
  obtain ⟨_, _, entered⟩ := (s.fallWaits d).doorEntries_frame d
  have engines : ((s.fallWaits d).doorEntries d).engine d = (s.engine d).fall := by
    rw [entered]
    exact fallen
  have volumes : ((s.fallWaits d).doorEntries d).volumes = s.volumes := by rw [entered, ← waitsVolumes]
  rw [State.fallParts]
  generalize (s.fallWaits d).doorEntries d = t at entries engines volumes
  obtain ⟨⟨vs, p, ev, recorded⟩, ⟨f, volume⟩, shrinks⟩ := State.doorRecords_spec
    { t with pool := { t.pool with stampWaits := t.pool.stampWaits.filter (· ≠ d) } } d (s.driveList d)
  have recordsEngine : ((s.driveList d).foldl (State.doorRecord d)
      { t with pool := { t.pool with stampWaits := t.pool.stampWaits.filter (· ≠ d) } }).engine d =
      (s.engine d).fall := by rw [recorded]; exact engines
  have recordsEntry (x : SectorRef) : ((s.driveList d).foldl (State.doorRecord d)
      { t with pool := { t.pool with stampWaits := t.pool.stampWaits.filter (· ≠ d) } }).entry? x = t.entry? x := by
    rw [recorded]
    rfl
  generalize (s.driveList d).foldl (State.doorRecord d)
      { t with pool := { t.pool with stampWaits := t.pool.stampWaits.filter (· ≠ d) } } = u at *
  have lends := State.Lends.handBuffers u
  obtain ⟨lentVolumes, -⟩ := lends.rest
  obtain ⟨lentBacklog, -⟩ := lends.pool_rest
  dsimp only
  refine ⟨((State.Undisturbed.handBuffers u).engine (by rw [recordsEngine]; rfl)).trans recordsEngine,
    ⟨f, ?_⟩, fun x e b entry binding named => ?_⟩
  · rw [State.volume_congr lentVolumes, volume]
    exact congrArg (fun v : Volume => { v with lastFormat := f }) (State.volume_congr volumes d)
  · obtain ⟨after, leaves⟩ := entries x e b entry binding named
    rw [ops] at after
    refine ⟨fun busy listed => leaves busy (shrinks x (lentBacklog ▸ listed)),
      lends.entry ((recordsEntry x).trans after) (Entry.fallen_not_queued _ e)⟩

theorem State.driveFallen_fallen (s : State) (d : DriveIx) :
    s.FallenTo d (s.driveList d).length (s.driveFallen d) := by
  obtain ⟨engine, ⟨f, volume⟩, entries⟩ := s.fallParts_spec d
  have steady := s.fallParts_steady d
  have memory : (s.fallParts d).memory = s.memory := congrArg Steady.memory steady
  have clock : (s.fallParts d).clock = s.clock := congrArg Steady.clock steady
  rw [State.driveFallen_eq, clock]
  generalize (s.fallParts d).strandedCount d = stranded
  generalize s.fallParts d = t at *
  refine ⟨memory, EventUnit.raised_raise _ _, ⟨stranded, f, ?_⟩, engine, entries⟩
  exact (State.volume_setVolume_self t d _).trans
    (congrArg (Volume.fall stranded (s.driveList d).length s.clock.coarse) volume)

end Fall

theorem exec_readyLineFall_running {s : State} (running : s.power = .running) (d : DriveIx) :
    exec (.readyLineFall d) s = .next (State.settle
      (if (s.volume d).state = .empty then s.modEngine d fun e => { e with ready := false }
      else (s.modEngine d fun e => { e with ready := false }).driveFallen d)) :=
  congrArg Host.Outcome.next (if_pos running)

/-- Settles O38: the engine, its waits, the drive's entries and its records fall one after the other. -/
theorem readyFallStrandsChanges : Obligations.ReadyFallStrandsChanges := by
  refine fun d s => ⟨fun held => congrArg Host.Outcome.next (if_neg held), fun running empty => ?_,
    fun running present => ⟨_, exec_readyLineFall_running running d, ?_⟩⟩
  · rw [exec_readyLineFall_running running, if_pos empty]
    rfl
  · rw [if_neg present]
    have current : (s.modEngine d fun e => { e with ready := false }).engine d =
      { s.engine d with ready := false } := State.engine_modEngine_self ..
    have fall := State.driveFallen_fallen (s.modEngine d fun e => { e with ready := false }) d
    generalize (s.modEngine d fun e => { e with ready := false }).driveFallen d = u at fall
    obtain ⟨memory, raised, ⟨stranded, f, volume⟩, engine, entries⟩ := fall
    rw [volume, engine, current]
    refine ⟨memory, raised, rfl, rfl, rfl, rfl, rfl, rfl, ⟨_, rfl, rfl, rfl, rfl, rfl, ?_⟩, rfl,
      fun x e b entry binding named => ?_⟩
    · change (s.volume d).present.map Stamp.volumeId = _
      cases (s.volume d).present <;> rfl
    · exact entries x e b entry binding named

end Sys2Proof.Machine
end

section
/-! SUPPORT. The end of a write-back: completion, failure and the write-fault line (R52, R53, R98 to R101, R129): O47. -/

namespace Sys2Proof.Machine

open Sys2Proof

section Endings

variable {s : State} {d : DriveIx} {r : RecIx} {q : Record} {x : SectorRef} {e : Entry}

/-! ## An operation that is over -/

/-- The engine at the end of its operation. -/
def Engine.ended (e : Engine) : Engine :=
  { e with current := none, gate := false, motion := .still, formatOn := false, idFound := false,
           state := e.restState }

theorem State.engine_endOperation (s : State) (d : DriveIx) : (s.endOperation d).engine d = (s.engine d).ended :=
  State.engine_modEngine_self s d _

theorem Engine.restState_stopped (e : Engine) :
    e.restState = .notReady ∨ e.restState = .idle ∨ e.restState = .held := by
  unfold Engine.restState
  split
  · exact .inl rfl
  · split
    · exact .inr (.inl rfl)
    · exact .inr (.inr rfl)

/-- The operation is over and its channel left: nothing else of the drive changes. -/
theorem State.leaves_spec (s : State) (d : DriveIx) :
    ((s.endOperation d).leaveChannel d).engine d = (s.engine d).ended ∧
      ∃ c recs es, (s.endOperation d).leaveChannel d =
        { s with chan := c, pool := { s.pool with records := recs }, engines := es } := by
  have stands := (State.Undisturbed.leaveChannel (s.endOperation d) d).engine (d := d)
    (by rw [State.engine_endOperation]; rfl)
  obtain ⟨c, recs, es, e, -⟩ := (s.endOperation d).leaveChannel_frame d
  exact ⟨stands.trans (s.engine_endOperation d), c, recs, es, e⟩

/-- The operation is over, its channel left and its record freed. -/
def State.dismissed (s : State) (d : DriveIx) (r : RecIx) : State := ((s.endOperation d).leaveChannel d).freeRecord r

/-- A freed record leaves an engine without an operation, the volumes, the events and an entry that is not
QUEUED. -/
structure State.Stands (s : State) (d : DriveIx) (t : State) : Prop where
  engine : t.engine d = s.engine d
  volumes : t.volumes = s.volumes
  events : t.events = s.events
  entries : ∀ x e, s.entry? x = some e → e.state ≠ .queued → t.entry? x = some e

theorem State.freeRecord_stands (idle : (s.engine d).current = none) (r : RecIx) : s.Stands d (s.freeRecord r) := by
  obtain ⟨volumes, events, fills, engines⟩ := s.freeRecord_rest r
  exact ⟨engines d idle, volumes, events, fun x e entry unqueued => entry_of_fills fills entry unqueued⟩

theorem State.dismissed_spec (s : State) (d : DriveIx) (r : RecIx) :
    (s.dismissed d r).engine d = (s.engine d).ended ∧ (s.dismissed d r).volumes = s.volumes ∧
      (s.dismissed d r).events = s.events ∧
      ∀ x e, s.entry? x = some e → e.state ≠ .queued → (s.dismissed d r).entry? x = some e := by
  obtain ⟨engine, c, recs, es, left⟩ := s.leaves_spec d
  obtain ⟨engine', volumes, events, entries⟩ :=
    State.freeRecord_stands (s := (s.endOperation d).leaveChannel d) (d := d) (by rw [engine]; rfl) r
  refine ⟨engine'.trans engine, volumes.trans (by rw [left]), events.trans (by rw [left]),
    fun x e entry unqueued => entries x e ?_ unqueued⟩
  rw [left]
  exact entry

theorem State.handBuffers_alone (alone : s.bufWait = []) : s.handBuffers = s := by
  refine foldl_invariant (· = s) State.handBuffer (fun t b same => ?_) allBuffers s rfl
  obtain unchanged | ⟨d', rest, -, waits, -⟩ := t.handBuffer_cases b
  · exact unchanged.trans same
  · rw [same, alone] at waits
    cases waits

/-- With no drive waiting for a buffer, a freed record changes no window. -/
theorem State.dismissed_windows (r : RecIx) (alone : s.bufWait = []) : (s.dismissed d r).windows = s.windows := by
  obtain ⟨-, c, recs, es, left⟩ := s.leaves_spec d
  obtain ⟨p, released, -⟩ := State.releaseRecord_spec ((s.endOperation d).leaveChannel d) r
  have waits : (((s.endOperation d).leaveChannel d).releaseRecord r).bufWait = [] := by
    rw [released, left]
    exact alone
  rw [State.dismissed, State.freeRecord, State.handBuffers_alone waits, released, left]

/-- A hold changes no more than the state of an engine that has come to rest (R102). -/
theorem State.stopForHold_rested (stopped : (s.engine d).state = .notReady ∨ (s.engine d).state = .idle ∨
    (s.engine d).state = .held) : ∃ es st, s.stopForHold d = { s with engines := es } ∧
      (s.stopForHold d).engine d = { s.engine d with state := st } := by
  obtain down | rests := stopped
  · rw [State.stopForHold_working (down ▸ .head _)]
    exact ⟨_, _, rfl, rfl⟩
  · rw [State.stopForHold_stopped rests, State.engine_modEngine_self]
    exact ⟨_, _, rfl, rfl⟩

def Engine.faulted (e : Engine) : Engine := { e with fault := true }

theorem State.haltFault_eq (s : State) (d : DriveIx) :
    s.haltFault d = ((s.modEngine d Engine.faulted).raise .driveHalted).stopForHold d := rfl

/-- What a halting fault leaves of drive `d`, whose operation was over, from `s` to `t`. -/
structure State.Halts (s : State) (d : DriveIx) (t : State) : Prop where
  current : (t.engine d).current = (s.engine d).current
  gate : (t.engine d).gate = (s.engine d).gate
  fault : (t.engine d).fault = true
  lastFault : (t.engine d).lastFault = (s.engine d).lastFault
  windows : t.windows = s.windows
  volumes : t.volumes = s.volumes
  events : s.events.Grows t.events
  raised : t.events.raised .driveHalted = true

theorem State.haltFault_halts {f : Engine} (ended : s.engine d = f.ended) : s.Halts d (s.haltFault d) := by
  have stopped : (s.engine d).state = .notReady ∨ (s.engine d).state = .idle ∨ (s.engine d).state = .held := by
    rw [ended]
    exact f.restState_stopped
  have faulted : ((s.modEngine d Engine.faulted).raise .driveHalted).engine d = (s.engine d).faulted :=
    State.engine_modEngine_self s d Engine.faulted
  obtain ⟨es, st, stands, engine⟩ := State.stopForHold_rested (s := (s.modEngine d Engine.faulted).raise .driveHalted)
    (d := d) (by rw [faulted]; exact stopped)
  rw [faulted] at engine
  rw [State.haltFault_eq]
  refine ⟨(congrArg Engine.current engine).trans rfl, (congrArg Engine.gate engine).trans rfl,
    (congrArg Engine.fault engine).trans rfl, (congrArg Engine.lastFault engine).trans rfl, ?_, ?_, ?_, ?_⟩ <;>
    rw [stands]
  · rfl
  · rfl
  · exact EventUnit.grows_raise _ _
  · exact EventUnit.raised_raise _ _

/-! ## Completion (R52, R53, R101) -/

theorem State.marksGone_eq (s : State) (failure : Bool) (marks : BitVec 4) :
    ∃ slots events, s.marksGone failure marks = { s with slots := slots, events := events } := by
  refine foldl_invariant (fun t : State => ∃ slots events, t = { s with slots := slots, events := events }) _
    (fun t k ht => ?_) allSlots s ⟨_, _, rfl⟩
  split
  · obtain ⟨_, _, rfl⟩ := ht
    obtain ⟨slots, events, gone⟩ := State.markGone_eq _ failure k
    exact ⟨slots, events, gone⟩
  · exact ht

theorem Entry.written_writing (state : e.state = .writing) : e.written = e.cleaned false := by
  rw [Entry.written, state]

theorem Entry.written_redirty (state : e.state = .redirty) : e.written =
    { e with state := .dirty, dirtySince := e.redirtySince, redirtySince := none, damaged := false,
             marks := e.marks &&& e.late, late := 0 } := by
  rw [Entry.written, state]

theorem Record.not_names_stamp (q : Record) (d : DriveIx) : (!q.names (stampAddr d)) =
    decide (q.drive ≠ d ∨ q.cylinder ≠ 0 ∨ q.side ≠ 0 ∨ q.sector ≠ some 0) := by
  simp only [Record.names, stampAddr, Bool.not_and, ne_eq, decide_not, Bool.or_assoc, Bool.decide_or]
  rfl

/-- The marks that the completion of the entry's write-back clears go, and a REDIRTY one is provided for. -/
def State.settleMarks (s : State) (x : SectorRef) (e : Entry) : State :=
  if e.state = .redirty then (s.marksGone false e.clearedMarks).provide x false
  else s.marksGone false e.clearedMarks

theorem State.settleMarks_frame (s : State) (x : SectorRef) (e : Entry) : ∃ p slots v,
    s.settleMarks x e = { s with pool := p, slots := slots, events := v } := by
  obtain ⟨slots, events, gone⟩ := s.marksGone_eq false e.clearedMarks
  unfold State.settleMarks
  split
  · obtain ⟨p, v, provided⟩ := (s.marksGone false e.clearedMarks).provide_frame x false
    rw [provided, gone]
    exact ⟨_, _, _, rfl⟩
  · rw [gone]
    exact ⟨_, _, _, rfl⟩

theorem State.writeCompletes_spec (record : s.record? r = some q) (owner : q.owner = some x)
    (entry : s.entry? x = some e) :
    (s.writeCompletes d r).engine d = (s.engine d).ended ∧
      ((s.writeCompletes d r).volume d).changed = (!q.names (stampAddr d)) ∧
      (e.written.state ≠ .queued → (s.writeCompletes d r).entry? x = some e.written) := by
  obtain ⟨engine, c, recs, es, left⟩ := s.leaves_spec d
  have before : ((((s.endOperation d).leaveChannel d).noteWritten d q).modEntry x Entry.written).entry? x =
      some e.written := by
    rw [State.entry_modEntry_self, left]
    exact congrArg (Option.map Entry.written) entry
  have noted : (((((s.endOperation d).leaveChannel d).noteWritten d q).modEntry x Entry.written).volume d).changed =
      (!q.names (stampAddr d)) := congrArg Volume.changed (State.volume_setVolume_self _ d _)
  have ended : ((((s.endOperation d).leaveChannel d).noteWritten d q).modEntry x Entry.written).engine d =
      (s.engine d).ended := engine
  rw [State.writeCompletes, record]
  dsimp only
  rw [owner]
  dsimp only
  rw [entry]
  dsimp only
  generalize (((s.endOperation d).leaveChannel d).noteWritten d q).modEntry x Entry.written = t at before noted ended
  obtain ⟨engine', volumes, -, entries⟩ := State.freeRecord_stands (s := t) (d := d) (by rw [ended]; rfl) r
  have volume : ((t.freeRecord r).volume d).changed = (!q.names (stampAddr d)) := by
    rw [State.volume_congr volumes, noted]
  obtain ⟨p, slots, v, rest⟩ := (t.freeRecord r).settleMarks_frame x e
  rw [State.settleMarks] at rest
  rw [rest]
  generalize t.freeRecord r = u at engine' volume entries
  exact ⟨engine'.trans ended, volume, entries x _ before⟩

/-! ## Failure (R55, R98, R100) -/

/-- What the failure of a write-back of the entry at `x` leaves, from `s` to `t`; `halted` says whether FAULT
is set. -/
structure State.WriteFailed (s : State) (d : DriveIx) (x : SectorRef) (e : Entry) (cause : Cause) (halted : Prop)
    (t : State) : Prop where
  steady : t.steady = s.steady
  current : (t.engine d).current = none
  gate : (t.engine d).gate = false
  fault : (t.engine d).fault = true ↔ ((s.engine d).fault = true ∨ halted)
  raised : t.events.raised .writeFailed = true
  halts : halted → t.events.raised .driveHalted = true
  entry : t.entry? x = some { e with
    state := .unwritten, redirtySince := none, cause := some cause, marks := 0, late := 0 }

theorem State.entryUnwritten_spec (entry : s.entry? x = some e) (busy : e.state.inWriteback = true) (cause : Cause) :
    (s.entryUnwritten x cause).engines = s.engines ∧ (s.entryUnwritten x cause).entry? x = some { e with
      state := .unwritten, redirtySince := none, cause := some cause, marks := 0, late := 0 } := by
  obtain ⟨slots, events, gone⟩ := (s.modEntry x (Entry.writeFailed cause)).marksGone_eq true e.marks
  rw [State.entryUnwritten, entry]
  dsimp only
  rw [if_pos busy, gone]
  refine ⟨rfl, (State.entry_modEntry_self s x (Entry.writeFailed cause)).trans ?_⟩
  rw [entry, Option.map_some, Entry.writeFailed, if_pos busy]

theorem State.writeFails_failed (record : s.record? r = some q) (owner : q.owner = some x)
    (entry : s.entry? x = some e) (busy : e.state.inWriteback = true) {cause : Cause} (unprotected : cause ≠ .protect) :
    s.WriteFailed d x e cause (cause = .writeFault ∨ ((s.engine d).halt = true ∧ cause.spendsAttempts = true))
      (s.writeFails d r cause) := by
  obtain ⟨engines, unwritten⟩ := State.entryUnwritten_spec entry busy cause
  have noted : ((s.entryUnwritten x cause).noteFault d cause .unwritten (some q)).engine d = _ :=
    State.engine_modEngine_self ..
  rw [State.engine_congr engines] at noted
  have steady := s.writeFails_steady d r cause
  have failed : s.writeFails d r cause =
      if cause = .writeFault ∨ ((s.engine d).halt = true ∧ cause.spendsAttempts = true) then
        ((((s.entryUnwritten x cause).noteFault d cause .unwritten (some q)).raise .writeFailed).dismissed d r).haltFault d
      else (((s.entryUnwritten x cause).noteFault d cause .unwritten (some q)).raise .writeFailed).dismissed d r := by
    rw [State.writeFails, record]
    dsimp only
    rw [owner]
    dsimp only
    rw [if_neg unprotected]
    rfl
  have raised : (((s.entryUnwritten x cause).noteFault d cause .unwritten (some q)).raise .writeFailed).events.raised
      .writeFailed = true := EventUnit.raised_raise _ _
  have unwritten' : (((s.entryUnwritten x cause).noteFault d cause .unwritten (some q)).raise .writeFailed).entry? x =
    some _ := unwritten
  have engine : (((s.entryUnwritten x cause).noteFault d cause .unwritten (some q)).raise .writeFailed).engine d =
    _ := noted
  generalize ((s.entryUnwritten x cause).noteFault d cause .unwritten (some q)).raise .writeFailed = t at *
  obtain ⟨ended, -, events, entries⟩ := t.dismissed_spec d r
  have kept := entries x _ unwritten' nofun
  split at failed
  · next halted =>
    obtain ⟨current, gate, fault, -, windows, -, grows, driveHalted⟩ := State.haltFault_halts ended
    rw [failed] at steady ⊢
    refine ⟨steady, ?_, ?_, by simp [fault, halted], grows _ (by rw [events]; exact raised), fun _ => driveHalted,
      (State.entry_congr windows x).trans kept⟩
    · rw [current, ended]
      rfl
    · rw [gate, ended]
      rfl
  · next going =>
    rw [failed] at steady ⊢
    refine ⟨steady, ?_, ?_, ?_, by rw [events]; exact raised, fun halted => absurd halted going, kept⟩
    · rw [ended]
      rfl
    · rw [ended]
      rfl
    · rw [ended, engine]
      simp [going, Engine.ended]

/-- A format that the write-fault line fails (R129). -/
theorem State.formatFails_halted (record : s.record? r = some q) : s.formatFails d r .writeFault =
    (((s.noteFormat d (some .writeFault) q).raise .formatFailed).dismissed d r).haltFault d := by
  rw [State.formatFails, record]
  exact if_pos rfl

/-! ## The bytes on the disk (R121) -/

theorem fit256_eq {data : List Byte} (whole : data.length = 256) : fit256 data = data :=
  List.take_left' whole

theorem writtenField_eq (data : List Byte) : writtenField data =
    List.replicate 12 0x00 ++ (0xC9 :: data) ++
      [(crc (0xC9 :: data)).extractLsb' 8 8, (crc (0xC9 :: data)).extractLsb' 0 8] ++ [0x3C] := by
  simp only [writtenField, dataField, dataMark, crcBytes, List.append_assoc, List.cons_append, List.nil_append]

/-! ## The events of the drive -/

/-- The state in which a write-back's field, from buffer `i`, is on the disk and the gate is dropped. -/
def State.laidDown (s : State) (d : DriveIx) (i : BufIx) : State :=
  { s with diskOut := some (.field d (writtenField (s.buffer i))) }.modEngine d fun e => { e with gate := false }

theorem State.fieldWritten_eq {i : BufIx} (current : (s.engine d).current = some r) (record : s.record? r = some q)
    (buffer : q.buffer = some i) (state : (s.engine d).state = .writing) : State.fieldWritten d s =
      if q.verify then (s.laidDown d i).modEngine d fun e =>
        { e with state := .verifying, searchPulses := 0, idFound := false }
      else (s.laidDown d i).writeCompletes d r := by
  rw [State.fieldWritten, current]
  dsimp only
  rw [record]
  dsimp only
  rw [if_pos state, buffer]
  rfl

theorem State.fieldVerified_eq {data : List Byte} {recorded : BitVec 16} (current : (s.engine d).current = some r)
    (state : (s.engine d).state = .verifying) (found : (s.engine d).idFound = true) :
    State.fieldVerified d data recorded s =
      if dataGood data recorded then s.writeCompletes d r else s.attemptFails d r .verify := by
  rw [State.fieldVerified, current]
  exact if_pos ⟨state, found⟩

theorem State.attemptsSpent_counted (record : s.record? r = some q) :
    (s.modRecord r fun q => { q with attempts := q.attempts + 1 }).record? r =
        some { q with attempts := q.attempts + 1 } ∧
      (s.modRecord r fun q => { q with attempts := q.attempts + 1 }).attemptsSpent d r =
        decide ((s.engine d).retries ≤ q.attempts + 1) := by
  have counted : (s.modRecord r fun q => { q with attempts := q.attempts + 1 }).record? r =
      some { q with attempts := q.attempts + 1 } := by
    rw [State.modRecord_eq, State.record_setRecord_self, record]
    rfl
  refine ⟨counted, ?_⟩
  rw [State.attemptsSpent, counted]
  rfl

theorem State.attemptFails_again (record : s.record? r = some q) (left : q.attempts + 1 < (s.engine d).retries)
    (cause : Cause) : s.attemptFails d r cause =
      (s.setRecord r (some { q with attempts := q.attempts + 1 })).modEngine d fun e =>
        { e.beginSearch with gate := false } := by
  obtain ⟨-, spent⟩ := State.attemptsSpent_counted (d := d) record
  rw [State.attemptFails]
  dsimp only
  rw [spent, if_neg (by simpa using left), State.modRecord_eq, record]
  rfl

/-- A write-back whose attempts are spent fails (R95, R100). -/
theorem State.attemptFails_failed (record : s.record? r = some q) (kind : q.kind = .writeback)
    (owner : q.owner = some x) (entry : s.entry? x = some e) (busy : e.state.inWriteback = true)
    (spent : (s.engine d).retries ≤ q.attempts + 1) :
    s.WriteFailed d x e .verify ((s.engine d).halt = true) (s.attemptFails d r .verify) := by
  obtain ⟨counted, all⟩ := State.attemptsSpent_counted (d := d) record
  have failed := State.writeFails_failed (d := d) counted owner entry busy (cause := .verify) nofun
  rw [State.attemptFails]
  dsimp only
  rw [all, if_pos (decide_eq_true spent), State.operationFails, counted]
  dsimp only
  rw [kind]
  have policy : (Cause.verify = .writeFault ∨ ((s.engine d).halt = true ∧ Cause.verify.spendsAttempts = true)) ↔
      (s.engine d).halt = true := by simp [Cause.spendsAttempts]
  obtain ⟨steady, current, gate, fault, raised, halts, unwritten⟩ := failed
  exact ⟨steady, current, gate, fault.trans (or_congr_right policy), raised, fun halt => halts (policy.mpr halt),
    unwritten⟩

theorem State.writeFaulted_writing (current : (s.engine d).current = some r) (gate : (s.engine d).gate = true)
    (state : (s.engine d).state = .writing) : State.writeFaulted d s = s.writeFails d r .writeFault := by
  simp [State.writeFaulted, current, gate, state]

theorem State.writeFaulted_formatting (current : (s.engine d).current = some r) (gate : (s.engine d).gate = true)
    (state : (s.engine d).state = .formatting) : State.writeFaulted d s = s.formatFails d r .writeFault := by
  simp [State.writeFaulted, current, gate, state]

theorem State.writeFaulted_dropped (gate : (s.engine d).gate = false) : State.writeFaulted d s = s := by
  unfold State.writeFaulted
  dsimp only
  split
  · rfl
  · rw [gate]
    rfl

theorem exec_dataFieldWritten_running (running : s.power = .running) (d : DriveIx) :
    exec (.dataFieldWritten d) s = .next (State.settle (State.fieldWritten d s)) :=
  congrArg Host.Outcome.next (State.perform_of_running running _)

theorem exec_verifyRead_running (running : s.power = .running) (d : DriveIx) {data : List Byte}
    (whole : data.length = 256) (recorded : BitVec 16) :
    exec (.verifyRead d data recorded) s = .next (State.settle (State.fieldVerified d data recorded s)) := by
  refine (congrArg Host.Outcome.next (State.perform_of_running running _)).trans ?_
  rw [fit256_eq whole]

theorem exec_writeFault_running (running : s.power = .running) (d : DriveIx) :
    exec (.writeFault d) s = .next (State.settle (State.writeFaulted d s)) :=
  congrArg Host.Outcome.next (State.perform_of_running running _)

/-! ## The clauses of the statement -/

theorem exec_dataFieldWritten_verifies {i : BufIx} (running : s.power = .running)
    (current : (s.engine d).current = some r) (record : s.record? r = some q) (buffer : q.buffer = some i)
    (state : (s.engine d).state = .writing) (verify : q.verify = true) :
    exec (.dataFieldWritten d) s = .next (State.settle { s with
      diskOut := some (.field d (writtenField (s.buffer i)))
      engines := s.engines.set d { s.engine d with
        gate := false, state := .verifying, searchPulses := 0, idFound := false } }) := by
  rw [exec_dataFieldWritten_running running, State.fieldWritten_eq current record buffer state, if_pos verify,
    State.laidDown, State.modEngine_modEngine]
  rfl

/-- A write-back that completes from `t`, which differs from `s` in the gate and what is on the disk. -/
theorem State.writeCompletes_done {t : State} (record : t.record? r = some q) (owner : q.owner = some x)
    (entry : t.entry? x = some e) :
    (t.writeCompletes d r).memory = t.memory ∧ ((t.writeCompletes d r).engine d).current = none ∧
      ((t.writeCompletes d r).engine d).gate = false ∧ (t.writeCompletes d r).diskOut = t.diskOut ∧
      ((t.writeCompletes d r).volume d).changed =
        decide (q.drive ≠ d ∨ q.cylinder ≠ 0 ∨ q.side ≠ 0 ∨ q.sector ≠ some 0) ∧
      (e.state = .writing → (t.writeCompletes d r).entry? x = some (e.cleaned false)) ∧
      (e.state = .redirty → (t.writeCompletes d r).entry? x = some { e with
        state := .dirty, dirtySince := e.redirtySince, redirtySince := none, damaged := false
        marks := e.marks &&& e.late, late := 0 }) := by
  obtain ⟨engine, changed, written⟩ := State.writeCompletes_spec (d := d) record owner entry
  have steady := t.writeCompletes_steady d r
  refine ⟨congrArg Steady.memory steady, by rw [engine]; rfl, by rw [engine]; rfl, congrArg Steady.diskOut steady,
    changed.trans (q.not_names_stamp d), fun state => ?_, fun state => ?_⟩
  · rw [Entry.written_writing state] at written
    exact written nofun
  · rw [Entry.written_redirty state] at written
    exact written nofun

/-- A format that the write-fault line has failed. -/
theorem State.formatFails_failed {p : FormatParams} (record : s.record? r = some q) (format : q.format = some p) :
    (s.formatFails d r .writeFault).memory = s.memory ∧
      (s.bufWait = [] → (s.formatFails d r .writeFault).windows = s.windows) ∧
      (s.formatFails d r .writeFault).diskOut = s.diskOut ∧
      ((s.formatFails d r .writeFault).engine d).gate = false ∧
      ((s.formatFails d r .writeFault).engine d).current = none ∧
      ((s.formatFails d r .writeFault).engine d).fault = true ∧
      (s.formatFails d r .writeFault).events.raised .formatFailed = true ∧
      (s.formatFails d r .writeFault).events.raised .driveHalted = true ∧
      ((s.formatFails d r .writeFault).engine d).lastFault = (s.engine d).lastFault ∧
      ((s.formatFails d r .writeFault).volume d).lastFormat = some
        { cause := some .writeFault, cylinder := q.cylinder, side := q.side,
          interleave := p.interleave, time := s.clock.coarse } := by
  have steady := s.formatFails_steady d r .writeFault
  have noted : (((s.noteFormat d (some .writeFault) q).raise .formatFailed).volume d).lastFormat = some
      { cause := some .writeFault, cylinder := q.cylinder, side := q.side,
        interleave := p.interleave, time := s.clock.coarse } := by
    refine (congrArg Volume.lastFormat (s.volume_noteFormat d (some .writeFault) q)).trans ?_
    rw [format]
    rfl
  have raised : ((s.noteFormat d (some .writeFault) q).raise .formatFailed).events.raised .formatFailed = true :=
    EventUnit.raised_raise _ _
  have engine : ((s.noteFormat d (some .writeFault) q).raise .formatFailed).engine d = s.engine d := rfl
  have same : ((s.noteFormat d (some .writeFault) q).raise .formatFailed).windows = s.windows := rfl
  have waits : ((s.noteFormat d (some .writeFault) q).raise .formatFailed).bufWait = s.bufWait := rfl
  have memory := congrArg Steady.memory steady
  have diskOut := congrArg Steady.diskOut steady
  rw [State.formatFails_halted record] at memory diskOut ⊢
  generalize (s.noteFormat d (some .writeFault) q).raise .formatFailed = t at *
  obtain ⟨ended, volumes, events, -⟩ := t.dismissed_spec d r
  have alone := State.dismissed_windows (s := t) (d := d) r
  rw [engine] at ended
  generalize t.dismissed d r = u at *
  obtain ⟨current, gate, fault, lastFault, windows, volumes', grows, halted⟩ := State.haltFault_halts ended
  rw [ended] at current gate lastFault
  refine ⟨memory, fun none => windows.trans ((alone (waits.trans none)).trans same), diskOut, gate, current, fault,
    grows _ (by rw [events, raised]), halted, lastFault, ?_⟩
  rw [State.volume_congr volumes', State.volume_congr volumes, noted]

end Endings

/-- Settles O47: each event of the drive at a write-back's end, by what the operation does next. -/
theorem writeBackEndsOnDisk : Obligations.WriteBackEndsOnDisk := by
  refine ⟨fun d r q i x e s running current record buffer kind owner entry => ?_,
    fun d r q p s running current record kind format state gate => ?_, fun d s running gate => ?_⟩
  · dsimp only
    rw [← writtenField_eq]
    refine ⟨exec_dataFieldWritten_verifies running current record buffer, fun c data recorded event => ?_,
      fun data recorded state found whole bad => ⟨fun left => ?_, fun spent busy => ?_⟩, fun state gate busy => ?_⟩
    · obtain ⟨rfl, state, unverified⟩ | ⟨rfl, state, found, whole, good⟩ := event
      · obtain ⟨memory, idle, gate, disk, changed, clean, dirty⟩ :=
          State.writeCompletes_done (t := s.laidDown d i) (d := d) record owner entry
        refine ⟨_, exec_dataFieldWritten_running running d, ?_⟩
        rw [State.fieldWritten_eq current record buffer state, if_neg (by simp [unverified])]
        exact ⟨memory, idle, gate, fun _ => disk, nofun, changed, clean, dirty⟩
      · obtain ⟨memory, idle, gate, disk, changed, clean, dirty⟩ :=
          State.writeCompletes_done (t := s) (d := d) record owner entry
        refine ⟨_, exec_verifyRead_running running d whole recorded, ?_⟩
        rw [State.fieldVerified_eq current state found, if_pos good]
        exact ⟨memory, idle, gate, nofun, fun _ => disk, changed, clean, dirty⟩
    · rw [exec_verifyRead_running running d whole, State.fieldVerified_eq current state found,
        if_neg (by simp [bad]), State.attemptFails_again record left]
      rfl
    · obtain ⟨steady, idle, -, fault, raised, halts, unwritten⟩ :=
        State.attemptFails_failed (d := d) record kind owner entry busy spent
      refine ⟨_, exec_verifyRead_running running d whole recorded, ?_⟩
      rw [State.fieldVerified_eq current state found, if_neg (by simp [bad])]
      refine ⟨congrArg Steady.memory steady, idle, congrArg Steady.diskOut steady, raised, unwritten, ?_, halts⟩
      rw [Bool.eq_iff_iff, fault, Bool.or_eq_true]
    · obtain ⟨steady, idle, dropped, fault, raised, halts, unwritten⟩ :=
        State.writeFails_failed (d := d) record owner entry busy (cause := .writeFault) nofun
      refine ⟨_, exec_writeFault_running running d, ?_⟩
      rw [State.writeFaulted_writing current gate state]
      exact ⟨congrArg Steady.memory steady, dropped, idle, fault.mpr (.inr (.inl rfl)), raised, halts (.inl rfl),
        unwritten⟩
  · refine ⟨_, exec_writeFault_running running d, ?_⟩
    rw [State.writeFaulted_formatting current gate state]
    exact State.formatFails_failed record format
  · rw [exec_writeFault_running running, State.writeFaulted_dropped gate]

end Sys2Proof.Machine
end

section
/-! SUPPORT. What the part's work does to the pool: buffers, backlog places and stamp waits are handed out once. -/

namespace Sys2Proof.Machine

open Sys2Proof

/-! ## The pool -/

/-- The buffer that record `r` holds. -/
def Pool.held (p : Pool) (r : RecIx) : Option BufIx := p.records[r].bind Record.buffer

/-- No two records hold the same buffer, no entry is twice on the Backlog List, and no drive twice among the
stamp waits (R70, R72, R108). -/
def Pool.HandedOnce (p : Pool) : Prop :=
  (∀ i j b, p.held i = some b → p.held j = some b → i = j) ∧ p.backlog.Nodup ∧ p.stampWaits.Nodup

/-- Two records that may not hold one buffer, the way the model's check reads it. -/
theorem buffers_apart_iff {p : Prop} (a c : Option BufIx) :
    (p ∨ (a = none ∨ a ≠ c)) ↔ ∀ b, a = some b → c = some b → p := by
  cases a with
  | none => simp
  | some b => simp [eq_comm, or_iff_not_imp_right]

theorem State.handedOnce_iff (s : State) : s.handedOnce = true ↔ s.pool.HandedOnce := by
  simp only [State.handedOnce, Bool.and_eq_true, List.all_eq_true, mem_allRecords, true_implies,
    Bool.or_eq_true, decide_eq_true_eq, and_assoc]
  refine and_congr (forall_congr' fun i => forall_congr' fun j => ?_) Iff.rfl
  unfold Pool.held State.record?
  cases s.pool.records[i] with
  | none => simp
  | some a =>
    cases s.pool.records[j] with
    | none => simp
    | some c => simpa using buffers_apart_iff (p := i = j) a.buffer c.buffer

namespace Pool.HandedOnce

variable {p : Pool}

/-- Records that hold no buffer they did not hold before. -/
theorem records (h : p.HandedOnce) {recs : Vector (Option Record) 48} (order : List RecIx)
    (keeps : ∀ i b, recs[i].bind Record.buffer = some b → p.held i = some b) :
    { p with records := recs, order := order }.HandedOnce := by
  obtain ⟨once, rest⟩ := h
  exact ⟨fun i j b hi hj => once i j b (keeps i b hi) (keeps j b hj), rest⟩

/-- One record gives way to another, or to none, that holds no other buffer. -/
theorem setRecord (h : p.HandedOnce) (order : List RecIx) (r : RecIx) {o : Option Record}
    (keeps : ∀ b, o.bind Record.buffer = some b → p.held r = some b) :
    { p with records := p.records.set r o, order := order }.HandedOnce := by
  refine h.records order fun i b hi => ?_
  simp only [Fin.getElem_fin, Vector.getElem_set, Fin.val_inj] at hi
  split at hi
  · next same => exact same ▸ keeps b hi
  · exact hi

/-- A buffer that no record holds is lent (R91, R109). -/
theorem lend (h : p.HandedOnce) (r : RecIx) {o : Option Record} {b : BufIx}
    (lent : ∀ c, o.bind Record.buffer = some c → c = b) (free : ∀ i, p.held i ≠ some b) :
    { p with records := p.records.set r o }.HandedOnce := by
  obtain ⟨once, rest⟩ := h
  have holder (i : RecIx) (c : BufIx)
      (hi : Pool.held { p with records := p.records.set r o } i = some c) :
      (i = r ∧ c = b) ∨ (i ≠ r ∧ p.held i = some c) := by
    simp only [Pool.held, Fin.getElem_fin, Vector.getElem_set, Fin.val_inj] at hi
    split at hi
    · next same => exact .inl ⟨same.symm, lent c hi⟩
    · next other => exact .inr ⟨Ne.symm other, hi⟩
  refine ⟨fun i j c hi hj => ?_, rest⟩
  obtain ⟨at_i, same⟩ | ⟨-, held_i⟩ := holder i c hi <;>
    obtain ⟨at_j, same'⟩ | ⟨-, held_j⟩ := holder j c hj
  · exact at_i.trans at_j.symm
  · exact absurd (same ▸ held_j) (free j)
  · exact absurd (same' ▸ held_i) (free i)
  · exact once i j c held_i held_j

/-- The Backlog List gives way to one with no entry twice. -/
theorem backlog (h : p.HandedOnce) {l : List SectorRef} (nodup : l.Nodup) : { p with backlog := l }.HandedOnce := by
  obtain ⟨once, -, waits⟩ := h
  exact ⟨once, nodup, waits⟩

/-- The stamp waits give way to a list with no drive twice. -/
theorem stampWaits (h : p.HandedOnce) {l : List DriveIx} (nodup : l.Nodup) :
    { p with stampWaits := l }.HandedOnce := by
  obtain ⟨once, listed, -⟩ := h
  exact ⟨once, listed, nodup⟩

/-- Entries leave the Backlog List (R72). -/
theorem filterBacklog (h : p.HandedOnce) (keep : SectorRef → Bool) :
    { p with backlog := p.backlog.filter keep }.HandedOnce := by
  obtain ⟨-, listed, -⟩ := id h
  exact h.backlog (listed.filter keep)

/-- Drives leave the stamp waits (R137, R141). -/
theorem filterStampWaits (h : p.HandedOnce) (keep : DriveIx → Bool) :
    { p with stampWaits := p.stampWaits.filter keep }.HandedOnce := by
  obtain ⟨-, -, waits⟩ := id h
  exact h.stampWaits (waits.filter keep)

/-- The drive that has waited longest leaves the stamp waits (R73). -/
theorem tailStampWaits (h : p.HandedOnce) {d : DriveIx} {rest : List DriveIx} (next : p.stampWaits = d :: rest) :
    { p with stampWaits := rest }.HandedOnce := by
  obtain ⟨-, -, waits⟩ := id h
  rw [next] at waits
  exact h.stampWaits waits.of_cons

end Pool.HandedOnce

/-- An entry that joins the Backlog List takes one place among the others (R72). -/
theorem State.backlogInsert_perm (s : State) (x : SectorRef) (age : Nat) (l : List SectorRef) :
    (s.backlogInsert x age l).Perm (x :: l) := by
  induction l with
  | nil => exact .refl _
  | cons y rest ih =>
    rw [State.backlogInsert]
    split_ifs
    · exact .refl _
    · exact (ih.cons y).trans (.swap x y rest)

/-- A buffer that is free is held by no record (R108). -/
theorem State.not_held_of_bufferFree {s : State} {b : BufIx} (free : s.bufferFree b = true) (r : RecIx) :
    s.pool.held r ≠ some b := by
  simp only [State.bufferFree, Bool.and_eq_true, List.all_eq_true] at free
  obtain ⟨free, -⟩ := free
  have here := free r (mem_allRecords r)
  intro held
  obtain ⟨q, record, buffer⟩ := Option.bind_eq_some_iff.mp held
  have at_r : s.record? r = some q := record
  rw [at_r] at here
  simp [buffer] at here

/-! ## The relation -/

/-- From `o` to `s` the part has tended its own tables: what the pool hands out once it still hands out once,
and the alert mask and the read tag stand. -/
def State.Tends (o s : State) : Prop :=
  (o.pool.HandedOnce → s.pool.HandedOnce) ∧ s.events.mask = o.events.mask ∧ s.events.readTag = o.events.readTag

namespace State.Tends

variable {o s : State}

theorem refl (s : State) : s.Tends s := ⟨id, rfl, rfl⟩

theorem handedOnce (h : o.Tends s) (once : o.pool.HandedOnce) : s.pool.HandedOnce := by
  obtain ⟨pool, -⟩ := h
  exact pool once

/-! ## Branches and folds -/

theorem ite {p : Prop} [Decidable p] {t : State} (hs : o.Tends s) (ht : o.Tends t) :
    o.Tends (if p then s else t) := by
  split
  · exact hs
  · exact ht

theorem foldl {α : Type} (h : o.Tends s) (f : State → α → State)
    (hf : ∀ (t : State) (a : α), o.Tends t → o.Tends (f t a)) (l : List α) : o.Tends (l.foldl f s) :=
  foldl_invariant o.Tends f hf l s h

/-! ## One update of another table -/

theorem raise (h : o.Tends s) (e : Event) : o.Tends (s.raise e) := h

theorem bursts (h : o.Tends s) (u : BurstUnit) : o.Tends { s with bursts := u } := h

theorem bufWait (h : o.Tends s) (l : List DriveIx) : o.Tends { s with bufWait := l } := h

theorem chan (h : o.Tends s) (c : Channel) : o.Tends { s with chan := c } := h

theorem due (h : o.Tends s) (d : Due) : o.Tends { s with clock := { s.clock with due := d } } := h

theorem diskOut (h : o.Tends s) (x : Option DiskOut) : o.Tends { s with diskOut := x } := h

theorem engines (h : o.Tends s) (v : Vector Engine 4) : o.Tends { s with engines := v } := h

theorem windows (h : o.Tends s) (v : Vector Window 16) : o.Tends { s with windows := v } := h

theorem modEngine (h : o.Tends s) (d : DriveIx) {f : Engine → Engine} : o.Tends (s.modEngine d f) := h

theorem modVolume (h : o.Tends s) (d : DriveIx) {f : Volume → Volume} : o.Tends (s.modVolume d f) := h

theorem setWindow (h : o.Tends s) (w : WinIx) (x : Window) : o.Tends (s.setWindow w x) := h

theorem modEntry (h : o.Tends s) (x : SectorRef) {f : Entry → Entry} : o.Tends (s.modEntry x f) := h

theorem setSlot (h : o.Tends s) (k : SlotIx) (x : Slot) : o.Tends (s.setSlot k x) := h

theorem setBuffer (h : o.Tends s) (b : BufIx) (x : List Byte) : o.Tends (s.setBuffer b x) := h

theorem joinQueue (h : o.Tends s) (u : Burst) : o.Tends (s.joinQueue u) := h

theorem noteFault (h : o.Tends s) (d : DriveIx) (c : Cause) (x : FaultOutcome) (q : Option Record) :
    o.Tends (s.noteFault d c x q) := h

theorem noteFormat (h : o.Tends s) (d : DriveIx) (c : Option FormatCause) (q : Record) :
    o.Tends (s.noteFormat d c q) := h

theorem endOperation (h : o.Tends s) (d : DriveIx) : o.Tends (s.endOperation d) := h

/-! ## One update of the pool -/

/-- The pool gives way to one that hands out once what it handed out once. -/
theorem pool (h : o.Tends s) {p : Pool} (once : s.pool.HandedOnce → p.HandedOnce) :
    o.Tends { s with pool := p } := by
  obtain ⟨before, rest⟩ := h
  exact ⟨fun first => once (before first), rest⟩

/-- A record changes and holds no other buffer than before. -/
theorem modRecord (h : o.Tends s) (r : RecIx) {f : Record → Record}
    (keeps : ∀ q b, (f q).buffer = some b → q.buffer = some b := by exact fun _ _ held => held) :
    o.Tends (s.modRecord r f) := by
  refine h.pool fun once => once.setRecord s.pool.order r fun b held => ?_
  rw [Option.bind_map] at held
  obtain ⟨q, record, buffer⟩ := Option.bind_eq_some_iff.mp held
  exact Option.bind_eq_some_iff.mpr ⟨q, record, keeps q b buffer⟩

/-- A record is returned to WAITING and gives its buffer back (R102). -/
theorem returnToWaiting (h : o.Tends s) (r : RecIx) : o.Tends (s.modRecord r fun q =>
    { q with phase := .waiting, misses := 0, buffer := none, copied := false }) :=
  h.modRecord r fun _ _ held => nomatch held

/-- A record is made; at its making it holds no buffer (R61). -/
theorem makeRecord (h : o.Tends s) (r : RecIx) {q : Record} (none : q.buffer = none := by rfl) :
    o.Tends (s.makeRecord r q) :=
  h.pool fun once => once.setRecord _ r fun _ held => nomatch none.symm.trans held

theorem dropRecord (h : o.Tends s) (r : RecIx) : o.Tends (s.dropRecord r) :=
  h.pool fun once => once.setRecord _ r fun _ held => nomatch held

theorem leaveBacklog (h : o.Tends s) (x : SectorRef) : o.Tends (s.leaveBacklog x) :=
  h.pool fun once => once.filterBacklog _

theorem forgetWindow (h : o.Tends s) (w : WinIx) : o.Tends (s.forgetWindow w) :=
  h.pool fun once => once.filterBacklog _

theorem joinBacklog (h : o.Tends s) {x : SectorRef} (e : Entry) (fresh : x ∉ s.pool.backlog) :
    o.Tends (s.joinBacklog x e) := by
  refine (h.pool fun once => ?_).raise .backlog
  obtain ⟨-, listed, -⟩ := id once
  exact once.backlog ((s.backlogInsert_perm x _ _).nodup_iff.mpr (List.nodup_cons.mpr ⟨fresh, listed⟩))

/-- A buffer that no record holds is lent to record `r` (R91, R109). -/
theorem lend (h : o.Tends s) (r : RecIx) {b : BufIx} (free : ∀ i, s.pool.held i ≠ some b) :
    o.Tends (s.modRecord r fun q => { q with buffer := some b, copied := false }) := by
  refine h.pool fun once => once.lend r (fun c lent => ?_) free
  rw [Option.bind_map] at lent
  obtain ⟨q, -, buffer⟩ := Option.bind_eq_some_iff.mp lent
  exact (Option.some.inj buffer).symm

/-! ## Slots and the pool -/

theorem endSlot (h : o.Tends s) (k : SlotIx) : o.Tends (s.endSlot k) := by
  unfold State.endSlot
  exact ((h.setSlot k _).raise _).ite h

theorem markGone (h : o.Tends s) (failure : Bool) (k : SlotIx) : o.Tends (s.markGone failure k) :=
  ((h.setSlot k _).endSlot k).ite h

theorem marksGone (h : o.Tends s) (failure : Bool) (marks : BitVec 4) :
    o.Tends (s.marksGone failure marks) :=
  h.foldl _ (fun _ k ht => (ht.markGone failure k).ite ht) _

theorem requestWrite (h : o.Tends s) (x : SectorRef) (u : Urgency) : o.Tends (s.requestWrite x u) := by
  obtain e | ⟨r, -, -, e⟩ | ⟨y, -, -, -, fresh, e⟩ | ⟨y, r, -, -, -, -, -, -, e⟩ :=
    s.requestWrite_cases x u <;> rw [e]
  · exact h
  · exact h.modRecord r fun q b held => by split at held <;> exact held
  · exact h.joinBacklog y fresh
  · exact h.makeRecord r

theorem provide (h : o.Tends s) (x : SectorRef) (retry : Bool) : o.Tends (s.provide x retry) := by
  obtain e | e | e := s.provide_cases x retry <;> rw [e]
  · exact h
  · exact h.requestWrite x .urgent
  · exact h.requestWrite x .normal

theorem makeOrEvict (h : o.Tends s) {q : Record} {t : State} (e : s.makeOrEvict q = some t)
    (none : q.buffer = none := by rfl) : o.Tends t := by
  obtain ⟨r, -, rfl⟩ | ⟨-, r, -, rfl⟩ := State.makeOrEvict_cases e
  · exact h.makeRecord r none
  · have evicted : o.Tends (s.evict r) := by
      unfold State.evict
      split
      · exact (h.modEntry _).dropRecord r
      · exact h.dropRecord r
    exact evicted.makeRecord r none

theorem requestFill (h : o.Tends s) (x : SectorRef) (e : Entry) : o.Tends (s.requestFill x e) := by
  unfold State.requestFill
  split
  · exact h
  · split
    · next t made => exact (h.makeOrEvict made).modEntry x
    · exact h

theorem raiseFill (h : o.Tends s) (x : SectorRef) : o.Tends (s.raiseFill x) := by
  unfold State.raiseFill
  split
  · exact h.modRecord _ fun q b held => by split at held <;> exact held
  · exact h

theorem requestStamp (h : o.Tends s) (d : DriveIx) : o.Tends (s.requestStamp d) := by
  unfold State.requestStamp
  split
  · next t made => exact h.makeOrEvict made
  · split
    · exact h
    · next new =>
      refine h.pool fun once => ?_
      obtain ⟨-, -, waits⟩ := id once
      exact once.stampWaits ((List.nodup_append_comm.mp (List.nodup_cons.mpr ⟨new, waits⟩)))

theorem handOut (h : o.Tends s) (r : RecIx) : o.Tends (s.handOut r) := by
  obtain ⟨-, -, e⟩ | ⟨d, rest, next, e⟩ | ⟨x, y, -, -, -, e⟩ := s.handOut_cases r <;> rw [e]
  · exact h
  · exact (h.pool fun once => once.tailStampWaits next).makeRecord r
  · exact (h.leaveBacklog x).makeRecord r

theorem readAhead (h : o.Tends s) (w : WinIx) (k j : Nat) : o.Tends (s.readAhead w k j) := by
  induction k generalizing s j with
  | zero => exact h
  | succ k ih =>
    unfold State.readAhead
    split
    · refine h.ite ?_
      split
      · exact h
      · refine (ih h (j + 1)).ite (h.ite ?_)
        split
        · exact h
        · next r _ => exact ih ((h.makeRecord r).modEntry _) (j + 1)
    · exact h

/-! ## Bursts -/

theorem startNext (h : o.Tends s) : o.Tends s.startNext := by
  obtain e | ⟨u, rest, -, -, e⟩ := s.startNext_cases <;> rw [e] <;> exact h

theorem requestBurst (h : o.Tends s) (q : BurstRequest) : o.Tends (s.requestBurst q) := by
  obtain e | e | ⟨u, -, e⟩ := s.requestBurst_cases q <;> rw [e]
  · exact h
  · exact h
  · exact (h.joinQueue u).startNext

theorem placeFreed (h : o.Tends s) (d : DriveIx) : o.Tends (s.placeFreed d) := by
  unfold State.placeFreed
  split
  · exact h
  · dsimp only
    split <;> exact h

theorem endRunning (h : o.Tends s) : o.Tends s.endRunning := by
  unfold State.endRunning
  split
  · exact h
  · exact ((h.bursts _).placeFreed _).startNext

theorem withdraw (h : o.Tends s) (p : Burst → Bool) : o.Tends (s.withdraw p) :=
  ((h.bursts _).foldl _ (fun _ u ht => ht.placeFreed u.drive) _).startNext

theorem withdrawRecord (h : o.Tends s) (r : RecIx) : o.Tends (s.withdrawRecord r) :=
  (h.bursts _).withdraw _

theorem stopCopyOut (h : o.Tends s) (r : RecIx) : o.Tends (s.stopCopyOut r) := by
  unfold State.stopCopyOut
  split
  · exact h.endRunning.ite h
  · exact h

/-! ## Positioning, buffers and the channel -/

theorem startPositioning (h : o.Tends s) (d : DriveIx) (r : RecIx) :
    o.Tends (s.startPositioning d r) := by
  unfold State.startPositioning
  split
  · exact h.modEngine d
  · exact h

theorem giveBuffer (h : o.Tends s) (d : DriveIx) (r : RecIx) {b : BufIx} (free : ∀ i, s.pool.held i ≠ some b) :
    o.Tends (s.giveBuffer d r b) := by
  unfold State.giveBuffer
  split
  · exact h
  · have t := h.lend r free
    dsimp only
    split
    · exact (t.modEntry _).startPositioning d r
    · exact (t.modEntry _).startPositioning d r
    · exact (t.requestBurst _).startPositioning d r
    · exact t.startPositioning d r

theorem handBuffer (h : o.Tends s) (b : BufIx) : o.Tends (s.handBuffer b) := by
  obtain e | ⟨d, rest, free, -, e | ⟨r, -, -, e⟩⟩ := s.handBuffer_cases b <;> rw [e]
  · exact h
  · exact h
  · exact (h.bufWait rest).giveBuffer d r (State.not_held_of_bufferFree free)

theorem handBuffers (h : o.Tends s) : o.Tends s.handBuffers :=
  h.foldl _ (fun _ b ht => ht.handBuffer b) _

theorem releaseRecord (h : o.Tends s) (r : RecIx) : o.Tends (s.releaseRecord r) :=
  (h.dropRecord r).handOut r

theorem freeRecord (h : o.Tends s) (r : RecIx) : o.Tends (s.freeRecord r) :=
  (h.releaseRecord r).handBuffers

theorem grant (h : o.Tends s) (d : DriveIx) : o.Tends (s.grant d) := by
  unfold State.grant
  dsimp only
  split
  · exact (h.chan _).modRecord _
  · exact h

theorem requestChannel (h : o.Tends s) (d : DriveIx) : o.Tends (s.requestChannel d) := by
  have t : o.Tends (s.modEngine d fun e => { e with state := .waitChannel, motion := .still }) :=
    h.modEngine d
  exact (t.grant d).ite (t.chan _)

theorem leaveChannel (h : o.Tends s) (d : DriveIx) : o.Tends (s.leaveChannel d) := by
  obtain ⟨-, -, e⟩ | ⟨x, rest, -, -, e⟩ | ⟨-, e⟩ := s.leaveChannel_cases d <;> rw [e]
  · exact h
  · exact (h.chan _).grant x
  · exact h

/-! ## Volumes -/

theorem reviveEntry (h : o.Tends s) (adopt : Bool) (x : SectorRef) :
    o.Tends (State.reviveEntry adopt s x) := by
  unfold State.reviveEntry
  split
  · exact h
  · split
    · exact (h.modEntry x).provide x false
    · exact (h.modEntry x).ite h
    · exact h

theorem attach (h : o.Tends s) (d : DriveIx) (adopt : Bool) : o.Tends (s.attach d adopt) :=
  (h.modVolume d).foldl _ (fun _ x ht => ht.reviveEntry adopt x) _

theorem stampUnknown (h : o.Tends s) (d : DriveIx) (x : StampOutcome) : o.Tends (s.stampUnknown d x) := h

theorem stampVerdict (h : o.Tends s) (d : DriveIx) (bytes : Option (List Byte)) :
    o.Tends (s.stampVerdict d bytes) := by
  unfold State.stampVerdict
  split
  · exact h.stampUnknown d _
  · split
    · exact h.stampUnknown d _
    · exact (((h.modVolume d).attach d false).raise _).ite (((h.modVolume d).modVolume d).raise _)

/-! ## The end of an operation, and holds -/

theorem returnEntry (h : o.Tends s) (q : Record) : o.Tends (s.returnEntry q) := by
  unfold State.returnEntry
  split
  · exact (h.modEntry _).provide _ false
  · exact h.modEntry _
  · exact h.modEntry _
  · exact h

theorem returnRecord (h : o.Tends s) (d : DriveIx) : o.Tends (s.returnRecord d) := by
  unfold State.returnRecord
  split
  · exact h
  · next r _ =>
    split
    · exact h
    · next q _ =>
      have t (waits : List DriveIx) :=
        ((((h.endOperation d).bufWait waits).leaveChannel d).withdrawRecord r).stopCopyOut r
      exact ((t _).freeRecord r).ite (((t _).returnToWaiting r).returnEntry q).handBuffers

theorem stopForHold (h : o.Tends s) (d : DriveIx) : o.Tends (s.stopForHold d) := by
  unfold State.stopForHold
  split
  · exact h.modEngine d
  · exact h.modEngine d
  · exact h.returnRecord d
  · exact h.returnRecord d
  · exact h.returnRecord d
  · exact h

theorem haltFault (h : o.Tends s) (d : DriveIx) : o.Tends (s.haltFault d) :=
  ((h.modEngine d).raise _).stopForHold d

theorem speedFails (h : o.Tends s) (d : DriveIx) : o.Tends (s.speedFails d) :=
  (((h.raise _).noteFault d _ _ _).returnRecord d).haltFault d

theorem resume (h : o.Tends s) (d : DriveIx) : o.Tends (s.resume d) := by
  obtain e | ⟨-, -, e⟩ | ⟨-, -, e⟩ := s.resume_cases d <;> rw [e]
  · exact h
  · exact h.modEngine d
  · exact h.modEngine d

/-! ## Failures -/

theorem entryUnwritten (h : o.Tends s) (x : SectorRef) (c : Cause) : o.Tends (s.entryUnwritten x c) := by
  unfold State.entryUnwritten
  split
  · exact h
  · exact ((h.modEntry x).marksGone true _).ite h

/-- The end of an operation whose record is freed. -/
theorem ended (h : o.Tends s) (d : DriveIx) (r : RecIx) :
    o.Tends (((s.endOperation d).leaveChannel d).freeRecord r) :=
  ((h.endOperation d).leaveChannel d).freeRecord r

theorem writeFails (h : o.Tends s) (d : DriveIx) (r : RecIx) (c : Cause) :
    o.Tends (s.writeFails d r c) := by
  unfold State.writeFails
  split
  · exact h
  · next q _ =>
    dsimp only
    cases q.owner with
    | some x =>
      have t := ((((h.entryUnwritten x c).noteFault d c .unwritten (some q)).raise
        (if c = Cause.protect then Event.protect else Event.writeFailed)).ended d r)
      exact (t.haltFault d).ite t
    | none => exact ((h.ended d r).haltFault d).ite (h.ended d r)

theorem fillFails (h : o.Tends s) (d : DriveIx) (r : RecIx) (c : Cause) : o.Tends (s.fillFails d r c) := by
  unfold State.fillFails
  split
  · exact h
  · dsimp only
    split
    · exact h.ended d r
    · have delivered (c : Cause) (q : Record) (b : BurstRequest) :=
        ((((h.noteFault d c .damagedDelivered (some q)).endOperation d).leaveChannel d).requestBurst b).raise
          .damagedDelivered
      have failed (c : Cause) (q : Record) (x : SectorRef) :=
        (((h.modEntry x (f := Entry.fillFailed c)).noteFault d c .failed (some q)).ended d r).raise
          .fillFailed
      exact (delivered _ _ _).ite (failed _ _ _)

theorem stampFails (h : o.Tends s) (d : DriveIx) (r : RecIx) (c : Cause) :
    o.Tends (s.stampFails d r c) :=
  ((h.noteFault d _ _ _).ended d r).stampVerdict d none

theorem operationFails (h : o.Tends s) (d : DriveIx) (r : RecIx) (c : Cause) :
    o.Tends (s.operationFails d r c) := by
  unfold State.operationFails
  split
  · exact h
  · split
    · exact h.fillFails d r c
    · exact h.fillFails d r c
    · exact h.stampFails d r c
    · exact h.writeFails d r c
    · exact h

theorem attemptFails (h : o.Tends s) (d : DriveIx) (r : RecIx) (c : Cause) :
    o.Tends (s.attemptFails d r c) :=
  ((h.modRecord r).operationFails d r c).ite ((h.modRecord r).modEngine d)

theorem formatFails (h : o.Tends s) (d : DriveIx) (r : RecIx) (c : FormatCause) :
    o.Tends (s.formatFails d r c) := by
  unfold State.formatFails
  split
  · exact h
  · next q _ =>
    have t := ((h.noteFormat d (some c) q).raise .formatFailed).ended d r
    exact (t.haltFault d).ite t

theorem formatCompletes (h : o.Tends s) (d : DriveIx) (r : RecIx) : o.Tends (s.formatCompletes d r) := by
  unfold State.formatCompletes
  split
  · exact h
  · next q _ =>
    split
    · exact h
    · next p _ =>
      have t (x : Option DiskOut) := ((h.diskOut x).endOperation d).leaveChannel d
      have adopted (x : Option DiskOut) : o.Tends
          (((({ s with diskOut := x } : State).endOperation d).leaveChannel d).adoptFormat d p) :=
        (((t x).modVolume d).pool fun once => once.filterStampWaits _).attach d false
      exact ((((adopted _).ite ((t _).modVolume d)).freeRecord r).raise _).noteFormat d none q

/-! ## The choice and the swap -/

theorem takeChoice (h : o.Tends s) (d : DriveIx) (r : RecIx) : o.Tends (s.takeChoice d r) := by
  unfold State.takeChoice
  split
  · exact h
  · have t : o.Tends ((s.modRecord r fun q => { q with phase := .selected }).modEngine d fun e =>
      { e with state := .select, current := some r, dataHeld := false, idle := 0 }) := (h.modRecord r).modEngine d
    refine (t.writeFails d r _).ite ((t.operationFails d r _).ite ((t.startPositioning d r).ite ?_))
    split
    · next free => exact t.giveBuffer d r (State.not_held_of_bufferFree (List.find?_some free))
    · exact (t.bufWait _).modEngine d

theorem takeBoundId (h : o.Tends s) (d : DriveIx) : o.Tends (s.takeBoundId d) := h

theorem dropBoundId (h : o.Tends s) (d : DriveIx) : o.Tends (s.dropBoundId d) := by
  have t := h.modVolume d (f := fun v => { v with boundId := none })
  exact (((t.attach d false).raise .volumeArrived).ite t).ite h

theorem replaceWindow (h : o.Tends s) (w : WinIx) (next : Option Binding) : o.Tends (s.replaceWindow w next) := by
  have t := (h.forgetWindow w).setWindow w (Window.ofBinding next)
  unfold State.replaceWindow
  dsimp only
  cases next with
  | some b =>
    split
    · exact (t.takeBoundId b.drive).dropBoundId _
    · exact t.takeBoundId b.drive
  | none =>
    split
    · exact t.dropBoundId _
    · exact t

theorem swapWindow (h : o.Tends s) (w : WinIx) : o.Tends (s.swapWindow w) := by
  unfold State.swapWindow
  split
  · exact h.replaceWindow w _
  all_goals exact h

theorem settle (h : o.Tends s) : o.Tends s.settle := by
  refine State.settle_invariant o.Tends (fun t u ht e => ?_) s h
  obtain ⟨w, -, rfl⟩ | ⟨-, d, r, -, rfl⟩ := State.settleOne_cases e
  · exact ht.swapWindow w
  · exact ht.takeChoice d r

theorem perform (h : o.Tends s) {f : State → State} (hf : ∀ t, o.Tends t → o.Tends (f t)) :
    o.Tends (s.perform f) := (hf s h).settle.ite h

/-! ## The judgements of an advance -/

theorem judgeSweep (h : o.Tends s) : o.Tends s.judgeSweep := by
  have entry (t : State) (x : SectorRef) (ht : o.Tends t) : o.Tends (t.sweepEntry x) := by
    unfold State.sweepEntry
    split
    · exact (ht.requestWrite x .normal).ite ht
    · exact ht
  have t (d : Due) : o.Tends { s with
      sweep := { s.sweep with current := s.sweep.next, counter := 1 }
      clock := { s.clock with due := d } } := h
  have swept : o.Tends s.sweepNow := ((t _).raise .sweep).foldl _ entry _
  exact swept.ite h

theorem judgeAges (h : o.Tends s) : o.Tends s.judgeAges := by
  have entry (t : State) (x : SectorRef) (ht : o.Tends t) : o.Tends (t.promoteEntry x) := by
    unfold State.promoteEntry
    split
    · exact ((ht.modEntry x).requestWrite x .urgent).ite ht
    · exact ht
  have promoted {t : State} (ht : o.Tends t) : o.Tends t.promoteAll :=
    (ht.due _).ite ((ht.due _).foldl _ entry _)
  exact (promoted h.judgeSweep).ite h

theorem judgeDeadlines (h : o.Tends s) : o.Tends s.judgeDeadlines := by
  have late (t : State) (k : SlotIx) (ht : o.Tends t) : o.Tends (t.lateSlot k) :=
    (((ht.windows _).setSlot k _).raise _).ite ht
  exact ((h.due _).foldl _ late _).ite h

theorem judgeExpiry (h : o.Tends s) : o.Tends s.judgeExpiry := by
  have t : o.Tends s.expireRecords := h
  exact t.ite h

theorem judgeAll (h : o.Tends s) : o.Tends s.judgeAll :=
  h.judgeSweep.judgeAges.judgeDeadlines.judgeExpiry

theorem judgeLimits (h : o.Tends s) : o.Tends s.judgeLimits := h.judgeAges.settle.judgeExpiry.ite h
end State.Tends

end Sys2Proof.Machine
end

section
/-! SUPPORT. What lines, disk work, cycles, bursts and windows do to the pool, the alert mask and the read tag. -/

namespace Sys2Proof.Machine

open Sys2Proof

namespace State.Tends

variable {o s : State}

/-! ## The ready line -/

theorem driveRisen (h : o.Tends s) (d : DriveIx) : o.Tends (s.driveRisen d) :=
  (((h.modEngine d).modVolume d).requestStamp d).resume d

theorem doorEntry (h : o.Tends s) (x : SectorRef) : o.Tends (s.doorEntry x) := by
  have stranded : o.Tends ((s.modEntry x Entry.strand).leaveBacklog x) := (h.modEntry x).leaveBacklog x
  unfold State.doorEntry
  split
  · exact h
  · split
    · exact h.modEntry x
    · exact (h.modEntry x).ite h
    · exact stranded
    · exact stranded
    · exact stranded
    · exact stranded
    all_goals exact h

theorem doorRecord (h : o.Tends s) (d : DriveIx) (r : RecIx) : o.Tends (State.doorRecord d s r) := by
  unfold State.doorRecord
  split
  · exact h
  · exact (((h.noteFormat d _ _).raise _).releaseRecord r).ite (h.releaseRecord r)

theorem driveFallen (h : o.Tends s) (d : DriveIx) : o.Tends (s.driveFallen d) := by
  unfold State.driveFallen
  extract_lets mine fallen unbuffered idle entries pool waitless ended count
  have hfallen : o.Tends fallen := h.modEngine d
  have hunbuffered : o.Tends unbuffered := hfallen
  have hidle : o.Tends idle := ((hunbuffered.bursts _).withdraw _).leaveChannel d
  have hentries : o.Tends entries := hidle.foldl _ (fun _ x ht => ht.doorEntry x) _
  have hwaitless : o.Tends waitless := hentries.pool fun once => once.filterStampWaits _
  have hended : o.Tends ended := (hwaitless.foldl _ (fun _ r ht => ht.doorRecord d r) _).handBuffers
  exact (hended.modVolume d).raise _

/-! ## Attempts, speed and index pulses -/

theorem searchMissed (h : o.Tends s) (d : DriveIx) : o.Tends (State.searchMissed d s) := by
  have counted (r : RecIx) : o.Tends (s.countMiss d r) := by
    have counted : o.Tends (s.modRecord r fun q =>
      { q with attempts := q.attempts + 1, misses := min 2 (q.misses + 1) }) := h.modRecord r
    unfold State.countMiss
    dsimp only
    split
    · exact h
    · exact (counted.operationFails d r _).ite (((counted.modRecord r).modEngine d).ite (counted.modEngine d))
  unfold State.searchMissed
  split
  · exact h
  · exact (counted _).ite h

theorem verifyMissed (h : o.Tends s) (d : DriveIx) : o.Tends (State.verifyMissed d s) := by
  unfold State.verifyMissed
  split
  · exact h
  · exact (h.attemptFails d _ .verify).ite h

theorem badPeriods (h : o.Tends s) (d : DriveIx) : o.Tends (State.badPeriods d s) :=
  (speedFails (h.modEngine d) d).ite h

theorem unloadHeads (h : o.Tends s) (d : DriveIx) : o.Tends (State.unloadHeads d s) :=
  (h.modEngine d (f := fun e => { e with loaded := false })).ite h

theorem takeDue (h : o.Tends s) (d : DriveIx) : o.Tends (State.takeDue d s) :=
  (((h.badPeriods d).searchMissed d).verifyMissed d).unloadHeads d

theorem pulse (h : o.Tends s) (d : DriveIx) : o.Tends (State.pulse d s) := by
  have formats {t : State} (ht : o.Tends t) : o.Tends (t.formatPulse d) := by
    unfold State.formatPulse
    split
    · exact (ht.formatCompletes d _).ite ((ht.formatFails d _ .protect).ite
        ((ht.modEngine d (f := fun e =>
          { e with gate := true, formatOn := true, formatSlot := e.slotTime })).modVolume d))
    · exact ht
  exact (formats (h.modEngine d)).ite h

/-! ## Seeks and recalibrations -/

theorem endRecal (h : o.Tends s) (d : DriveIx) : o.Tends (s.endRecal d) := by
  have t : o.Tends (s.modEngine d fun e => { e with cyl := some 0, motion := .still }) := h.modEngine d
  unfold State.endRecal
  dsimp only
  split
  · exact t.modEngine d
  · exact t.modEngine d

theorem seekFails (h : o.Tends s) (d : DriveIx) : o.Tends (State.seekFails d s) := by
  have t (q : Option Record) := (h.raise .seekFault).noteFault d .seekFault .driveFault q
  have stopped (q : Option Record) :=
    ((t q).endOperation d).ite (p := (s.engine d).current = none) ((t q).returnRecord d)
  exact (haltFault ((stopped _).modEngine d) d).ite h

theorem endSeek (h : o.Tends s) (d : DriveIx) : o.Tends (s.endSeek d) := by
  have t : o.Tends (s.modEngine d fun e => { e with loaded := true }) := h.modEngine d
  unfold State.endSeek
  dsimp only
  split
  · exact t.ite (t.requestChannel d)
  · exact t.modEngine d
  · exact t

/-! ## Disk work -/

theorem idField (h : o.Tends s) (d : DriveIx) (f : IdField) : o.Tends (State.idField d f s) := by
  have found (r : RecIx) (q : Record) : o.Tends (s.targetFound d r q) := by
    have t : o.Tends (s.modRecord r fun q => { q with misses := 0 }) := h.modRecord r
    have writes := (t.modEngine d (f := fun e => { e with state := .writing, gate := true })).modVolume d
      (f := fun v => { v with changed := true })
    exact (writes.ite (t.writeFails d r .protect)).ite (t.modEngine d)
  have searched (r : RecIx) (q : Record) : o.Tends (s.searchField d r q f) :=
    (h.modEngine d (f := fun e => { e with badId := true })).ite
      (h.ite ((h.operationFails d r .defective).ite (found r q)))
  unfold State.idField
  dsimp only
  split
  · exact h
  · split
    · exact h
    · exact (searched _ _).ite (((h.modEngine d (f := fun e => { e with idFound := true })).ite h).ite h)

theorem markMissing (h : o.Tends s) (d : DriveIx) : o.Tends (State.markMissing d s) := by
  unfold State.markMissing
  dsimp only
  split
  · exact h
  · exact (h.attemptFails d _ .notFound).ite ((h.attemptFails d _ .verify).ite h)

theorem readDone (h : o.Tends s) (d : DriveIx) (r : RecIx) (q : Record) (data : List Byte) :
    o.Tends (s.readDone d r q data) := by
  have t := (h.endOperation d).leaveChannel d
  unfold State.readDone
  dsimp only
  split
  · exact (t.requestBurst _).ite (t.freeRecord r)
  · exact (t.requestBurst _).ite (t.freeRecord r)
  · exact (t.freeRecord r).stampVerdict d _
  · exact h
  · exact h

theorem fieldRead (h : o.Tends s) (d : DriveIx) (data : List Byte) (crc : BitVec 16) :
    o.Tends (State.fieldRead d data crc s) := by
  have taken (q : Record) : o.Tends (s.takeField d q data) := by
    unfold State.takeField
    cases q.buffer with
    | some b => exact (h.setBuffer b data).modEngine d
    | none => exact h.modEngine d
  unfold State.fieldRead
  dsimp only
  split
  · exact h
  · next r _ =>
    split
    · exact h
    · exact (((taken _).readDone d r _ data).ite ((taken _).attemptFails d r .dataCrc)).ite h

theorem writeFaulted (h : o.Tends s) (d : DriveIx) : o.Tends (State.writeFaulted d s) := by
  unfold State.writeFaulted
  dsimp only
  split
  · exact h
  · exact h.ite ((h.writeFails d _ _).ite ((h.formatFails d _ _).ite h))

/-! ## The supply -/

theorem setDip (h : o.Tends s) : o.Tends s.setDip := by
  have t : o.Tends { s with
      engines := s.engines.map fun e => { e with dip := true }, chan := _, bufWait := [] } :=
    ((h.engines _).chan { owner := none, queue := [] }).bufWait []
  exact t.foldl State.dipEngine (fun _ d ht => returnRecord (ht.modEngine d) d) _

/-! ## Cycles -/

theorem noteDefer (h : o.Tends s) (tag : Tag) (x : SectorRef) : o.Tends (s.noteDefer tag x) := by
  unfold State.noteDefer
  split <;> exact h

theorem noteServed (h : o.Tends s) (tag : Tag) (x : SectorRef) : o.Tends (s.noteServed tag x) := by
  unfold State.noteServed
  split <;> exact h

theorem answered (h : o.Tends s) (a : Answer) (x : Option ReadData) : o.Tends (s.answered a x) := h

theorem writeFor (h : o.Tends s) (a : Nat) (c : Access) : o.Tends (s.writeFor a c) := by
  cases c <;> exact h

theorem askFor (h : o.Tends s) (x : SectorRef) (b : Binding) (e : Entry) : o.Tends (s.askFor x b e) := by
  have blank : o.Tends (s.requestBlank x b.drive) := h.ite ((h.modEntry x).joinQueue _).startNext
  unfold State.askFor
  split
  · exact (blank.ite (h.requestFill x e)).ite h
  · exact h.raiseFill x
  · exact h.raiseFill x
  all_goals exact h

theorem noteWrite (h : o.Tends s) (x : SectorRef) (b : Binding) (e : Entry) : o.Tends (s.noteWrite x b e) := by
  unfold State.noteWrite
  split
  · exact ((h.modEntry x).requestWrite x .normal).ite (h.modEntry x)
  all_goals exact h

theorem refuseWrite (h : o.Tends s) (c : UpCycle) (x : SectorRef) : o.Tends (s.refuseWrite c x) := by
  have noted (r : Option RefusalRecord) : o.Tends { s with path := { s.path with lastRefusal := r } } := h
  exact (((noted _).raise _).noteServed c.tag x).answered _ _

theorem expireCycle (h : o.Tends s) (c : UpCycle) (x : SectorRef) (e : Entry) (q : DeferRecord) :
    o.Tends (s.expireCycle c x e q) := h

theorem judge (h : o.Tends s) (c : UpCycle) (x : SectorRef) (b : Binding) (e : Entry) :
    o.Tends (s.judge c x b e) := by
  unfold State.judge
  refine (h.refuseWrite c x).ite ?_
  split
  · exact ((((h.noteWrite x b e).ite h).noteServed c.tag x).answered _ _).writeFor _ _
  · exact (h.noteServed c.tag x).answered _ _
  · split
    · exact h.expireCycle c x e _
    · exact ((h.ite (h.askFor x b e)).noteDefer c.tag x).answered _ _

theorem decodeCycle (h : o.Tends s) (c : UpCycle) : o.Tends (s.decodeCycle c) := by
  have outside := (h.answered .pass (s.readFor c.addr.toNat c.access)).writeFor c.addr.toNat c.access
  unfold State.decodeCycle
  split
  · exact outside
  · split
    · exact h.judge c _ _ _
    · exact outside

/-! ## Burst words -/

theorem beginCopy (h : o.Tends s) (u : Burst) : o.Tends (s.beginCopy u) := by
  unfold State.beginCopy
  refine ite ?_ h
  split <;> exact h

theorem moveWord (h : o.Tends s) (u : Burst) : o.Tends (s.moveWord u) := by
  rw [State.moveWord_eq]
  exact h

theorem endDelivery (h : o.Tends s) (u : Burst) : o.Tends (s.endDelivery u) := by
  unfold State.endDelivery
  split
  · exact h.handBuffers
  · next r _ =>
    split
    · exact h.handBuffers
    · split
      · exact h.freeRecord r
      · next x _ =>
        have delivered := (h.modEntry x (f := Entry.delivered u.damaged)).freeRecord r
        dsimp only
        split
        · exact delivered.readAhead _ _ _
        · exact delivered

theorem endCopyOut (h : o.Tends s) (u : Burst) : o.Tends (s.endCopyOut u) := by
  unfold State.endCopyOut
  split
  · exact h.handBuffers
  · next r _ =>
    have ended {t : State} (ht : o.Tends t) {p : Prop} [Decidable p] : o.Tends
        (if p then (t.modRecord r fun q => { q with copied := true }).requestChannel u.drive
          else t.modRecord r fun q => { q with copied := true }) :=
      ((ht.modRecord r).requestChannel u.drive).ite (ht.modRecord r)
    dsimp only
    cases s.burstOwner u with
    | some x => exact ended (h.modEntry x)
    | none => exact ended h

theorem endBlank (h : o.Tends s) (u : Burst) : o.Tends (s.endBlank u) := by
  unfold State.endBlank
  split
  · exact h
  · next x _ =>
    split
    · exact h
    · next b _ =>
      have t := h.modEntry x (f := Entry.blankEnds (s.attached b.drive) s.clock.coarse)
      exact t.ite ((t.requestWrite x .urgent).ite (t.ite (t.requestWrite x .normal)))

theorem burstTurn (h : o.Tends s) : o.Tends s.burstTurn := by
  unfold State.burstTurn
  split
  · exact h
  · next u _ =>
    have moved := (h.beginCopy (s.firstWord u)).moveWord (s.firstWord u)
    refine (moved.bursts _).ite ?_
    unfold State.endBurst
    split
    · exact moved.endRunning.endDelivery _
    · exact moved.endRunning.endCopyOut _
    · exact moved.endRunning.endBlank _

theorem upCycle (h : o.Tends s) (c : UpCycle) : o.Tends (s.upCycle c) := by
  have paid : o.Tends s.payBurst := h.burstTurn.settle.ite h
  exact (paid.judgeExpiry.decodeCycle c).settle.bursts _

/-! ## Write-backs that complete -/

theorem writeCompletes (h : o.Tends s) (d : DriveIx) (r : RecIx) : o.Tends (s.writeCompletes d r) := by
  unfold State.writeCompletes
  split
  · exact h
  · next q _ =>
    have t : o.Tends (((s.endOperation d).leaveChannel d).noteWritten d q) :=
      ((h.endOperation d).leaveChannel d).modVolume d
    dsimp only
    split
    · exact t.freeRecord r
    · next x _ =>
      split
      · exact t.freeRecord r
      · next e _ =>
        have written := ((t.modEntry x (f := Entry.written)).freeRecord r).marksGone false e.clearedMarks
        exact (written.provide x false).ite written

theorem fieldWritten (h : o.Tends s) (d : DriveIx) : o.Tends (State.fieldWritten d s) := by
  have laid (x : Option DiskOut) :
      o.Tends ({ s with diskOut := x }.modEngine d fun e => { e with gate := false }) := h
  unfold State.fieldWritten
  dsimp only
  split
  · exact h
  · split
    · exact h
    · exact (((laid _).modEngine d).ite ((laid _).writeCompletes d _)).ite h

theorem fieldVerified (h : o.Tends s) (d : DriveIx) (data : List Byte) (crc : BitVec 16) :
    o.Tends (State.fieldVerified d data crc s) := by
  unfold State.fieldVerified
  dsimp only
  split
  · exact h
  · exact ((h.writeCompletes d _).ite (h.attemptFails d _ .verify)).ite h

/-! ## The end of a dip and of a reset -/

theorem supplyReturns (h : o.Tends s) : o.Tends s.supplyReturns := by
  unfold State.supplyReturns
  split
  · exact h
  · have calm : o.Tends { s with
        supplyLow := false
        store := { s.store with dipTimer := none }
        engines := s.engines.map Engine.undip } := h
    exact calm.foldl State.resume (fun _ d ht => ht.resume d) allDrives

theorem supplyFalls (h : o.Tends s) : o.Tends s.supplyFalls := by
  have low : o.Tends { s with supplyLow := true } := h
  refine h.ite (low.perform fun t ht => ?_)
  have timed : o.Tends ({ t with store := { t.store with dipTimer := some 0 } }.raise .supplyDip) := ht
  exact timed.setDip

theorem readyRises (h : o.Tends s) (d : DriveIx) (protect : Bool) : o.Tends (s.readyRises d protect) :=
  h.ite ((h.modEngine d).perform fun _ ht => ht.driveRisen d)

theorem readyFalls (h : o.Tends s) (d : DriveIx) : o.Tends (s.readyFalls d) :=
  (h.modEngine d).perform (f := fun t => if (t.volume d).state = .empty then t else t.driveFallen d)
    fun _ ht => ht.ite (ht.driveFallen d)

theorem resetEnds (h : o.Tends s) : o.Tends s.resetEnds := by
  cases power : s.power with
  | off => rwa [State.resetEnds_off (.inl power)]
  | running => rwa [State.resetEnds_off (.inr power)]
  | inReset powerUp raised =>
    have released : o.Tends (s.released powerUp) := h
    have risen : o.Tends (s.released powerUp).risen :=
      (released.foldl State.riseIfReady (fun _ d ht => (ht.driveRisen d).ite ht) allDrives).settle
    rw [State.resetEnds_inReset power]
    exact ((risen.raise .outageRecorded).ite risen).foldl State.heldCycle (fun _ c ht => ht.upCycle c) _

/-! ## Windows that are staged and given up -/

theorem cancelFills (h : o.Tends s) (w : WinIx) : o.Tends (s.cancelFills w) :=
  (h.foldl _ (fun _ x ht => ht.modEntry x) _).foldl _ (fun _ r ht => ht.freeRecord r) _

theorem drainEntry (h : o.Tends s) (x : SectorRef) : o.Tends (s.drainEntry x) := by
  unfold State.drainEntry
  split
  · exact (h.requestWrite x .urgent).ite h
  · exact h

theorem enterStaged (h : o.Tends s) (w : WinIx) : o.Tends (s.enterStaged w) :=
  (((h.cancelFills w).withdraw _).foldl _ (fun _ x ht => ht.modEntry x) _).foldl _
    (fun _ x ht => ht.drainEntry x) _

theorem stageWindow (h : o.Tends s) (w : WinIx) (next : Option Binding) : o.Tends (s.stageWindow w next) := by
  unfold State.stageWindow
  split
  · exact h
  · exact (h.setWindow w _).enterStaged w
  · exact h.setWindow w _

theorem endForced (h : o.Tends s) (r : RecIx) : o.Tends (s.endForced r) := by
  unfold State.endForced
  split
  · exact h
  · exact (((h.bufWait _).endOperation _).releaseRecord r).ite (h.releaseRecord r)

theorem failMarks (h : o.Tends s) (w : WinIx) : o.Tends (s.failMarks w) :=
  h.foldl _ (fun _ e ht => (ht.marksGone true e.marks).ite ht) _

theorem dropBursts (h : o.Tends s) (w : WinIx) (ending : List RecIx) : o.Tends (s.dropBursts w ending) :=
  ((h.bursts _).withdraw _).foldl _ (fun _ r ht => ht.stopCopyOut r) _

theorem noteDiscard (h : o.Tends s) (w : WinIx) (count : Nat) (b : Option Binding) :
    o.Tends (s.noteDiscard w count b) := by
  unfold State.noteDiscard
  split
  · have noted (x : Option DiscardRecord) : o.Tends { s with lastDiscard := x } := h
    exact h.ite ((noted _).raise .discarded)
  · exact h

theorem giveUpWindow (h : o.Tends s) (w : WinIx) (next : Option Binding) : o.Tends (s.giveUpWindow w next) :=
  ((((((h.failMarks w).dropBursts w _).foldl _ (fun _ r ht => ht.modRecord r) _).replaceWindow w next).foldl _
    (fun _ r ht => ht.endForced r) _).handBuffers).noteDiscard w _ _

end State.Tends

end Sys2Proof.Machine
end

section
/-! SUPPORT. What the link commands, time and every step do to the pool; O58. -/

namespace Sys2Proof.Machine

open Sys2Proof

namespace State.Tends

variable {o s : State}

/-! ## The link commands -/

theorem takeCommand (h : o.Tends s) (c : Byte) (params : List Byte) : o.Tends (s.takeCommand c params) := h

theorem respond (h : o.Tends s) (r : Result) (data : List Byte) : o.Tends (s.respond r data) := h

theorem reply (h : o.Tends s) (refusal : Result) (x : Option (List Byte)) : o.Tends (s.reply refusal x) := by
  cases x <;> exact h

theorem linkBind (h : o.Tends s) (window : Byte) (record : BindRecord) :
    o.Tends (State.linkBind window record s) := by
  unfold State.linkBind
  dsimp only
  split <;> exact h

theorem linkStage (h : o.Tends s) (window : Byte) (record : BindRecord) :
    o.Tends (State.linkStage window record s) := by
  unfold State.linkStage
  dsimp only
  split
  · exact h
  · exact ((h.takeCommand 0x11 _).stageWindow _ _).respond _ _

theorem linkForce (h : o.Tends s) (window : Byte) : o.Tends (State.linkForce window s) := by
  unfold State.linkForce
  dsimp only
  split
  · exact h
  · split
    · exact h
    · exact h
    · exact ((h.takeCommand 0x12 _).giveUpWindow _ _).respond _ _

theorem linkRelease (h : o.Tends s) (window : Byte) : o.Tends (State.linkRelease window s) := by
  have staged (w : WinIx) := (h.takeCommand 0x13 [window, 0]).stageWindow w none
  unfold State.linkRelease
  dsimp only
  split
  · exact h
  · split
    · exact h
    · exact (staged _).respond _ _
    · exact (staged _).respond _ _

theorem linkReleaseDiscard (h : o.Tends s) (window : Byte) : o.Tends (State.linkReleaseDiscard window s) := by
  have given (w : WinIx) := (h.takeCommand 0x13 [window, 1]).giveUpWindow w none
  unfold State.linkReleaseDiscard
  dsimp only
  split
  · exact h
  · split
    · exact h
    · exact (given _).respond _ _
    · exact (given _).respond _ _

theorem secureEntry (h : o.Tends s) (k : SlotIx) (x : SectorRef) : o.Tends (State.secureEntry k s x) := by
  unfold State.secureEntry
  split
  · exact h
  · exact (((h.modEntry x).requestWrite x .urgent).setSlot k _).ite ((h.setSlot k _).ite h)

theorem linkSecure (h : o.Tends s) (target : BitVec 16) (stampLast : Bool) (deadline : BitVec 16) :
    o.Tends (State.linkSecure target stampLast deadline s) := by
  have opened {t : State} (ht : o.Tends t) (k : SlotIx) : o.Tends (t.openSlot k target stampLast deadline) :=
    ((ht.setSlot k _).foldl _ (fun _ x hu => hu.secureEntry k x) _).endSlot k
  unfold State.linkSecure
  dsimp only
  split
  · exact h
  · exact (opened (h.takeCommand 0x20 _) _).respond _ _

theorem linkSecureStatus (h : o.Tends s) (slot : Byte) : o.Tends (State.linkSecureStatus slot s) := by
  unfold State.linkSecureStatus
  dsimp only
  split
  · exact h
  · split <;> exact h

theorem linkHold (h : o.Tends s) (drive : Byte) : o.Tends (State.linkHold drive s) := by
  unfold State.linkHold
  dsimp only
  split
  · exact h
  · next d _ => exact (stopForHold ((h.takeCommand 0x30 [drive]).modEngine d) d).respond _ _

theorem linkRun (h : o.Tends s) (drive : Byte) : o.Tends (State.linkRun drive s) := by
  unfold State.linkRun
  dsimp only
  split
  · exact h
  · next d _ => exact (resume ((h.takeCommand 0x31 [drive]).modEngine d) d).respond _ _

theorem linkAdopt (h : o.Tends s) (drive : Byte) : o.Tends (State.linkAdopt drive s) := by
  unfold State.linkAdopt
  dsimp only
  split
  · exact h
  · next d _ =>
    exact (((attach ((h.takeCommand 0x32 [drive]).modVolume d) d true).raise .volumeArrived).respond _ _).ite h

theorem retryEntry (h : o.Tends s) (d : DriveIx) (x : SectorRef) : o.Tends (State.retryEntry d s x) := by
  have t := h.modEntry x (f := Entry.retryWrite (s.attached d))
  unfold State.retryEntry
  split
  · exact h
  · split
    · exact (t.provide x true).ite t
    · exact h.modEntry x
    all_goals exact h

theorem linkRetry (h : o.Tends s) (drive : Byte) : o.Tends (State.linkRetry drive s) := by
  unfold State.linkRetry
  dsimp only
  split
  · exact h
  · next d _ =>
    have entries (l : List SectorRef) :=
      (h.takeCommand 0x33 [drive]).foldl (State.retryEntry d) (fun _ x ht => ht.retryEntry d x) l
    exact (resume ((entries _).modEngine d) d).respond _ _

theorem linkFormat (h : o.Tends s) (p : FormatParams) : o.Tends (State.linkFormat p s) := by
  unfold State.linkFormat
  dsimp only
  split
  · exact h
  · split
    · next u made => exact ((h.takeCommand 0x34 _).makeOrEvict made).respond _ _
    · exact h

theorem linkSetDrive (h : o.Tends s) (drive stepMs retries : Byte) (halt : Bool) :
    o.Tends (State.linkSetDrive drive stepMs retries halt s) := by
  unfold State.linkSetDrive
  dsimp only
  split <;> exact h

theorem linkSetLimits (h : o.Tends s) (deferLimit ageLimit : BitVec 16) (blank : Byte) :
    o.Tends (State.linkSetLimits deferLimit ageLimit blank s) := h.judgeLimits

theorem linkClearEvents (h : o.Tends s) (tag : Byte) (mask : BitVec 24) :
    o.Tends (State.linkClearEvents tag mask s) := by
  unfold State.linkClearEvents
  dsimp only
  split <;> exact h

end State.Tends

/-! ## Every step -/

/-- No two records hold the same buffer, no entry is twice on the Backlog List, and no drive twice among the
stamp waits (R70, R72, R108). -/
def State.HandsOnce (s : State) : Prop := s.pool.HandedOnce

theorem Pool.handedOnce_reset : Pool.reset.HandedOnce := by
  refine ⟨fun i j b held => ?_, .nil, .nil⟩
  have free : Pool.reset.held i = none := by simp [Pool.held, Pool.reset]
  exact nomatch free.symm.trans held

namespace State.HandsOnce

variable {s : State}

/-- The part tends its own tables. -/
theorem tend (h : s.HandsOnce) {t : State} (k : s.Tends t) : t.HandsOnce := k.handedOnce h

theorem ite {p : Prop} [Decidable p] {t : State} (hs : s.HandsOnce) (ht : t.HandsOnce) :
    (if p then s else t).HandsOnce := by
  split
  · exact hs
  · exact ht

theorem settle (h : s.HandsOnce) : s.settle.HandsOnce := h.tend (State.Tends.refl s).settle

theorem whileRunning (h : s.HandsOnce) {f : State → State} (hf : (f s).HandsOnce) :
    (s.whileRunning f).HandsOnce := hf.ite h

theorem perform (h : s.HandsOnce) {f : State → State} (hf : (f s).HandsOnce) : (s.perform f).HandsOnce :=
  hf.settle.ite h

/-- Work on the part's own tables, with the swaps and choices that follow it. -/
theorem work (h : s.HandsOnce) {f : State → State} (hf : s.Tends (f s)) : (s.perform f).HandsOnce :=
  h.perform (h.tend hf)

/-! ## Time -/

theorem warmReset (s : State) (c : WarmCause) : (s.warmReset c).HandsOnce := Pool.handedOnce_reset

theorem passTicks (h : s.HandsOnce) (n : Nat) : (s.passTicks n).HandsOnce := by
  unfold State.HandsOnce
  rwa [State.passTicks_pool]

theorem indexGone (h : s.HandsOnce) (d : DriveIx) : (s.indexGone d).HandsOnce :=
  h.tend (State.Tends.speedFails ((State.Tends.refl s).modEngine d) d).settle

theorem judgePast (h : s.HandsOnce) : s.judgePast.HandsOnce :=
  (h.tend (State.Tends.refl s).judgeAll.settle).ite h

theorem coarseMoment (h : s.HandsOnce) : s.coarseMoment.HandsOnce := by
  obtain ⟨-, e⟩ | ⟨-, e⟩ | ⟨-, e⟩ := s.coarseMoment_cases <;> rw [e]
  · exact h
  · exact h
  · obtain ⟨-, e⟩ | ⟨-, -, e⟩ | ⟨-, -, e⟩ := s.countCoarse.sweepTick_cases <;> rw [e] <;> exact h

theorem passTime (h : s.HandsOnce) (n : Nat) : (s.passTime n).HandsOnce :=
  State.passTime_invariant State.HandsOnce (fun _ n ht => ht.passTicks n) (fun _ d ht => ht.indexGone d)
    (fun _ ht => ht.judgePast) (fun _ ht => ht.coarseMoment) (fun t _ => warmReset t _) n s h

theorem coarseAdvance (h : s.HandsOnce) : s.coarseAdvance.HandsOnce :=
  State.coarseAdvance_invariant State.HandsOnce (fun _ n ht => ht.passTicks n) (fun _ d ht => ht.indexGone d)
    (fun _ ht => ht.judgePast) (fun _ ht => ht.coarseMoment) (fun t _ => warmReset t _) s h

theorem afterWait (h : s.HandsOnce) (d : DriveIx) (awaits : Engine → Bool) {event : State → State}
    (he : ∀ t : State, t.Tends (event t)) : (s.afterWait d awaits event).HandsOnce := by
  obtain ⟨-, e⟩ | ⟨-, -, e⟩ | ⟨-, -, e⟩ := s.afterWait_cases d awaits event <;> rw [e]
  · exact h
  · exact h.passTime _
  · exact (h.passTime _).tend (he _)

theorem stepPulse (h : s.HandsOnce) (d : DriveIx) (track0 : Bool) : (State.stepPulse d track0 s).HandsOnce :=
  h.afterWait d _ fun t => (State.Tends.refl t).modEngine d

theorem recalibrated (h : s.HandsOnce) (d : DriveIx) : (State.recalibrated d s).HandsOnce :=
  h.afterWait d _ fun t => (State.Tends.refl t).endRecal d

theorem positioned (h : s.HandsOnce) (d : DriveIx) : (State.positioned d s).HandsOnce :=
  h.afterWait d _ fun t => (State.Tends.refl t).endSeek d

theorem indexLost (h : s.HandsOnce) (d : DriveIx) : (State.indexLost d s).HandsOnce := by
  unfold State.indexLost
  split
  · exact h
  · exact h.passTime _

theorem indexPulse (h : s.HandsOnce) (d : DriveIx) (elapsed : Nat) : (State.indexPulse d elapsed s).HandsOnce :=
  ((h.work ((State.Tends.refl s).takeDue d)).passTime elapsed).work ((State.Tends.refl _).pulse d)

theorem dipRunsOut (h : s.HandsOnce) : s.dipRunsOut.HandsOnce := by
  unfold State.dipRunsOut
  split
  · exact h
  · exact warmReset _ _

theorem resetLineActs (h : s.HandsOnce) : s.resetLineActs.HandsOnce := by
  unfold State.resetLineActs
  split
  · exact h
  · exact h
  · exact warmReset s .resetLine

theorem driveDue (h : s.HandsOnce) (d : DriveIx) : (s.driveDue d).HandsOnce := by
  have due := h.tend ((State.Tends.refl s).takeDue d)
  unfold State.driveDue State.engineDue
  dsimp only
  exact due.ite ((due.stepPulse d _).ite
    (((due.tend ((State.Tends.refl _).seekFails d)).recalibrated d).positioned d))

theorem idle (h : s.HandsOnce) : s.idle.HandsOnce := by
  unfold State.idle
  split
  · exact h
  · exact (h.passTime 1).ite (h.tend (State.Tends.refl s).resetEnds)
  · have judged := h.tend (State.Tends.refl s).judgeAll.settle
    exact judged.dipRunsOut.ite
      ((foldl_invariant State.HandsOnce _ (fun _ d ht => ht.driveDue d) _ _ judged).settle.passTime 1)

/-! ## Every command -/

theorem linkDo (h : s.HandsOnce) (c : Instr) : (s.linkDo c).HandsOnce := by
  have t := State.Tends.refl s
  cases c with
  | status part => exact h.tend ((t.takeCommand 0x01 _).reply _ _)
  | windowStates window part => exact h.tend ((t.takeCommand 0x14 _).reply _ _)
  | readDrive drive part => exact h.tend ((t.takeCommand 0x35 _).reply _ _)
  | readOutage start => exact h.tend ((t.takeCommand 0x60 _).reply _ _)
  | bind window record => exact h.tend (t.linkBind window record)
  | stage window record => exact h.tend (t.linkStage window record)
  | force window => exact h.tend (t.linkForce window)
  | release window => exact h.tend (t.linkRelease window)
  | releaseDiscard window => exact h.tend (t.linkReleaseDiscard window)
  | secure target stampLast deadline => exact h.tend (t.linkSecure target stampLast deadline)
  | secureStatus slot => exact h.tend (t.linkSecureStatus slot)
  | hold drive => exact h.tend (t.linkHold drive)
  | run drive => exact h.tend (t.linkRun drive)
  | adopt drive => exact h.tend (t.linkAdopt drive)
  | retry drive => exact h.tend (t.linkRetry drive)
  | format params => exact h.tend (t.linkFormat params)
  | setDrive drive stepMs retries halt => exact h.tend (t.linkSetDrive drive stepMs retries halt)
  | setLimits deferLimit ageLimit blank => exact h.tend (t.linkSetLimits deferLimit ageLimit blank)
  | clearEvents tag mask => exact h.tend (t.linkClearEvents tag mask)
  | reset => exact warmReset _ _
  | _ => exact h

theorem linkMessage (h : s.HandsOnce) (address : Byte) (bytes : List Byte) :
    (State.linkMessage address bytes s).HandsOnce := by
  have taken : (s.takeMessage bytes).HandsOnce := by
    unfold State.takeMessage
    dsimp only
    split
    · exact h.linkDo _
    · exact h
  exact (taken.perform (f := id) taken).ite h

theorem exec {c : Instr} {t : State} (h : s.HandsOnce) (e : Machine.exec c s = .next t) : t.HandsOnce := by
  have next {u : State} (hu : u.HandsOnce) (same : Machine.exec c s = .next u) : t.HandsOnce :=
    Host.Outcome.next.inj (same.symm.trans e) ▸ hu
  have done (same : Machine.exec c s = .next (s.perform fun u => u.linkDo c)) : t.HandsOnce :=
    next (h.perform (h.linkDo c)) same
  have told (same : Machine.exec c s = .next (s.whileRunning fun u => u.linkDo c)) : t.HandsOnce :=
    next (h.whileRunning (h.linkDo c)) same
  have k := State.Tends.refl s
  cases c with
  | upstreamCycle cycle =>
    refine next ?_ rfl
    split
    · exact h
    · exact h
    · exact h.tend (k.upCycle cycle)
  | burstWord => exact next (h.work k.burstTurn) rfl
  | coarseClockAdvance => exact next h.coarseAdvance rfl
  | deferredRecordExpiry => exact next (h.whileRunning (h.tend k.judgeExpiry)) rfl
  | sweep => exact next (h.work k.judgeSweep) rfl
  | agePromotion => exact next (h.work k.judgeAges) rfl
  | secureDeadline => exact next (h.work k.judgeDeadlines) rfl
  | linkWriteMessage address bytes => exact next (h.whileRunning (h.linkMessage address bytes)) rfl
  | bind | stage | force | release | releaseDiscard | secure | hold | run | adopt | retry | format =>
    exact done rfl
  | status | windowStates | secureStatus | readDrive | setDrive | setSweep | setLimits | readEvents
  | clearEvents | setAlertMask | readOutage | clearOutage | reset => exact told rfl
  | swap window => exact next (h.work (f := State.swapIfQuiet window) ((k.swapWindow window).ite k)) rfl
  | readyLineRise drive protect => exact next (h.tend (k.readyRises drive protect)) rfl
  | readyLineFall drive => exact next (h.tend (k.readyFalls drive)) rfl
  | indexPulse drive elapsed => exact next (h.indexPulse drive elapsed) rfl
  | speedFault drive => exact next (h.work (k.badPeriods drive)) rfl
  | indexLost drive => exact next (h.perform (h.indexLost drive)) rfl
  | headUnload drive => exact next (h.whileRunning (h.tend (k.unloadHeads drive))) rfl
  | stepPulse drive track0 => exact next (h.whileRunning (h.stepPulse drive track0)) rfl
  | recalibrationEnd drive => exact next (h.perform (h.recalibrated drive)) rfl
  | seekFault drive => exact next (h.work (k.seekFails drive)) rfl
  | positioningEnd drive => exact next (h.perform (h.positioned drive)) rfl
  | idFieldRead drive field =>
    exact next ((h.work (k.takeDue drive)).work ((State.Tends.refl _).idField drive field)) rfl
  | miss drive => exact next (h.work (k.searchMissed drive)) rfl
  | dataMarkNotFound drive => exact next (h.work (k.markMissing drive)) rfl
  | dataFieldRead drive data crc => exact next (h.work (k.fieldRead drive _ crc)) rfl
  | dataFieldWritten drive => exact next (h.work (k.fieldWritten drive)) rfl
  | writeFault drive => exact next (h.work (k.writeFaulted drive)) rfl
  | verifyRead drive data crc => exact next (h.work (k.fieldVerified drive _ crc)) rfl
  | verifyMiss drive => exact next (h.work (k.verifyMissed drive)) rfl
  | supplyDip => exact next (h.tend k.supplyFalls) rfl
  | shortDip => exact next (h.work k.supplyReturns) rfl
  | longDip => exact next (h.whileRunning h.dipRunsOut) rfl
  | resetLine => exact next h.resetLineActs rfl
  | resetEnd => exact next (h.tend k.resetEnds) rfl
  | powerUp standbyKept => exact next (u := s.powersUp standbyKept) Pool.handedOnce_reset rfl
  | mainSupplyFailure cut => exact next (u := s.supplyFails cut) Pool.handedOnce_reset rfl

theorem step {t : State} (h : s.HandsOnce) (e : Machine.step s = .next t) : t.HandsOnce := by
  unfold Machine.step at e
  split at e
  · cases e
    exact h.idle
  · next c rest _ => exact State.HandsOnce.exec (s := { s with pending := rest }) h e

end State.HandsOnce

/-- Settles O58: the part's own work hands nothing out twice, whatever step it belongs to; a buffer is lent
only while no record holds it, and an entry or a drive joins its list only while it is not there. -/
theorem poolHandsOutOnce : Obligations.PoolHandsOutOnce := by
  refine ⟨State.reset.handedOnce_iff.mpr Pool.handedOnce_reset, fun s t once e => ?_⟩
  have h : s.HandsOnce := s.handedOnce_iff.mp once
  exact t.handedOnce_iff.mpr (h.step e)

end Sys2Proof.Machine
end

section
/-! SUPPORT. The bounds of the cost's terms (R77 to R79), and O60. -/

namespace Sys2Proof.Machine

open Sys2Proof

/-- The longest seek crosses the whole disk at 15 ms a step, settles, and loads the heads (R78, R81). -/
theorem Engine.seekTime_le {e : Engine} {c target : Nat} (step : e.stepMs ≤ 15) (known : e.cyl = some c)
    (hc : c ≤ 76) (ht : target ≤ 76) : e.seekTime target ≤ 119000 := by
  have steps : ((c - target) + (target - c)) * e.stepTime ≤ 76 * 1500 :=
    Nat.mul_le_mul (by omega) (Nat.mul_le_mul_right 100 step)
  unfold Engine.seekTime
  rw [known]
  dsimp only
  split_ifs <;> omega

/-- The head waits less than one turn for its slot (R79). -/
theorem rotationWait_le (target arrival : Nat) : rotationWait target arrival ≤ 15 :=
  Nat.le_of_lt_succ (Nat.mod_lt _ (by decide))

theorem Engine.slotTime_le {e : Engine} (period : e.period ≤ 18400) : e.slotTime ≤ 1150 :=
  Nat.div_le_of_le_mul period

/-- Settles O60: the longest seek and fifteen of the longest slots make 136,250 ticks. -/
theorem costIsBounded : Obligations.CostIsBounded := by
  intro e v now q c range known hc hq
  obtain ⟨⟨⟨low, high⟩, ⟨-, step⟩, -⟩, -⟩ := e.inRange_iff.mp range
  have seek : e.seekTime q.cylinder ≤ 119000 := Engine.seekTime_le step known hc hq
  have wait : rotationWait (q.targetSlot v) (e.arrivalSlot now q.cylinder) * e.slotTime ≤ 15 * 1150 :=
    Nat.mul_le_mul (rotationWait_le _ _) (Engine.slotTime_le high)
  refine ⟨low, high, ?_⟩
  unfold Engine.cost
  split
  · omega
  · omega

end Sys2Proof.Machine
end

section
/-! SUPPORT. The request of a stamp read (R68, R70) and the rise of a ready line (R85, R133): O37. -/

namespace Sys2Proof.Machine

open Sys2Proof

/-! ## The request of a stamp read -/

section StampRead

variable {s : State} {d : DriveIx} {r : RecIx}

theorem State.requestStamp_free (free : s.freeRecord? = some r) :
    s.requestStamp d = s.makeRecord r (s.stampRecord d) := by
  rw [State.requestStamp, State.makeOrEvict, free]

theorem State.requestStamp_evicts (full : s.freeRecord? = none) (evicts : s.evictable? = some r) :
    s.requestStamp d = (s.evict r).makeRecord r (s.stampRecord d) := by
  rw [State.requestStamp, State.makeOrEvict, full, evicts]

theorem State.requestStamp_waits (full : s.freeRecord? = none) (none : s.evictable? = none) :
    d ∈ (s.requestStamp d).pool.stampWaits := by
  rw [State.requestStamp, State.makeOrEvict, full, none]
  dsimp only
  split
  · assumption
  · exact List.mem_append_right _ (List.mem_singleton_self d)

/-- The stamp read's record, wherever one can be had (R68, R70). -/
theorem State.record_requestStamp
    (had : s.freeRecord? = some r ∨ (s.freeRecord? = none ∧ s.evictable? = some r)) :
    (s.requestStamp d).record? r = some (s.stampRecord d) := by
  obtain free | ⟨full, evicts⟩ := had
  · rw [State.requestStamp_free free, State.record_makeRecord, if_pos rfl]
  · rw [State.requestStamp_evicts full evicts, State.record_makeRecord, if_pos rfl]

/-- The entry whose prefetch gives its record up returns to ABSENT (R68). -/
theorem State.entry_requestStamp_evicted {q : Record} {y : SectorRef} {f : Entry}
    (full : s.freeRecord? = none) (evicts : s.evictable? = some r) (record : s.record? r = some q)
    (owner : q.owner = some y) (entry : s.entry? y = some f) (queued : f.state = .queued) :
    (s.requestStamp d).entry? y = some (Entry.new f.addr) := by
  have cancelled : f.fillCancelled = Entry.new f.addr := if_pos (.inl queued)
  rw [State.requestStamp_evicts full evicts, State.entry_congr (State.makeRecord_windows _ r _),
    State.entry_evict, record, Option.bind_some, if_pos owner, entry, Option.map_some, cancelled]

end StampRead

/-! ## The rise -/

/-- The engine of a drive whose ready line has risen, before its hold set is judged (R85; log 13). -/
def Engine.risen (protect : Bool) (e : Engine) : Engine := { e with ready := true, protect := protect }.rise

/-- The drive and its volume at the rise of the ready line, before the stamp read is requested (R85, R133). -/
def State.inserted (s : State) (d : DriveIx) (protect : Bool) : State :=
  ((s.setReady d true protect).modEngine d Engine.rise).modVolume d Volume.rise

theorem State.engine_inserted (s : State) (d : DriveIx) (protect : Bool) :
    (s.inserted d protect).engine d = (s.engine d).risen protect := by
  refine (State.engine_modEngine_self (s.setReady d true protect) d _).trans (congrArg Engine.rise ?_)
  exact State.engine_modEngine_self s d _

theorem State.engine_inserted_other (s : State) {d d' : DriveIx} (protect : Bool) (other : d' ≠ d) :
    (s.inserted d protect).engine d' = s.engine d' :=
  (State.engine_setEngine_other (s.setReady d true protect) _ other).trans
    (State.engine_setEngine_other s _ other)

/-- An engine that has stopped, its cylinder unknown, recalibrates unless a hold stands (R84). -/
theorem State.engine_resume_lost {s : State} {d : DriveIx} (held : (s.engine d).state = .held)
    (lost : (s.engine d).cyl = none) : (s.resume d).engine d =
      if (s.engine d).unheld then { (s.engine d).beginRecal with state := .recalibrating } else s.engine d := by
  unfold State.resume
  simp only [held, lost, decide_true, Bool.true_or, Bool.and_true, if_true]
  split
  · exact State.engine_modEngine_self s d _
  · rfl

theorem Engine.unheld_risen (e : Engine) (protect : Bool) :
    (e.risen protect).unheld = true ↔ ¬(e.link ∨ e.fault ∨ e.dip) := by
  simp [Engine.risen, Engine.rise, Engine.unheld, and_assoc]

theorem exec_readyLineRise_low {s : State} {d : DriveIx} (protect : Bool) (low : (s.engine d).ready = false) :
    exec (.readyLineRise d protect) s =
      .next ((s.setReady d true protect).perform fun t => t.driveRisen d) :=
  congrArg Host.Outcome.next (if_neg (by rw [low]; exact Bool.false_ne_true))

theorem exec_readyLineRise_running {s : State} {d : DriveIx} (protect : Bool)
    (low : (s.engine d).ready = false) (running : s.power = .running) :
    exec (.readyLineRise d protect) s =
      .next (((s.inserted d protect).requestStamp d).resume d).settle :=
  (exec_readyLineRise_low protect low).trans (congrArg Host.Outcome.next (if_pos running))

/-! ## What the rise leaves -/

/-- The engine after the rise: it recalibrates, or it is HELD while another hold stands (R84 to R86). -/
theorem State.engine_rise (s : State) (d : DriveIx) (protect : Bool) :
    (((s.inserted d protect).requestStamp d).resume d).engine d =
      if (s.engine d).link ∨ (s.engine d).fault ∨ (s.engine d).dip then (s.engine d).risen protect
      else { ((s.engine d).risen protect).beginRecal with state := .recalibrating } := by
  obtain ⟨-, engines, -⟩ := (s.inserted d protect).requestStamp_frame d
  have current : ((s.inserted d protect).requestStamp d).engine d = (s.engine d).risen protect :=
    (State.engine_congr engines d).trans (s.engine_inserted d protect)
  rw [State.engine_resume_lost (congrArg Engine.state current) (congrArg Engine.cyl current), current]
  by_cases held : (s.engine d).link ∨ (s.engine d).fault ∨ (s.engine d).dip
  · rw [if_pos held, if_neg (mt ((s.engine d).unheld_risen protect).mp (not_not_intro held))]
  · rw [if_neg held, if_pos (((s.engine d).unheld_risen protect).mpr held)]

/-- No other drive's engine takes part in the rise. -/
theorem State.engine_rise_other (s : State) {d d' : DriveIx} (protect : Bool) (other : d' ≠ d) :
    (((s.inserted d protect).requestStamp d).resume d).engine d' = s.engine d' := by
  obtain ⟨-, engines, -⟩ := (s.inserted d protect).requestStamp_frame d
  obtain ⟨-, -, others⟩ := ((s.inserted d protect).requestStamp d).engine_resume d
  exact (others d' other).trans ((State.engine_congr engines d').trans (s.engine_inserted_other protect other))

/-- Settles O37: the engine and the volume change, the stamp read is requested, and the hold set is judged. -/
theorem readyRiseStartsStampRead : Obligations.ReadyRiseStartsStampRead := by
  refine fun d protect s => ⟨fun high => congrArg Host.Outcome.next (if_pos high),
    fun low held => (exec_readyLineRise_low protect low).trans (congrArg Host.Outcome.next (if_neg held)),
    fun low running => ⟨_, exec_readyLineRise_running protect low running, ?_⟩⟩
  have engine := s.engine_rise d protect
  have others (d' : DriveIx) := s.engine_rise_other (d := d) (d' := d') protect
  obtain ⟨steady, -, volumes, events, -⟩ := (s.inserted d protect).requestStamp_frame d
  obtain ⟨es, resumed⟩ := ((s.inserted d protect).requestStamp d).resume_frame d
  have made {r : RecIx} := State.record_requestStamp (s := s.inserted d protect) (d := d) (r := r)
  have evicted {r : RecIx} {q : Record} {y : SectorRef} {f : Entry} :=
    State.entry_requestStamp_evicted (s := s.inserted d protect) (d := d) (r := r) (q := q) (y := y) (f := f)
  have waits := State.requestStamp_waits (s := s.inserted d protect) (d := d)
  generalize (s.inserted d protect).requestStamp d = t at *
  rw [resumed] at engine others ⊢
  refine ⟨congrArg Steady.memory steady, events, volumes, others, ?_⟩
  rw [engine]
  split
  all_goals
    exact ⟨rfl, rfl, rfl, rfl, rfl, rfl, rfl, rfl, rfl, rfl, rfl, rfl, rfl,
      fun r had => ⟨_, made had, rfl, rfl, rfl, rfl, rfl, rfl, rfl, rfl⟩,
      fun _ _ _ _ full evicts record owner entry queued => evicted full evicts record owner entry queued, waits⟩

end Sys2Proof.Machine
end

section
/-! SUPPORT. What swaps and choices leave of the windows and the events (R31, R76). -/

namespace Sys2Proof.Machine

open Sys2Proof

/-! ## Windows that stay bound -/

/-- Window `w` is BOUND to `b`, with `n` sector entries. -/
def BoundIn (ws : Vector Window 16) (w : WinIx) (b : Binding) (n : Nat) : Prop :=
  ∃ es, ws[w] = .bound b es ∧ es.length = n

namespace BoundIn

variable {ws vs : Vector Window 16} {w : WinIx} {b : Binding} {n : Nat}

/-- A BOUND window stays bound while the part works by itself: only STAGED windows are swapped (R31). -/
theorem step (h : BoundIn ws w b n) (step : WindowsStep ws vs) : BoundIn vs w b n := by
  obtain ⟨es, bound, length⟩ := h
  unfold BoundIn
  cases step with
  | entry v i keeps =>
    rw [windows_set]
    split
    · next same =>
      subst same
      rw [bound]
      exact ⟨_, rfl, (List.length_modify ..).trans length⟩
    · exact ⟨es, bound, length⟩
  | unmark k =>
    have get : (ws.map (Window.mapEntries (Entry.unmark k)))[w] = ws[w].mapEntries (Entry.unmark k) :=
      Vector.getElem_map ..
    rw [get, bound]
    exact ⟨_, rfl, (List.length_map _).trans length⟩
  | @swap v _ _ _ staged _ =>
    rw [windows_set, if_neg]
    · exact ⟨es, bound, length⟩
    · rintro rfl
      exact nomatch bound.symm.trans staged

theorem steps (h : BoundIn ws w b n) (steps : Relation.ReflTransGen WindowsStep ws vs) : BoundIn vs w b n := by
  induction steps with
  | refl => exact h
  | tail _ one ih => exact ih.step one

end BoundIn

/-! ## The whole of what follows -/

/-- Event flags that are all kept are a part of the flags that follow. -/
theorem State.FlagsKept.and_eq {s t : State} (kept : s.FlagsKept t) :
    t.events.flags &&& s.events.flags = s.events.flags := by
  refine BitVec.eq_of_getLsbD_eq fun n _ => ?_
  rw [BitVec.getLsbD_and]
  cases was : s.events.flags.getLsbD n with
  | false => exact Bool.and_false _
  | true => rw [kept n was, Bool.and_true]

theorem State.settle_bound {s : State} {w : WinIx} {b : Binding} {es : List Entry}
    (bound : s.window w = .bound b es) : ∃ es', s.settle.window w = .bound b es' ∧ es'.length = es.length :=
  BoundIn.steps ⟨es, bound, rfl⟩ (State.Drifts.refl s).settle.windows

theorem State.settle_dirty {s : State} {x : SectorRef} {e : Entry} (entry : s.entry? x = some e)
    (dirty : e.state.isDirty = true) :
    ∃ e', s.settle.entry? x = some e' ∧ e'.state.isDirty = true ∧ e'.addr = e.addr :=
  State.Holds.settle (s := s) ⟨e, entry, dirty, rfl⟩

/-- On a settled state nothing follows. -/
theorem State.settle_of_settled {s : State} (settled : s.settled = true) : s.settle = s := by
  simp only [State.settled, Bool.and_eq_true, Option.isNone_iff_eq_none] at settled
  obtain ⟨noSwap, noChoice⟩ := settled
  have still : s.settleOne = none := by rw [State.settleOne, noSwap, noChoice]
  rw [State.settle, State.settleFor, still]

end Sys2Proof.Machine
end

section
/-! SUPPORT. The record that an engine chooses, and the engine that chooses next (R75, R76, R80). -/

namespace Sys2Proof.Machine

open Sys2Proof

/-! ## The order of the candidates (R80) -/

/-- The model's comparison of two keys of one length is the dictionary order. -/
theorem keyLess_iff {a b : List Nat} (length : a.length = b.length) : keyLess a b = true ↔ a < b := by
  induction a generalizing b with
  | nil =>
    cases b with
    | nil => simp [keyLess]
    | cons _ _ => cases length
  | cons x xs ih =>
    cases b with
    | nil => cases length
    | cons y ys =>
      rw [keyLess, Bool.or_eq_true, Bool.and_eq_true, decide_eq_true_eq, decide_eq_true_eq,
        ih (Nat.succ.inj length), List.cons_lt_cons_iff]

/-- Record `r` may be selected for drive `d`, and its key is `k` (R75, R80). -/
def State.Candidate (s : State) (d : DriveIx) (r : RecIx) (k : List Nat) : Prop :=
  ∃ q, s.record? r = some q ∧ s.eligible d r q = true ∧ s.choiceKey d q = k

/-- Record `r` leads list `l`: no candidate before it is as good, and none after it is better (R76, R80). -/
def State.Leads (s : State) (d : DriveIx) (l : List RecIx) (r : RecIx) (k : List Nat) : Prop :=
  s.Candidate d r k ∧ ∃ pre post, l = pre ++ r :: post ∧
    (∀ r' ∈ pre, ∀ k', s.Candidate d r' k' → k < k') ∧
    ∀ r' ∈ post, ∀ k', s.Candidate d r' k' → ¬k' < k

/-- The best of list `l`: none where it has no candidate, and otherwise its leader. -/
def State.BestOf (s : State) (d : DriveIx) (l : List RecIx) : Option (RecIx × List Nat) → Prop
  | none => ∀ r ∈ l, ∀ k, ¬s.Candidate d r k
  | some (r, k) => s.Leads d l r k

section Choice

variable {s : State} {d : DriveIx} {l : List RecIx} {r x : RecIx} {k k' : List Nat}

theorem State.Candidate.unique (h : s.Candidate d r k) (h' : s.Candidate d r k') : k = k' := by
  obtain ⟨q, record, -, rfl⟩ := h
  obtain ⟨q', record', -, rfl⟩ := h'
  rw [Option.some.inj (record.symm.trans record')]

theorem State.Candidate.keyLess_iff (h : s.Candidate d r k) (h' : s.Candidate d x k') :
    keyLess k k' = true ↔ k < k' := by
  obtain ⟨q, -, -, rfl⟩ := h
  obtain ⟨q', -, -, rfl⟩ := h'
  exact Machine.keyLess_iff rfl

/-- A record that may not be selected does not replace the best so far. -/
theorem State.better_of_unfit (unfit : ∀ k, ¬s.Candidate d x k) (best : Option (RecIx × List Nat)) :
    s.better d best x = best := by
  unfold State.better
  split
  · rfl
  · next q record => exact if_neg fun eligible => unfit _ ⟨q, record, eligible, rfl⟩

theorem State.better_none (fit : s.Candidate d x k) : s.better d none x = some (x, k) := by
  obtain ⟨q, record, eligible, rfl⟩ := fit
  rw [State.better, record]
  exact if_pos eligible

/-- A candidate replaces the best so far exactly when its key comes strictly before (R80). -/
theorem State.better_some (fit : s.Candidate d x k') (best : s.Candidate d r k) :
    s.better d (some (r, k)) x = if k' < k then some (x, k') else some (r, k) := by
  have order := fit.keyLess_iff best
  obtain ⟨q, record, eligible, rfl⟩ := fit
  rw [State.better, record]
  exact (if_pos eligible).trans (if_congr order rfl rfl)

/-- One more record after the leader, no better than it. -/
theorem State.Leads.snoc (h : s.Leads d l r k) (notBetter : ∀ k', s.Candidate d x k' → ¬k' < k) :
    s.Leads d (l ++ [x]) r k := by
  obtain ⟨candidate, pre, post, rfl, before, after⟩ := h
  refine ⟨candidate, pre, post ++ [x], by simp, before, fun r' late => ?_⟩
  obtain old | new := List.mem_append.mp late
  · exact after r' old
  · rw [List.mem_singleton.mp new]
    exact notBetter

/-- The leader's key is the least of the list's. -/
theorem State.Leads.le (h : s.Leads d l r k) {r' : RecIx} (listed : r' ∈ l) (fit : s.Candidate d r' k') :
    k ≤ k' := by
  obtain ⟨candidate, pre, post, rfl, before, after⟩ := h
  obtain early | rest := List.mem_append.mp listed
  · exact le_of_lt (before r' early k' fit)
  · obtain rfl | late := List.mem_cons.mp rest
    · exact le_of_eq (candidate.unique fit)
    · exact le_of_not_gt (after r' late k' fit)

/-- A candidate at the end of the list that is better than all before it. -/
theorem State.leads_last (fit : s.Candidate d x k) (worse : ∀ r ∈ l, ∀ k', s.Candidate d r k' → k < k') :
    s.Leads d (l ++ [x]) x k :=
  ⟨fit, l, [], rfl, worse, nofun⟩

theorem State.BestOf.snoc {best : Option (RecIx × List Nat)} (h : s.BestOf d l best) (x : RecIx) :
    s.BestOf d (l ++ [x]) (s.better d best x) := by
  by_cases fit : ∃ k, s.Candidate d x k
  · obtain ⟨k', fit⟩ := fit
    rcases best with _ | ⟨r, k⟩
    · rw [State.better_none fit]
      exact State.leads_last fit fun r listed k candidate => absurd candidate (h r listed k)
    · have leads : s.Leads d l r k := h
      obtain ⟨best, -⟩ := id leads
      rw [State.better_some fit best]
      split
      · next less =>
        exact State.leads_last fit fun r' listed k'' candidate => lt_of_lt_of_le less (leads.le listed candidate)
      · next notLess => exact leads.snoc fun k'' candidate => candidate.unique fit ▸ notLess
  · have unfit (k : List Nat) (candidate : s.Candidate d x k) : False := fit ⟨k, candidate⟩
    rw [State.better_of_unfit unfit]
    rcases best with _ | ⟨r, k⟩
    · intro r' listed
      obtain old | new := List.mem_append.mp listed
      · exact h r' old
      · rw [List.mem_singleton.mp new]
        exact unfit
    · have leads : s.Leads d l r k := h
      exact leads.snoc fun k' candidate => absurd candidate (unfit k')

theorem State.bestOf_foldl (s : State) (d : DriveIx) (l : List RecIx) :
    s.BestOf d l (l.foldl (s.better d) none) := by
  induction l using List.reverseRecOn with
  | nil => nofun
  | append_singleton l x ih =>
    rw [List.foldl_concat]
    exact ih.snoc x

theorem State.leads_of_best? (h : s.best? d = some r) : ∃ k, s.Leads d (s.driveList d) r k := by
  obtain ⟨⟨r', k⟩, best, rfl⟩ := Option.map_eq_some_iff.mp h
  have leads := s.bestOf_foldl d (s.driveList d)
  rw [best] at leads
  exact ⟨k, leads⟩

theorem State.unfit_of_best? (h : s.best? d = none) (listed : r ∈ s.driveList d) {q : Record}
    (record : s.record? r = some q) : s.eligible d r q = false := by
  have unfit := s.bestOf_foldl d (s.driveList d)
  rw [Option.map_eq_none_iff.mp h] at unfit
  exact Bool.eq_false_iff.mpr fun eligible => unfit r listed _ ⟨q, record, eligible, rfl⟩

/-- A record of a drive's list names the drive (R64). -/
theorem State.drive_of_mem_driveList {q : Record} (listed : r ∈ s.driveList d) (record : s.record? r = some q) :
    q.drive = d := by
  obtain ⟨-, named⟩ := List.mem_filter.mp listed
  rw [record] at named
  exact of_decide_eq_true named

/-! ## The engine that chooses (R76, R84) -/

/-- An engine that may choose is IDLE, its hold set is empty, it has no operation and knows its cylinder. -/
theorem Engine.mayChoose_iff (e : Engine) : e.mayChoose = true ↔
    e.state = .idle ∧ e.door = false ∧ e.link = false ∧ e.fault = false ∧ e.dip = false ∧
      e.current = none ∧ e.cyl ≠ none := by
  simp [Engine.mayChoose, Engine.unheld, and_assoc, Option.isSome_iff_ne_none]

/-- The drives are taken in increasing number. -/
theorem mem_before_of_lt {pre post : List DriveIx} {d d' : DriveIx} (drives : allDrives = pre ++ d :: post)
    (lower : d' < d) : d' ∈ pre := by
  have increasing : (pre ++ d :: post).Pairwise (· < ·) := drives ▸ (by decide : allDrives.Pairwise (· < ·))
  obtain ⟨-, after, -⟩ := List.pairwise_append.mp increasing
  obtain early | rest := List.mem_append.mp (drives ▸ mem_allDrives d')
  · exact early
  · obtain rfl | late := List.mem_cons.mp rest
    · exact absurd lower (lt_irrefl _)
    · exact absurd lower (List.rel_of_pairwise_cons after late).asymm

/-- The next choice is the lowest drive's that may choose and has a candidate. -/
theorem State.nextChoice?_spec (h : s.nextChoice? = some (d, r)) :
    (s.engine d).mayChoose = true ∧ s.best? d = some r ∧
      ∀ d', d' < d → (s.engine d').mayChoose = true → s.best? d' = none := by
  obtain ⟨pre, d₀, post, drives, choice, passed⟩ := List.findSome?_eq_some_iff.mp h
  split at choice
  · next may =>
    obtain ⟨r', best, pair⟩ := Option.map_eq_some_iff.mp choice
    obtain ⟨rfl, rfl⟩ := Prod.mk.inj pair
    refine ⟨may, best, fun d' lower may' => ?_⟩
    have none := passed d' (mem_before_of_lt drives lower)
    rw [if_pos may'] at none
    exact Option.map_eq_none_iff.mp none
  · cases choice

end Choice

end Sys2Proof.Machine
end

section
/-! SUPPORT. How a chosen record is taken (R91), and O4. -/

namespace Sys2Proof.Machine

open Sys2Proof

section Taking

variable {s : State} {d : DriveIx} {r : RecIx} {q : Record}

/-! ## The choice taken -/

/-- The engine that has selected record `r` (R90, R91). -/
def Engine.selects (r : RecIx) (e : Engine) : Engine :=
  { e with state := .select, current := some r, dataHeld := false, idle := 0 }

/-- Record `r` is SELECTED and the current record of drive `d`, its checks still to come (R91). -/
def State.selected (s : State) (d : DriveIx) (r : RecIx) : State :=
  (s.modRecord r fun q => { q with phase := .selected }).modEngine d (Engine.selects r)

theorem State.takeChoice_eq (record : s.record? r = some q) : s.takeChoice d r =
    if q.kind = .writeback ∧ (s.volume d).protect = true then (s.selected d r).writeFails d r .protect
    else if s.sideMissing d q = true then (s.selected d r).operationFails d r .noSide
    else if q.kind = .format then (s.selected d r).startPositioning d r
    else match (s.selected d r).freeBuffer? with
      | some b => (s.selected d r).giveBuffer d r b
      | none => (s.selected d r).waitForBuffer d := by
  rw [State.takeChoice, record]
  rfl

theorem State.record_modRecord_self (record : s.record? r = some q) (f : Record → Record) :
    (s.modRecord r f).record? r = some (f q) := by
  rw [State.modRecord_eq, State.record_setRecord_self, record, Option.map_some]

theorem State.record_selected (record : s.record? r = some q) :
    (s.selected d r).record? r = some { q with phase := .selected } :=
  State.record_modRecord_self record _

theorem State.engine_selected (s : State) (d : DriveIx) (r : RecIx) :
    (s.selected d r).engine d = (s.engine d).selects r :=
  State.engine_modEngine_self ..

theorem State.sideMissing_iff (s : State) (d : DriveIx) (q : Record) : s.sideMissing d q = true ↔
    q.kind ∈ [Kind.fill, .prefetch, .writeback] ∧ q.side = 1 ∧
      (s.volume d).present.map Stamp.sides = some 1 := by
  unfold State.sideMissing
  cases q.kind <;> cases (s.volume d).present <;> simp

/-- A buffer's being free turns on the records' buffers and on the running burst alone (R108, R110). -/
theorem State.freeBuffer?_congr {t : State} (running : t.bursts.running = s.bursts.running)
    (held : ∀ r, (t.record? r).map Record.buffer = (s.record? r).map Record.buffer) :
    t.freeBuffer? = s.freeBuffer? := by
  have free : t.bufferFree = s.bufferFree := funext fun b => by
    unfold State.bufferFree
    rw [running]
    refine congrArg (fun f => List.all allRecords f && _) (funext fun r => ?_)
    have same := held r
    cases at_s : s.record? r with
    | none =>
      rw [at_s, Option.map_none, Option.map_eq_none_iff] at same
      rw [same]
    | some q =>
      rw [at_s, Option.map_some] at same
      obtain ⟨p, record, buffer⟩ := Option.map_eq_some_iff.mp same
      rw [record]
      dsimp only
      rw [buffer]
  rw [State.freeBuffer?, free, State.freeBuffer?]

theorem State.freeBuffer?_selected (s : State) (d : DriveIx) (r : RecIx) :
    (s.selected d r).freeBuffer? = s.freeBuffer? := by
  refine State.freeBuffer?_congr rfl fun r' => ?_
  have phased : (s.selected d r).record? r' = _ := State.record_setRecord s r r' _
  rw [phased]
  split
  · next same =>
    rw [same, Option.map_map]
    rfl
  · rfl

/-! ## Records that end as failures (R55, R48, R91) -/

/-- A write-back that ends as a failure without a halt: its entry is UNWRITTEN, the failure is reported, and
the record is dismissed (R55, R91, R98). -/
theorem State.writeFails_dismisses {cause : Cause} (record : s.record? r = some q)
    (calm : cause ≠ .writeFault) (free : cause.spendsAttempts = false) :
    ∃ u : State, s.writeFails d r cause = u.dismissed d r ∧ ∀ x e, q.owner = some x → s.entry? x = some e →
      e.state.inWriteback = true →
      u.events.raised (if cause = .protect then .protect else .writeFailed) = true ∧ u.entry? x = some { e with
        state := .unwritten, redirtySince := none, cause := some cause, marks := 0, late := 0 } := by
  have going : ¬(cause = .writeFault ∨ ((s.engine d).halt = true ∧ cause.spendsAttempts = true)) := by
    simp [calm, free]
  rw [State.writeFails, record]
  dsimp only
  rw [if_neg going]
  cases owner : q.owner with
  | none => exact ⟨s, rfl, fun _ _ owned => nomatch owned⟩
  | some x =>
    refine ⟨_, rfl, fun x' e owned entry busy => ?_⟩
    cases owned
    obtain ⟨-, unwritten⟩ := State.entryUnwritten_spec entry busy cause
    exact ⟨EventUnit.raised_raise _ _, unwritten⟩

/-- What the failure of a write-back whose cause is no fault of the drive leaves (R55, R91). -/
theorem State.writeFails_calm {cause : Cause} (record : s.record? r = some q)
    (calm : cause ≠ .writeFault) (free : cause.spendsAttempts = false) :
    ((s.writeFails d r cause).engine d).current = none ∧ ∀ x e, q.owner = some x → s.entry? x = some e →
      e.state.inWriteback = true →
      (s.writeFails d r cause).events.raised (if cause = .protect then .protect else .writeFailed) = true ∧
      (s.writeFails d r cause).entry? x = some { e with
        state := .unwritten, redirtySince := none, cause := some cause, marks := 0, late := 0 } := by
  obtain ⟨u, failed, reported⟩ := State.writeFails_dismisses (d := d) record calm free
  obtain ⟨ended, -, events, entries⟩ := u.dismissed_spec d r
  rw [failed, ended, events]
  refine ⟨rfl, fun x e owner entry busy => ?_⟩
  obtain ⟨raised, unwritten⟩ := reported x e owner entry busy
  exact ⟨raised, entries x _ unwritten nofun⟩

/-- A fill that holds no data ends as a failure, and its record is dismissed; a detached one reports nothing
(R48, R104). -/
theorem State.fillFails_empty (record : s.record? r = some q) (empty : (s.engine d).dataHeld = false)
    (cause : Cause) : s.fillFails d r cause = match q.owner with
      | none => s.dismissed d r
      | some x => (((s.modEntry x (Entry.fillFailed cause)).noteFault d cause .failed (some q)).dismissed d r).raise
          .fillFailed := by
  rw [State.fillFails, record]
  simp only [empty, Bool.false_and, Bool.false_eq_true, if_false]
  cases q.owner <;> rfl

/-- What the failure of a fill that holds no data leaves (R48). -/
theorem State.fillFails_calm (record : s.record? r = some q) (empty : (s.engine d).dataHeld = false)
    (cause : Cause) :
    ((s.fillFails d r cause).engine d).current = none ∧ ∀ x e, q.owner = some x → s.entry? x = some e →
      e.state = .queued → (s.fillFails d r cause).events.raised .fillFailed = true ∧
      (s.fillFails d r cause).entry? x = some { e with state := .failed, cause := some cause } := by
  have dismissal := State.fillFails_empty record empty cause
  cases owner : q.owner with
  | none =>
    rw [owner] at dismissal
    obtain ⟨ended, -⟩ := s.dismissed_spec d r
    rw [dismissal]
    exact ⟨congrArg Engine.current ended, fun _ _ owned => nomatch owned⟩
  | some x =>
    rw [owner] at dismissal
    have failed (e : Entry) (entry : s.entry? x = some e) (queued : e.state = .queued) :
        ((s.modEntry x (Entry.fillFailed cause)).noteFault d cause .failed (some q)).entry? x =
          some { e with state := .failed, cause := some cause } := by
      refine (State.entry_modEntry_self s x _).trans ?_
      rw [entry, Option.map_some, Entry.fillFailed, if_pos (.inl queued)]
    obtain ⟨ended, -, -, entries⟩ :=
      ((s.modEntry x (Entry.fillFailed cause)).noteFault d cause .failed (some q)).dismissed_spec d r
    rw [dismissal]
    dsimp only
    generalize ((s.modEntry x (Entry.fillFailed cause)).noteFault d cause .failed (some q)).dismissed d r = u
      at ended entries ⊢
    refine ⟨congrArg Engine.current ended, fun x' e owned entry queued => ⟨EventUnit.raised_raise _ _, ?_⟩⟩
    cases owned
    exact entries x _ (failed e entry queued) nofun

/-! ## Positioning and buffers (R87, R91) -/

/-- The engine that positions its heads for record `q`. -/
def Engine.positions (q : Record) (e : Engine) : Engine :=
  { e.beginSeek q.cylinder q.side with state := .positioning }

theorem State.startPositioning_eq (record : s.record? r = some q) :
    s.startPositioning d r = s.modEngine d (Engine.positions q) := by
  rw [State.startPositioning, record]
  rfl

/-- What a positioning sets and keeps (R78, R87). -/
theorem Engine.positions_spec (q : Record) (e : Engine) :
    (e.positions q).current = e.current ∧ (e.positions q).dataHeld = e.dataHeld ∧
      (e.positions q).motion = .seeking ∧ (e.positions q).target = q.cylinder ∧ (e.positions q).side = q.side ∧
      (e.positions q).stepTicks = e.stepMs * 100 ∧
      (∀ c, e.cyl = some c → c ≠ q.cylinder → (e.positions q).inward = decide (c < q.cylinder)) ∧
      (e.cyl = some q.cylinder → (e.positions q).inward = e.inward) := by
  unfold Engine.positions Engine.beginSeek
  split
  · next there =>
    exact ⟨rfl, rfl, rfl, rfl, rfl, rfl,
      fun c known other => absurd (Option.some.inj (known.symm.trans there)) other, fun _ => rfl⟩
  · next away =>
    refine ⟨rfl, rfl, rfl, rfl, rfl, rfl, fun c known _ => ?_, fun there => absurd there away⟩
    dsimp only
    rw [known, Option.any_some]

/-- Record `r` holds buffer `b`, and what its kind calls for at once has been done: a fill's entry is FILLING,
a write-back's copy-out requested (R91). -/
def State.lent (s : State) (d : DriveIx) (r : RecIx) (b : BufIx) (q : Record) : State :=
  let t := s.modRecord r fun q => { q with buffer := some b, copied := false }
  match q.kind, q.owner with
  | .fill, some x => t.modEntry x Entry.fillBegins
  | .prefetch, some x => t.modEntry x Entry.fillBegins
  | .writeback, _ => t.requestBurst { kind := .copyOut, drive := d, record := r, damaged := false }
  | _, _ => t

/-- A request of a burst changes the burst unit alone. -/
theorem State.requestBurst_frame (s : State) (b : BurstRequest) :
    ∃ u, s.requestBurst b = { s with bursts := u } := by
  obtain e | e | ⟨v, -, e⟩ := s.requestBurst_cases b <;> rw [e]
  · exact ⟨_, rfl⟩
  · exact ⟨_, rfl⟩
  · obtain e | ⟨w, rest, -, -, e⟩ := (s.joinQueue v).startNext_cases <;> rw [e] <;> exact ⟨_, rfl⟩

theorem State.lent_frame (s : State) (d : DriveIx) (r : RecIx) (b : BufIx) (q : Record) :
    ∃ ws u, s.lent d r b q =
      { s.modRecord r fun q => { q with buffer := some b, copied := false } with windows := ws, bursts := u } := by
  unfold State.lent
  dsimp only
  split
  · exact ⟨_, _, rfl⟩
  · exact ⟨_, _, rfl⟩
  · obtain ⟨u, asked⟩ := (s.modRecord r fun q => { q with buffer := some b, copied := false }).requestBurst_frame
      { kind := .copyOut, drive := d, record := r, damaged := false }
    exact ⟨_, u, asked⟩
  · exact ⟨_, _, rfl⟩

theorem State.record_lent (record : s.record? r = some q) (b : BufIx) :
    (s.lent d r b q).record? r = some { q with buffer := some b, copied := false } := by
  obtain ⟨ws, u, lent⟩ := s.lent_frame d r b q
  rw [lent]
  exact State.record_modRecord_self record _

theorem State.giveBuffer_eq (record : s.record? r = some q) (b : BufIx) : s.giveBuffer d r b =
    (s.lent d r b q).modEngine d (Engine.positions { q with buffer := some b, copied := false }) := by
  rw [← State.startPositioning_eq (State.record_lent record b), State.giveBuffer, record]
  rfl

/-- The entry of a fill that is lent a buffer is FILLING (R91). -/
theorem State.entry_lent (b : BufIx) {x : SectorRef} {e : Entry} (fill : q.kind = .fill ∨ q.kind = .prefetch)
    (owner : q.owner = some x) (entry : s.entry? x = some e) (queued : e.state = .queued) :
    (s.lent d r b q).entry? x = some { e with state := .filling } := by
  have begun : ((s.modRecord r fun q => { q with buffer := some b, copied := false }).modEntry x
      Entry.fillBegins).entry? x = some { e with state := .filling } := by
    refine (State.entry_modEntry_self ..).trans ((congrArg (Option.map _) entry).trans ?_)
    rw [Option.map_some, Entry.fillBegins, if_pos queued]
  unfold State.lent
  obtain kind | kind := fill <;> rw [kind, owner] <;> exact begun

/-- A burst that is requested of an empty burst unit runs at once (R113). -/
theorem State.running_requestBurst {a : BurstRequest} {v : Burst} (idle : s.bursts.running = none)
    (empty : s.bursts.queue = []) (clear : s.bursts.behind = []) (made : s.burstOf? a = some v) :
    (s.requestBurst a).bursts.running = some v := by
  have vacant : ¬(s.placeHeld a.drive || s.pendingBehind a.drive) = true := by
    simp [State.placeHeld, State.pendingBehind, idle, empty, clear]
  rw [State.requestBurst, if_neg vacant, made]
  simp [State.startNext, State.joinQueue, idle, empty]

/-- The copy-out of a write-back that is lent a buffer, from its sector's image (R91, R114). -/
theorem State.running_lent (record : s.record? r = some q) (b : BufIx) {x : SectorRef} {w : Binding}
    (kind : q.kind = .writeback) (owner : q.owner = some x) (binding : s.binding? x.win = some w)
    (idle : s.bursts.running = none) (empty : s.bursts.queue = []) (clear : s.bursts.behind = []) :
    (s.lent d r b q).bursts.running = some
      { kind := .copyOut, drive := d, base := 256 * w.page + 256 * x.idx, record := some r, served := none,
        buffer := some b, damaged := false, words := 0, fill := 0 } := by
  unfold State.lent
  rw [kind]
  refine State.running_requestBurst idle empty clear ?_
  rw [State.burstOf?, State.record_modRecord_self record]
  dsimp only
  rw [owner]
  dsimp only [State.imageBase]
  rw [State.binding_congr (State.modRecord_windows s r _), binding]
  rfl

/-! ## What becomes of the chosen record (R91) -/

/-- A write-back to a protected volume ends as a failure. -/
theorem State.takeChoice_protected (record : s.record? r = some q)
    (shut : q.kind = .writeback ∧ (s.volume d).protect = true) :
    ((s.takeChoice d r).engine d).current = none ∧ ∀ x e, q.owner = some x → s.entry? x = some e →
      e.state.inWriteback = true → (s.takeChoice d r).events.raised .protect = true ∧
      (s.takeChoice d r).entry? x = some { e with
        state := .unwritten, redirtySince := none, cause := some .protect, marks := 0, late := 0 } := by
  rw [State.takeChoice_eq record, if_pos shut]
  exact State.writeFails_calm (q := { q with phase := .selected }) (State.record_selected record) nofun rfl

theorem State.takeChoice_missing (record : s.record? r = some q)
    (writable : ¬(q.kind = .writeback ∧ (s.volume d).protect = true)) (missing : s.sideMissing d q = true) :
    s.takeChoice d r = if q.kind = .writeback then (s.selected d r).writeFails d r .noSide
      else (s.selected d r).fillFails d r .noSide := by
  obtain ⟨kind, -⟩ := (s.sideMissing_iff d q).mp missing
  rw [State.takeChoice_eq record, if_neg writable, if_pos missing, State.operationFails,
    State.record_selected record]
  dsimp only
  rcases q with ⟨kind'⟩
  cases kind' with
  | fill | prefetch | writeback => rfl
  | stampRead | format => simp at kind

/-- An operation on a side that the volume does not record ends as a failure. -/
theorem State.takeChoice_noSide (record : s.record? r = some q)
    (writable : ¬(q.kind = .writeback ∧ (s.volume d).protect = true)) (missing : s.sideMissing d q = true) :
    ((s.takeChoice d r).engine d).current = none ∧ ∀ x e, q.owner = some x → s.entry? x = some e →
      (q.kind = .writeback → e.state.inWriteback = true →
        (s.takeChoice d r).events.raised .writeFailed = true ∧
        (s.takeChoice d r).entry? x = some { e with
          state := .unwritten, redirtySince := none, cause := some .noSide, marks := 0, late := 0 }) ∧
      (q.kind ≠ .writeback → e.state = .queued →
        (s.takeChoice d r).events.raised .fillFailed = true ∧
        (s.takeChoice d r).entry? x = some { e with state := .failed, cause := some .noSide }) := by
  have selected := State.record_selected (d := d) record
  have empty : ((s.selected d r).engine d).dataHeld = false := congrArg Engine.dataHeld (s.engine_selected d r)
  rw [State.takeChoice_missing record writable missing]
  split
  · next kind =>
    obtain ⟨current, failed⟩ := State.writeFails_calm (d := d) selected (cause := .noSide) nofun rfl
    exact ⟨current, fun x e owner entry => ⟨fun _ => failed x e owner entry, fun other => absurd kind other⟩⟩
  · next kind =>
    obtain ⟨current, failed⟩ := State.fillFails_calm selected empty .noSide
    exact ⟨current, fun x e owner entry => ⟨fun same => absurd same kind, fun _ => failed x e owner entry⟩⟩

/-- The chosen record of an operation that its volume allows: a FORMAT positions at once, and any other takes
the lowest free buffer or waits for one. -/
theorem State.takeChoice_allowed (record : s.record? r = some q)
    (writable : ¬(q.kind = .writeback ∧ (s.volume d).protect = true)) (present : ¬s.sideMissing d q = true) :
    s.takeChoice d r =
      if q.kind = .format then (s.selected d r).modEngine d (Engine.positions q)
      else match s.freeBuffer? with
        | some b => ((s.selected d r).lent d r b { q with phase := .selected }).modEngine d (Engine.positions q)
        | none => (s.selected d r).waitForBuffer d := by
  have selected := State.record_selected (d := d) record
  rw [State.takeChoice_eq record, if_neg writable, if_neg present, State.startPositioning_eq selected,
    State.freeBuffer?_selected]
  refine if_congr Iff.rfl rfl ?_
  cases s.freeBuffer? with
  | none => rfl
  | some b => exact State.giveBuffer_eq selected b

/-- A FORMAT positions at once, without a buffer. -/
theorem State.takeChoice_format (record : s.record? r = some q)
    (writable : ¬(q.kind = .writeback ∧ (s.volume d).protect = true)) (present : ¬s.sideMissing d q = true)
    (kind : q.kind = .format) :
    (s.takeChoice d r).engine d = ((s.engine d).selects r).positions q ∧
      (s.takeChoice d r).bufWait = s.bufWait ∧
      (s.takeChoice d r).record? r = some { q with phase := .selected } := by
  rw [State.takeChoice_allowed record writable present, if_pos kind, State.engine_modEngine_self,
    State.engine_selected]
  exact ⟨rfl, rfl, State.record_selected (d := d) record⟩

/-- With no buffer free the engine waits for one, at the end of the list (R109). -/
theorem State.takeChoice_waits (record : s.record? r = some q)
    (writable : ¬(q.kind = .writeback ∧ (s.volume d).protect = true)) (present : ¬s.sideMissing d q = true)
    (kind : q.kind ≠ .format) (none : s.freeBuffer? = none) :
    (s.takeChoice d r).engine d = { (s.engine d).selects r with state := .waitBuffer } ∧
      (s.takeChoice d r).bufWait = s.bufWait ++ [d] ∧
      (s.takeChoice d r).record? r = some { q with phase := .selected } := by
  rw [State.takeChoice_allowed record writable present, if_neg kind, none]
  refine ⟨?_, rfl, State.record_selected (d := d) record⟩
  rw [← State.engine_selected]
  exact State.engine_modEngine_self ..

/-- The lowest free buffer is lent, and the engine positions (R91, R109). -/
theorem State.takeChoice_lends (record : s.record? r = some q)
    (writable : ¬(q.kind = .writeback ∧ (s.volume d).protect = true)) (present : ¬s.sideMissing d q = true)
    (kind : q.kind ≠ .format) {b : BufIx} (free : s.freeBuffer? = some b) :
    (s.takeChoice d r).engine d = ((s.engine d).selects r).positions q ∧
      (s.takeChoice d r).bufWait = s.bufWait ∧
      (s.takeChoice d r).record? r = some { q with phase := .selected, buffer := some b, copied := false } ∧
      (∀ x e, (q.kind = .fill ∨ q.kind = .prefetch) → q.owner = some x → s.entry? x = some e →
        e.state = .queued → (s.takeChoice d r).entry? x = some { e with state := .filling }) ∧
      ∀ x w, q.kind = .writeback → q.owner = some x → s.binding? x.win = some w →
        s.bursts.running = none → s.bursts.queue = [] → s.bursts.behind = [] →
        (s.takeChoice d r).bursts.running = some
          { kind := .copyOut, drive := d, base := 256 * w.page + 256 * x.idx, record := some r,
            served := none, buffer := some b, damaged := false, words := 0, fill := 0 } := by
  have selected := State.record_selected (d := d) record
  obtain ⟨ws, u, lent⟩ := (s.selected d r).lent_frame d r b { q with phase := .selected }
  have engine : ((s.selected d r).lent d r b { q with phase := .selected }).engine d = (s.engine d).selects r := by
    rw [lent]
    exact s.engine_selected d r
  have bufWait : ((s.selected d r).lent d r b { q with phase := .selected }).bufWait = s.bufWait := by
    rw [lent]
    rfl
  rw [State.takeChoice_allowed record writable present, if_neg kind, free]
  refine ⟨?_, bufWait, State.record_lent selected b,
    fun x e fill owner entry queued => State.entry_lent (s := s.selected d r) b fill owner entry queued,
    fun x w write owner binding idle empty clear =>
      State.running_lent selected b write owner binding idle empty clear⟩
  rw [← engine]
  exact State.engine_modEngine_self ..

/-- The engine of a record that its volume allows positions, or waits for a buffer. -/
theorem State.takeChoice_engine (record : s.record? r = some q)
    (writable : ¬(q.kind = .writeback ∧ (s.volume d).protect = true)) (present : ¬s.sideMissing d q = true) :
    (s.takeChoice d r).engine d = ((s.engine d).selects r).positions q ∨
      (s.takeChoice d r).engine d = { (s.engine d).selects r with state := .waitBuffer } := by
  by_cases kind : q.kind = .format
  · obtain ⟨engine, -⟩ := State.takeChoice_format record writable present kind
    exact .inl engine
  · cases free : s.freeBuffer? with
    | none =>
      obtain ⟨engine, -⟩ := State.takeChoice_waits record writable present kind free
      exact .inr engine
    | some b =>
      obtain ⟨engine, -⟩ := State.takeChoice_lends record writable present kind free
      exact .inl engine

/-- The chosen record is the engine's operation, with no data held; an engine that positions seeks to the
record's track side (R87). -/
theorem State.takeChoice_seeks (record : s.record? r = some q)
    (writable : ¬(q.kind = .writeback ∧ (s.volume d).protect = true)) (present : ¬s.sideMissing d q = true) :
    ((s.takeChoice d r).engine d).current = some r ∧ ((s.takeChoice d r).engine d).dataHeld = false ∧
      (((s.takeChoice d r).engine d).state = .positioning →
        ((s.takeChoice d r).engine d).motion = .seeking ∧
        ((s.takeChoice d r).engine d).target = q.cylinder ∧ ((s.takeChoice d r).engine d).side = q.side ∧
        ((s.takeChoice d r).engine d).stepTicks = (s.engine d).stepMs * 100 ∧
        (∀ c, (s.engine d).cyl = some c → c ≠ q.cylinder →
          ((s.takeChoice d r).engine d).inward = decide (c < q.cylinder)) ∧
        ((s.engine d).cyl = some q.cylinder →
          ((s.takeChoice d r).engine d).inward = (s.engine d).inward)) := by
  obtain engine | engine := State.takeChoice_engine record writable present <;> rw [engine]
  · obtain ⟨current, held, seeks⟩ := ((s.engine d).selects r).positions_spec q
    exact ⟨current, held, fun _ => seeks⟩
  · exact ⟨rfl, rfl, nofun⟩

end Taking

/-! ## What follows a command at once -/

/-- Settles O4: swaps and choices drift; the choice is a fold that keeps the leader; the record is taken case
by case of R91. -/
theorem settleKeepsSteadyPart : Obligations.SettleKeepsSteadyPart := by
  refine ⟨fun s => ?_, fun s => State.settle_of_settled, fun s d r choice => ?_, fun s d r q record => ?_⟩
  · obtain ⟨-, mask, readTag⟩ := (State.Tends.refl s).settle
    exact ⟨s.settle_steady, s.flagsKept_settle.and_eq, mask, readTag, fun w b es => State.settle_bound,
      fun x e => State.settle_dirty⟩
  · obtain ⟨may, best, lower⟩ := State.nextChoice?_spec choice
    obtain ⟨idle, door, link, fault, dip, free, known⟩ := (s.engine d).mayChoose_iff.mp may
    obtain ⟨k, ⟨q, record, eligible, rfl⟩, pre, post, list, before, after⟩ := State.leads_of_best? best
    have listed : r ∈ s.driveList d := list ▸ List.mem_append_right _ List.mem_cons_self
    refine ⟨fun noSwap => ?_, idle, door, link, fault, dip, free, known,
      fun d' less may' r' listed' q' record' => State.unfit_of_best? (lower d' less may') listed' record',
      q, pre, post, record, State.drive_of_mem_driveList listed record, eligible, list,
      fun r' early q' record' eligible' => before r' early _ ⟨q', record', eligible', rfl⟩,
      fun r' late q' record' eligible' => after r' late _ ⟨q', record', eligible', rfl⟩⟩
    rw [State.settleOne, noSwap, choice]
  · refine ⟨State.takeChoice_protected record,
      fun writable noSide => State.takeChoice_noSide record writable ((s.sideMissing_iff d q).mpr noSide),
      fun writable side => ?_⟩
    have present : ¬s.sideMissing d q = true := mt (s.sideMissing_iff d q).mp side
    obtain ⟨current, held, seeks⟩ := State.takeChoice_seeks record writable present
    refine ⟨current, held, fun kind => ?_, fun kind none => ?_, fun b kind free => ?_, seeks⟩
    · obtain ⟨engine, bufWait, taken⟩ := State.takeChoice_format record writable present kind
      exact ⟨congrArg Engine.state engine, bufWait, taken⟩
    · obtain ⟨engine, bufWait, taken⟩ := State.takeChoice_waits record writable present kind none
      exact ⟨congrArg Engine.state engine, bufWait, taken⟩
    · obtain ⟨engine, lent⟩ := State.takeChoice_lends record writable present kind free
      exact ⟨congrArg Engine.state engine, lent⟩

end Sys2Proof.Machine
end

section
/-! SUPPORT. What the work of engines leaves of the clocks, of each engine and of the event flags. -/

namespace Sys2Proof.Machine

open Sys2Proof

/-! ## The relation -/

/-- What no operation changes of an engine: its measure of the index (R88, R89), its settings, its lines and
its holds but FAULT. -/
def Engine.gauge (e : Engine) : Engine :=
  { Engine.reset e.ready e.track0 e.protect with
    door := e.door, link := e.link, dip := e.dip, newer := e.newer, older := e.older, period := e.period,
    bad := e.bad, lostTimer := e.lostTimer, stepMs := e.stepMs, retries := e.retries, halt := e.halt }

/-- The clocks without what is due of the latest advance. -/
def Clock.hands (c : Clock) : Clock := { c with due := Due.none }

/-- From `e` to `f` an engine has worked: its gauge stands, and FAULT, once set, is set. -/
def Engine.Works (e f : Engine) : Prop := f.gauge = e.gauge ∧ (e.fault = true → f.fault = true)

/-- From `e` to `f` an engine keeps its operation and its last-fault record. -/
def Engine.Spared (e f : Engine) : Prop := f.current = e.current ∧ f.lastFault = e.lastFault

/-- From `o` to `s` engines have worked, and no time has passed: the clocks but for what is due stand, no
event is lost, an engine outside `D` keeps its operation, and one outside `N` its last-fault record. -/
def State.Works (D N : DriveIx → Prop) (o s : State) : Prop :=
  s.power = o.power ∧ s.clock.hands = o.clock.hands ∧ o.events.Grows s.events ∧
    ∀ d, (o.engine d).Works (s.engine d) ∧ (¬D d → (s.engine d).current = (o.engine d).current) ∧
      (¬N d → (s.engine d).lastFault = (o.engine d).lastFault)

theorem Engine.Works.refl (e : Engine) : e.Works e := ⟨rfl, id⟩

theorem Engine.Works.trans {e f g : Engine} (h : e.Works f) (k : f.Works g) : e.Works g := by
  obtain ⟨gauge, fault⟩ := h
  obtain ⟨gauge', fault'⟩ := k
  exact ⟨gauge'.trans gauge, fun set => fault' (fault set)⟩

theorem Engine.Spared.trans {e f g : Engine} (h : e.Spared f) (k : f.Spared g) : e.Spared g := by
  obtain ⟨current, lastFault⟩ := h
  obtain ⟨current', lastFault'⟩ := k
  exact ⟨current'.trans current, lastFault'.trans lastFault⟩

theorem Engine.beginSeek_works (e : Engine) (c side : Nat) : e.Works (e.beginSeek c side) := by
  unfold Engine.beginSeek
  split <;> exact ⟨rfl, id⟩

theorem Engine.beginSeek_spared (e : Engine) (c side : Nat) : e.Spared (e.beginSeek c side) := by
  unfold Engine.beginSeek
  split <;> exact ⟨rfl, rfl⟩

namespace State.Works

variable {D N : DriveIx → Prop} {o s : State} {d : DriveIx}

theorem refl (s : State) : s.Works D N s :=
  ⟨rfl, rfl, .refl _, fun _ => ⟨.refl _, fun _ => rfl, fun _ => rfl⟩⟩

/-- Any engine may work. -/
theorem refl_all (s : State) : s.Works (fun _ => True) (fun _ => True) s := refl s

theorem power (h : o.Works D N s) : s.power = o.power := by
  obtain ⟨power, -⟩ := h
  exact power

theorem hands (h : o.Works D N s) : s.clock.hands = o.clock.hands := by
  obtain ⟨-, hands, -⟩ := h
  exact hands

theorem events (h : o.Works D N s) : o.events.Grows s.events := by
  obtain ⟨-, -, events, -⟩ := h
  exact events

theorem engine (h : o.Works D N s) (d : DriveIx) : (o.engine d).Works (s.engine d) := by
  obtain ⟨-, -, -, engines⟩ := h
  obtain ⟨works, -⟩ := engines d
  exact works

theorem gauge (h : o.Works D N s) (d : DriveIx) : (s.engine d).gauge = (o.engine d).gauge := by
  obtain ⟨gauge, -⟩ := h.engine d
  exact gauge

theorem fault (h : o.Works D N s) (set : (o.engine d).fault = true) : (s.engine d).fault = true := by
  obtain ⟨-, fault⟩ := h.engine d
  exact fault set

theorem current (h : o.Works D N s) (out : ¬D d) : (s.engine d).current = (o.engine d).current := by
  obtain ⟨-, -, -, engines⟩ := h
  obtain ⟨-, current, -⟩ := engines d
  exact current out

theorem lastFault (h : o.Works D N s) (out : ¬N d) : (s.engine d).lastFault = (o.engine d).lastFault := by
  obtain ⟨-, -, -, engines⟩ := h
  obtain ⟨-, -, lastFault⟩ := engines d
  exact lastFault out

/-! ## Branches and folds -/

theorem ite {p : Prop} [Decidable p] {t : State} (hs : o.Works D N s) (ht : o.Works D N t) :
    o.Works D N (if p then s else t) := by
  split
  · exact hs
  · exact ht

theorem foldl {α : Type} (h : o.Works D N s) (f : State → α → State)
    (hf : ∀ (t : State) (a : α), o.Works D N t → o.Works D N (f t a)) (l : List α) :
    o.Works D N (l.foldl f s) :=
  foldl_invariant (o.Works D N) f hf l s h

/-! ## One update -/

theorem raise (h : o.Works D N s) (e : Event) : o.Works D N (s.raise e) := by
  obtain ⟨power, hands, events, rest⟩ := h
  exact ⟨power, hands, events.trans (EventUnit.grows_raise _ e), rest⟩

/-- An engine changes in its work; outside `D` it keeps its operation, outside `N` its last-fault record. -/
theorem modEngine (h : o.Works D N s) (d : DriveIx) {f : Engine → Engine}
    (works : ∀ e : Engine, e.Works (f e) := by exact fun _ => ⟨rfl, id⟩)
    (keeps : D d ∨ ∀ e, (f e).current = e.current := by exact .inr fun _ => rfl)
    (same : N d ∨ ∀ e, (f e).lastFault = e.lastFault := by exact .inr fun _ => rfl) :
    o.Works D N (s.modEngine d f) := by
  obtain ⟨power, hands, events, engines⟩ := h
  refine ⟨power, hands, events, fun x => ?_⟩
  rw [State.modEngine_eq, State.engine_setEngine]
  split
  · next at_d =>
    subst at_d
    obtain ⟨before, current, lastFault⟩ := engines x
    exact ⟨before.trans (works _), fun out => (keeps.resolve_left out _).trans (current out),
      fun out => (same.resolve_left out _).trans (lastFault out)⟩
  · exact engines x

theorem bursts (h : o.Works D N s) (u : BurstUnit) : o.Works D N { s with bursts := u } := h

theorem bufWait (h : o.Works D N s) (l : List DriveIx) : o.Works D N { s with bufWait := l } := h

theorem chan (h : o.Works D N s) (c : Channel) : o.Works D N { s with chan := c } := h

theorem pool (h : o.Works D N s) (p : Pool) : o.Works D N { s with pool := p } := h

theorem due (h : o.Works D N s) (x : Due) : o.Works D N { s with clock := { s.clock with due := x } } := h

theorem diskOut (h : o.Works D N s) (x : Option DiskOut) : o.Works D N { s with diskOut := x } := h

theorem windows (h : o.Works D N s) (ws : Vector Window 16) : o.Works D N { s with windows := ws } := h

theorem modVolume (h : o.Works D N s) (x : DriveIx) (f : Volume → Volume) : o.Works D N (s.modVolume x f) := h

theorem modEntry (h : o.Works D N s) (x : SectorRef) (f : Entry → Entry) : o.Works D N (s.modEntry x f) := h

theorem setSlot (h : o.Works D N s) (k : SlotIx) (x : Slot) : o.Works D N (s.setSlot k x) := h

theorem modRecord (h : o.Works D N s) (r : RecIx) (f : Record → Record) : o.Works D N (s.modRecord r f) := h

/-! ## Slots and the pool -/

theorem markGone (h : o.Works D N s) (failure : Bool) (k : SlotIx) :
    o.Works D N (s.markGone failure k) := by
  have ended (x : Slot) : o.Works D N ((s.setSlot k x).endSlot k) := by
    unfold State.endSlot
    exact (((h.setSlot k x).setSlot k _).raise _).ite (h.setSlot k x)
  exact (ended _).ite h

theorem marksGone (h : o.Works D N s) (failure : Bool) (marks : BitVec 4) :
    o.Works D N (s.marksGone failure marks) :=
  h.foldl _ (fun _ k ht => (ht.markGone failure k).ite ht) _

theorem requestWrite (h : o.Works D N s) (x : SectorRef) (u : Urgency) : o.Works D N (s.requestWrite x u) := by
  obtain e | ⟨r, -, -, e⟩ | ⟨y, -, -, -, -, e⟩ | ⟨y, r, -, -, -, -, -, -, e⟩ :=
    s.requestWrite_cases x u <;> rw [e]
  · exact h
  · exact h.modRecord r _
  · exact (h.pool _).raise .backlog
  · exact h.pool _

theorem provide (h : o.Works D N s) (x : SectorRef) (retry : Bool) : o.Works D N (s.provide x retry) := by
  obtain e | e | e := s.provide_cases x retry <;> rw [e]
  · exact h
  · exact h.requestWrite x .urgent
  · exact h.requestWrite x .normal

theorem releaseRecord (h : o.Works D N s) (r : RecIx) : o.Works D N (s.releaseRecord r) := by
  obtain ⟨p, e, -⟩ := s.releaseRecord_spec r
  rw [e]
  exact h.pool p

/-! ## Bursts, buffers and the channel -/

theorem requestBurst (h : o.Works D N s) (q : BurstRequest) : o.Works D N (s.requestBurst q) := by
  obtain ⟨u, e⟩ := s.requestBurst_frame q
  rw [e]
  exact h.bursts u

theorem withdrawRecord (h : o.Works D N s) (r : RecIx) : o.Works D N (s.withdrawRecord r) := by
  obtain ⟨u, e, -⟩ := State.withdraw_joined { s with bursts := { s.bursts with
    behind := s.bursts.behind.filter fun q => decide (q.record ≠ r) } } fun u => decide (u.record = some r)
  rw [State.withdrawRecord, e]
  exact h.bursts u

theorem stopCopyOut (h : o.Works D N s) (r : RecIx) : o.Works D N (s.stopCopyOut r) := by
  obtain ⟨u, e⟩ := s.stopCopyOut_bursts r
  rw [e]
  exact h.bursts u

theorem startPositioning (h : o.Works D N s) (d : DriveIx) (r : RecIx) : o.Works D N (s.startPositioning d r) := by
  unfold State.startPositioning
  split
  · next q _ =>
    exact h.modEngine d (fun e => (e.beginSeek_works q.cylinder q.side).trans ⟨rfl, id⟩)
      (.inr fun e => (e.beginSeek_spared q.cylinder q.side).left)
      (.inr fun e => (e.beginSeek_spared q.cylinder q.side).right)
  · exact h

theorem giveBuffer (h : o.Works D N s) (d : DriveIx) (r : RecIx) (b : BufIx) :
    o.Works D N (s.giveBuffer d r b) := by
  unfold State.giveBuffer
  split
  · exact h
  · have t := h.modRecord r fun q => { q with buffer := some b, copied := false }
    dsimp only
    split
    · exact (t.modEntry _ _).startPositioning d r
    · exact (t.modEntry _ _).startPositioning d r
    · exact (t.requestBurst _).startPositioning d r
    · exact t.startPositioning d r

theorem handBuffer (h : o.Works D N s) (b : BufIx) : o.Works D N (s.handBuffer b) := by
  obtain e | ⟨x, rest, -, -, e | ⟨r, -, -, e⟩⟩ := s.handBuffer_cases b <;> rw [e]
  · exact h
  · exact h.bufWait rest
  · exact (h.bufWait rest).giveBuffer x r b

theorem handBuffers (h : o.Works D N s) : o.Works D N s.handBuffers :=
  h.foldl _ (fun _ b ht => ht.handBuffer b) _

theorem freeRecord (h : o.Works D N s) (r : RecIx) : o.Works D N (s.freeRecord r) :=
  (h.releaseRecord r).handBuffers

theorem grant (h : o.Works D N s) (d : DriveIx) : o.Works D N (s.grant d) := by
  unfold State.grant
  dsimp only
  split
  · exact ((h.chan _).modRecord _ _).modEngine d
  · exact h.chan _

theorem leaveChannel (h : o.Works D N s) (d : DriveIx) : o.Works D N (s.leaveChannel d) := by
  obtain ⟨-, -, e⟩ | ⟨x, rest, -, -, e⟩ | ⟨-, e⟩ := s.leaveChannel_cases d <;> rw [e]
  · exact h.chan _
  · exact (h.chan _).grant x
  · exact h.chan _

/-! ## Volumes -/

theorem attach (h : o.Works D N s) (d : DriveIx) (adopt : Bool) : o.Works D N (s.attach d adopt) := by
  have revived (t : State) (x : SectorRef) (ht : o.Works D N t) : o.Works D N (State.reviveEntry adopt t x) := by
    unfold State.reviveEntry
    split
    · exact ht
    · split
      · exact (ht.modEntry x _).provide x false
      · exact (ht.modEntry x _).ite ht
      · exact ht
  exact (h.modVolume d _).foldl _ revived _

theorem stampVerdict (h : o.Works D N s) (d : DriveIx) (bytes : Option (List Byte)) :
    o.Works D N (s.stampVerdict d bytes) := by
  have unknown (x : StampOutcome) : o.Works D N (s.stampUnknown d x) := (h.modVolume d _).raise _
  unfold State.stampVerdict
  split
  · exact unknown _
  · split
    · exact unknown _
    · exact (((h.modVolume d _).attach d false).raise _).ite (((h.modVolume d _).modVolume d _).raise _)

/-! ## The end of an operation, and holds -/

theorem noteFault (h : o.Works D N s) (noted : N d) (c : Cause) (x : FaultOutcome) (q : Option Record) :
    o.Works D N (s.noteFault d c x q) := h.modEngine d (same := .inl noted)

theorem endOperation (h : o.Works D N s) (own : D d) : o.Works D N (s.endOperation d) :=
  h.modEngine d (keeps := .inl own)

/-- An operation ends and its record is freed. -/
theorem dismissed (h : o.Works D N s) (own : D d) (r : RecIx) : o.Works D N (s.dismissed d r) :=
  ((h.endOperation own).leaveChannel d).freeRecord r

theorem returnRecord (h : o.Works D N s) (own : D d) : o.Works D N (s.returnRecord d) := by
  have returned {t : State} (ht : o.Works D N t) (q : Record) : o.Works D N (t.returnEntry q) := by
    unfold State.returnEntry
    split
    · exact (ht.modEntry _ _).provide _ false
    all_goals exact ht
  unfold State.returnRecord
  split
  · exact h
  · next r _ =>
    split
    · exact h
    · next q _ =>
      have aside (waits : List DriveIx) :=
        ((((h.endOperation own).bufWait waits).leaveChannel d).withdrawRecord r).stopCopyOut r
      exact ((aside _).freeRecord r).ite (returned ((aside _).modRecord r _) q).handBuffers

theorem stopForHold (h : o.Works D N s) (own : D d) : o.Works D N (s.stopForHold d) := by
  unfold State.stopForHold
  split
  · exact h.modEngine d
  · exact h.modEngine d
  · exact h.returnRecord own
  · exact h.returnRecord own
  · exact h.returnRecord own
  · exact h

theorem haltFault (h : o.Works D N s) (own : D d) : o.Works D N (s.haltFault d) :=
  ((h.modEngine d (f := Engine.faulted) (fun _ => ⟨rfl, fun _ => rfl⟩)).raise _).stopForHold own

theorem speedFails (h : o.Works D N s) (own : D d) (noted : N d) : o.Works D N (s.speedFails d) :=
  (((h.raise _).noteFault noted _ _ _).returnRecord own).haltFault own

/-! ## Failures and completions -/

theorem writeFails (h : o.Works D N s) (own : D d) (noted : N d) (r : RecIx) (c : Cause) :
    o.Works D N (s.writeFails d r c) := by
  have unwritten (x : SectorRef) : o.Works D N (s.entryUnwritten x c) := by
    unfold State.entryUnwritten
    split
    · exact h
    · exact ((h.modEntry x _).marksGone true _).ite h
  have halts {t : State} (ht : o.Works D N t) {p : Prop} [Decidable p] :
      o.Works D N (if p then (t.dismissed d r).haltFault d else t.dismissed d r) :=
    ((ht.dismissed own r).haltFault own).ite (ht.dismissed own r)
  unfold State.writeFails
  split
  · exact h
  · next q _ =>
    dsimp only
    cases q.owner with
    | some x => exact halts (((unwritten x).noteFault noted c .unwritten (some q)).raise _)
    | none => exact halts h

theorem fillFails (h : o.Works D N s) (own : D d) (noted : N d) (r : RecIx) (c : Cause) :
    o.Works D N (s.fillFails d r c) := by
  unfold State.fillFails
  split
  · exact h
  · next q _ =>
    dsimp only
    split
    · exact h.dismissed own r
    · have delivered (c : Cause) (b : BurstRequest) :=
        ((((h.noteFault noted c .damagedDelivered (some q)).endOperation own).leaveChannel d).requestBurst b).raise
          .damagedDelivered
      have failed (c : Cause) (x : SectorRef) :=
        (((h.modEntry x (Entry.fillFailed c)).noteFault noted c .failed (some q)).dismissed own r).raise .fillFailed
      exact (delivered _ _).ite (failed _ _)

theorem operationFails (h : o.Works D N s) (own : D d) (noted : N d) (r : RecIx) (c : Cause) :
    o.Works D N (s.operationFails d r c) := by
  unfold State.operationFails
  split
  · exact h
  · split
    · exact h.fillFails own noted r c
    · exact h.fillFails own noted r c
    · exact ((h.noteFault noted c _ _).dismissed own r).stampVerdict d none
    · exact h.writeFails own noted r c
    · exact h

theorem attemptFails (h : o.Works D N s) (own : D d) (noted : N d) (r : RecIx) (c : Cause) :
    o.Works D N (s.attemptFails d r c) :=
  ((h.modRecord r _).operationFails own noted r c).ite ((h.modRecord r _).modEngine d)

theorem formatFails (h : o.Works D N s) (own : D d) (r : RecIx) (c : FormatCause) :
    o.Works D N (s.formatFails d r c) := by
  unfold State.formatFails
  split
  · exact h
  · next q _ =>
    have noted : o.Works D N (s.noteFormat d (some c) q) := h.modVolume d _
    have t := (noted.raise .formatFailed).dismissed own r
    exact (t.haltFault own).ite t

theorem formatCompletes (h : o.Works D N s) (own : D d) (r : RecIx) : o.Works D N (s.formatCompletes d r) := by
  unfold State.formatCompletes
  split
  · exact h
  · next q _ =>
    split
    · exact h
    · next p _ =>
      have t (x : Option DiskOut) := ((h.diskOut x).endOperation own).leaveChannel d
      have adopted {u : State} (hu : o.Works D N u) : o.Works D N (u.adoptFormat d p) :=
        ((hu.modVolume d _).pool _).attach d false
      exact ((((adopted (t _)).ite ((t _).modVolume d _)).freeRecord r).raise _).modVolume d _

/-! ## What follows at once -/

theorem takeChoice (h : o.Works D N s) (own : D d) (noted : N d) (r : RecIx) :
    o.Works D N (s.takeChoice d r) := by
  unfold State.takeChoice
  split
  · exact h
  · have t (f : Record → Record) : o.Works D N ((s.modRecord r f).modEngine d (Engine.selects r)) :=
        (h.modRecord r f).modEngine d (keeps := .inl own)
    refine ((t _).writeFails own noted r _).ite (((t _).operationFails own noted r _).ite
      (((t _).startPositioning d r).ite ?_))
    split
    · exact (t _).giveBuffer d r _
    · exact ((t _).bufWait _).modEngine d

theorem swapWindow (h : o.Works D N s) (w : WinIx) : o.Works D N (s.swapWindow w) := by
  unfold State.swapWindow
  split
  · next next _ _ =>
    obtain ⟨power, hands, events, engines⟩ := h
    have grows := s.replaceWindow_grows w next
    obtain ⟨vs, ev, e, -⟩ := s.rebound_replaceWindow w next
    rw [e] at grows ⊢
    exact ⟨power, hands, events.trans grows, engines⟩
  · exact h
  · exact h

/-- What follows at once is the work of engines that are not held (R84). -/
theorem settle (h : o.Works D N s) (free : ∀ d, (o.engine d).fault = false → D d ∧ N d) : o.Works D N s.settle := by
  refine State.settle_invariant (o.Works D N) (fun t u ht e => ?_) s h
  obtain ⟨w, -, rfl⟩ | ⟨-, d, r, next, rfl⟩ := State.settleOne_cases e
  · exact ht.swapWindow w
  · obtain ⟨may, -⟩ := State.nextChoice?_spec next
    obtain ⟨-, -, -, fault, -⟩ := (t.engine d).mayChoose_iff.mp may
    cases was : (o.engine d).fault with
    | false =>
      obtain ⟨own, noted⟩ := free d was
      exact ht.takeChoice own noted r
    | true => exact absurd ((ht.fault was).symm.trans fault) (by simp)

/-! ## Judgements, index pulses and lost indexes -/

theorem judgeAll (h : o.Works D N s) : o.Works D N s.judgeAll := by
  have sweepEntry (t : State) (x : SectorRef) (ht : o.Works D N t) : o.Works D N (t.sweepEntry x) := by
    unfold State.sweepEntry
    split
    · exact (ht.requestWrite x .normal).ite ht
    · exact ht
  have promoteEntry (t : State) (x : SectorRef) (ht : o.Works D N t) : o.Works D N (t.promoteEntry x) := by
    unfold State.promoteEntry
    split
    · exact ((ht.modEntry x _).requestWrite x .urgent).ite ht
    · exact ht
  have lateSlot (t : State) (k : SlotIx) (ht : o.Works D N t) : o.Works D N (t.lateSlot k) :=
    (((ht.windows _).setSlot k _).raise _).ite ht
  have sweep {t : State} (ht : o.Works D N t) : o.Works D N t.judgeSweep := by
    have ended (x : SweepTimer) (y : Due) :
        o.Works D N { t with sweep := x, clock := { t.clock with due := y } } := ht
    have swept : o.Works D N t.sweepNow := ((ended _ _).raise .sweep).foldl _ sweepEntry _
    exact swept.ite ht
  have ages {t : State} (ht : o.Works D N t) : o.Works D N t.judgeAges := by
    have promoted {u : State} (hu : o.Works D N u) : o.Works D N u.promoteAll :=
      (hu.due _).ite ((hu.due _).foldl _ promoteEntry _)
    exact (promoted (sweep ht)).ite ht
  have deadlines {t : State} (ht : o.Works D N t) : o.Works D N t.judgeDeadlines :=
    ((ht.due _).foldl _ lateSlot _).ite ht
  have expiry {t : State} (ht : o.Works D N t) : o.Works D N t.judgeExpiry := by
    have expired : o.Works D N t.expireRecords := ht
    exact expired.ite ht
  exact expiry (deadlines (ages (sweep h)))

theorem judgePast (h : o.Works D N s) (free : ∀ d, (o.engine d).fault = false → D d ∧ N d) :
    o.Works D N s.judgePast :=
  (h.judgeAll.settle free).ite h

theorem searchMissed (h : o.Works D N s) (own : D d) (noted : N d) : o.Works D N (State.searchMissed d s) := by
  have counted (r : RecIx) : o.Works D N (s.countMiss d r) := by
    have t (f : Record → Record) := h.modRecord r f
    unfold State.countMiss
    dsimp only
    split
    · exact h
    · exact ((t _).operationFails own noted r _).ite ((((t _).modRecord r _).modEngine d).ite ((t _).modEngine d))
  unfold State.searchMissed
  split
  · exact h
  · exact (counted _).ite h

theorem verifyMissed (h : o.Works D N s) (own : D d) (noted : N d) : o.Works D N (State.verifyMissed d s) := by
  unfold State.verifyMissed
  split
  · exact h
  · exact (h.attemptFails own noted _ .verify).ite h

theorem formatPulse (h : o.Works D N s) (own : D d) : o.Works D N (s.formatPulse d) := by
  unfold State.formatPulse
  split
  · exact (h.formatCompletes own _).ite ((h.formatFails own _ .protect).ite ((h.modEngine d).modVolume d _))
  · exact h

end State.Works

end Sys2Proof.Machine
end

section
/-! SUPPORT. A drive that halts: what returning its operation and setting FAULT leave of it (R84, R89, R105). -/

namespace Sys2Proof.Machine

open Sys2Proof

section Halting

variable {s : State} {d : DriveIx}

/-! ## The operation goes back -/

/-- The bursts of a record that are withdrawn or stopped change the burst unit alone. -/
theorem State.bursts_stopped (s : State) (r : RecIx) :
    ∃ bs, (s.withdrawRecord r).stopCopyOut r = { s with bursts := bs } := by
  obtain ⟨bs, withdrawn, -⟩ := State.withdraw_joined { s with
    bursts := { s.bursts with behind := s.bursts.behind.filter fun q => decide (q.record ≠ r) } }
    fun u => decide (u.record = some r)
  obtain ⟨bs', stopped⟩ := (s.withdrawRecord r).stopCopyOut_bursts r
  rw [stopped, State.withdrawRecord, withdrawn]
  exact ⟨bs', rfl⟩

/-- Taken off its engine, the waits and the bursts, an operation leaves the engine at rest. -/
theorem State.engine_setAside (s : State) (d : DriveIx) (r : RecIx) :
    (s.setAside d r).engine d = (s.engine d).ended := by
  have ended : ({ s.endOperation d with bufWait := s.bufWait.filter (· ≠ d) } : State).engine d =
      (s.engine d).ended := s.engine_endOperation d
  have left := (State.Undisturbed.leaveChannel { s.endOperation d with bufWait := s.bufWait.filter (· ≠ d) }
    d).engine (congrArg Engine.current ended)
  unfold State.setAside
  generalize { s.endOperation d with bufWait := s.bufWait.filter (· ≠ d) }.leaveChannel d = u at left
  obtain ⟨bs, stopped⟩ := u.bursts_stopped r
  rw [stopped]
  exact left.trans ended

theorem State.returnEntry_frame (s : State) (q : Record) :
    ∃ ws p v, s.returnEntry q = { s with windows := ws, pool := p, events := v } := by
  unfold State.returnEntry
  split
  · next x _ _ =>
    obtain ⟨p, v, e⟩ := (s.modEntry x Entry.writeReturns).provide_frame x false
    exact ⟨_, p, v, e⟩
  all_goals exact ⟨_, _, _, rfl⟩

/-- An operation goes back: nothing, where the engine has no record; a detached one is freed (R104), any other
waits again (R102). -/
theorem State.returnRecord_split (s : State) (d : DriveIx) :
    (s.returnRecord d = s ∧ ∀ r, (s.engine d).current = some r → s.record? r = none) ∨
      ∃ r, s.returnRecord d = (s.setAside d r).freeRecord r ∨
        ∃ q, s.returnRecord d = (((s.setAside d r).modRecord r Record.returned).returnEntry q).handBuffers := by
  cases current : (s.engine d).current with
  | none => exact .inl ⟨by rw [State.returnRecord, current], nofun⟩
  | some r =>
    cases record : s.record? r with
    | none =>
      refine .inl ⟨by rw [State.returnRecord, current]; dsimp only; rw [record], fun r' same => ?_⟩
      rw [← Option.some.inj same, record]
    | some q =>
      refine .inr ⟨r, ?_⟩
      cases owned : q.detached with
      | true =>
        rw [State.returnRecord, current]
        dsimp only
        rw [record]
        exact .inl (if_pos owned)
      | false => exact .inr ⟨q, State.returnRecord_eq current record owned⟩

/-- An operation that goes back leaves its engine at rest. -/
theorem State.returnRecord_cases (s : State) (d : DriveIx) :
    (s.returnRecord d = s ∧ ∀ r, (s.engine d).current = some r → s.record? r = none) ∨
      (s.returnRecord d).engine d = (s.engine d).ended := by
  obtain lost | ⟨r, e | ⟨q, e⟩⟩ := s.returnRecord_split d
  · exact .inl lost
  · have rests := s.engine_setAside d r
    obtain ⟨engine, -⟩ := State.freeRecord_stands (congrArg Engine.current rests) r
    rw [e]
    exact .inr (engine.trans rests)
  · have rests : ((s.setAside d r).modRecord r Record.returned).engine d = (s.engine d).ended := s.engine_setAside d r
    obtain ⟨ws, p, v, back⟩ := ((s.setAside d r).modRecord r Record.returned).returnEntry_frame q
    have same : (((s.setAside d r).modRecord r Record.returned).returnEntry q).engine d = (s.engine d).ended := by
      rw [back]
      exact rests
    rw [e]
    exact .inr (((State.Undisturbed.handBuffers _).engine (congrArg Engine.current same)).trans same)

/-! ## A halting fault (R84) -/

/-- A halting fault changes the state of a halted engine, or the engine's operation goes back (R84, R102). -/
theorem State.engine_haltFault (s : State) (d : DriveIx) :
    (s.haltFault d).engine d = (s.engine d).faulted.ended ∨
      ∃ st, (s.haltFault d).engine d = { (s.engine d).faulted with state := st } := by
  have faulted : ((s.modEngine d Engine.faulted).raise .driveHalted).engine d = (s.engine d).faulted :=
    State.engine_modEngine_self s d Engine.faulted
  have returned : (((s.modEngine d Engine.faulted).raise .driveHalted).returnRecord d).engine d =
      (s.engine d).faulted.ended ∨
      ∃ st, (((s.modEngine d Engine.faulted).raise .driveHalted).returnRecord d).engine d =
        { (s.engine d).faulted with state := st } := by
    obtain ⟨e, -⟩ | e := ((s.modEngine d Engine.faulted).raise .driveHalted).returnRecord_cases d
    · exact .inr ⟨_, e ▸ faulted⟩
    · exact .inl (e.trans (congrArg Engine.ended faulted))
  have stopped : ∃ st, (((s.modEngine d Engine.faulted).raise .driveHalted).modEngine d
      fun e => { e with state := e.restState }).engine d = { (s.engine d).faulted with state := st } :=
    ⟨_, (State.engine_modEngine_self ..).trans
      (congrArg (fun e : Engine => { e with state := e.restState }) faulted)⟩
  rw [State.haltFault_eq]
  unfold State.stopForHold
  split
  · exact .inr stopped
  · exact .inr stopped
  · exact returned
  · exact returned
  · exact returned
  · exact .inr ⟨_, faulted⟩

/-- What a halting fault leaves: FAULT and DRIVE-HALTED are set, the cylinder and the last-fault record stand,
and an engine without an operation gets none. -/
theorem State.haltFault_spec (s : State) (d : DriveIx) :
    ((s.haltFault d).engine d).fault = true ∧ (s.haltFault d).events.raised .driveHalted = true ∧
      ((s.haltFault d).engine d).lastFault = (s.engine d).lastFault ∧
      ((s.haltFault d).engine d).cyl = (s.engine d).cyl ∧
      ((s.engine d).current = none → ((s.haltFault d).engine d).current = none) := by
  have raised : (s.haltFault d).events.raised .driveHalted = true := by
    have halts := (State.Works.refl_all ((s.modEngine d Engine.faulted).raise .driveHalted)).stopForHold (d := d)
      trivial
    exact halts.events _ (EventUnit.raised_raise _ _)
  obtain e | ⟨st, e⟩ := s.engine_haltFault d <;> rw [e]
  · exact ⟨rfl, raised, rfl, rfl, fun _ => rfl⟩
  · exact ⟨rfl, raised, rfl, rfl, id⟩

/-! ## The faults of a drive (R105) -/

/-- From `s`, in which a drive fault came about, to `t`: the engine of drive `d` is halted, its last-fault
record is filled, and an operation whose record is in use has gone back. -/
structure State.DriveFaulted (s : State) (d : DriveIx) (cause : Cause) (t : State) : Prop where
  fault : (t.engine d).fault = true
  halted : t.events.raised .driveHalted = true
  record : ∃ q, (t.engine d).lastFault = some q ∧ q.fault = cause ∧ q.outcome = .driveFault ∧
    q.time = s.clock.coarse ∧ q.kind = ((s.engine d).current.bind s.record?).map Record.kind
  idle : (∀ r, (s.engine d).current = some r → s.record? r ≠ none) → (t.engine d).current = none

/-- The last-fault record of a drive fault. -/
def State.faultNote (s : State) (d : DriveIx) (cause : Cause) : FaultRecord :=
  let q := (s.engine d).current.bind s.record?
  { fault := cause, outcome := .driveFault, kind := q.map (·.kind), cylinder := q.map (·.cylinder),
    side := q.map (·.side), sector := q.bind (·.sector), attempts := q.map (·.attempts),
    ref := q.bind (·.owner), time := s.clock.coarse }

/-- The fault is noted and the operation goes back. -/
def State.notedBack (s : State) (d : DriveIx) (cause : Cause) (event : Event) : State :=
  ((s.raise event).noteFault d cause .driveFault ((s.engine d).current.bind s.record?)).returnRecord d

theorem State.notedBack_spec (s : State) (d : DriveIx) (cause : Cause) (event : Event) :
    (s.notedBack d cause event).events.raised event = true ∧
      ((s.notedBack d cause event).engine d).lastFault = some (s.faultNote d cause) ∧
      ((∀ r, (s.engine d).current = some r → s.record? r ≠ none) →
        ((s.notedBack d cause event).engine d).current = none) := by
  have noted : ((s.raise event).noteFault d cause .driveFault ((s.engine d).current.bind s.record?)).engine d =
      { s.engine d with lastFault := some (s.faultNote d cause) } := State.engine_modEngine_self ..
  have grows := ((State.Works.refl_all ((s.raise event).noteFault d cause .driveFault
    ((s.engine d).current.bind s.record?))).returnRecord (d := d) trivial).events
  refine ⟨grows _ (EventUnit.raised_raise _ _), ?_⟩
  rw [State.notedBack]
  obtain ⟨e, lost⟩ | e := ((s.raise event).noteFault d cause .driveFault
    ((s.engine d).current.bind s.record?)).returnRecord_cases d <;> rw [e, noted]
  · refine ⟨rfl, fun kept => Option.eq_none_iff_forall_ne_some.mpr fun r current => kept r current (lost r ?_)⟩
    rw [noted]
    exact current
  · exact ⟨rfl, fun _ => rfl⟩

/-- A drive fault: once it is noted, and the operation gone, FAULT is set. -/
theorem State.DriveFaulted.of_halt {cause : Cause} {u : State}
    (noted : (u.engine d).lastFault = some (s.faultNote d cause))
    (idle : (∀ r, (s.engine d).current = some r → s.record? r ≠ none) → (u.engine d).current = none) :
    s.DriveFaulted d cause (u.haltFault d) := by
  obtain ⟨fault, halted, lastFault, -, rests⟩ := u.haltFault_spec d
  exact ⟨fault, halted, ⟨_, lastFault.trans noted, rfl, rfl, rfl, rfl⟩, fun kept => rests (idle kept)⟩

theorem State.speedFails_faulted (s : State) (d : DriveIx) :
    s.DriveFaulted d .speedFault (s.speedFails d) ∧ (s.speedFails d).events.raised .speedFault = true := by
  obtain ⟨raised, noted, idle⟩ := s.notedBack_spec d .speedFault .speedFault
  have halts := (State.Works.refl_all (s.notedBack d .speedFault .speedFault)).haltFault (d := d) trivial
  exact ⟨.of_halt noted idle, halts.events _ raised⟩

/-- The state in which a seek fault halts the drive: the fault is noted, and the engine has no operation (R86). -/
def State.seekStopped (s : State) (d : DriveIx) : State :=
  if (s.engine d).current = none then
    ((s.raise .seekFault).noteFault d .seekFault .driveFault ((s.engine d).current.bind s.record?)).endOperation d
  else s.notedBack d .seekFault .seekFault

theorem State.seekStopped_spec (s : State) (d : DriveIx) :
    (s.seekStopped d).events.raised .seekFault = true ∧
      ((s.seekStopped d).engine d).lastFault = some (s.faultNote d .seekFault) ∧
      ((∀ r, (s.engine d).current = some r → s.record? r ≠ none) →
        ((s.seekStopped d).engine d).current = none) := by
  unfold State.seekStopped
  split
  · have rests := State.engine_endOperation ((s.raise .seekFault).noteFault d .seekFault .driveFault
      ((s.engine d).current.bind s.record?)) d
    have noted : ((s.raise .seekFault).noteFault d .seekFault .driveFault
        ((s.engine d).current.bind s.record?)).engine d =
        { s.engine d with lastFault := some (s.faultNote d .seekFault) } := State.engine_modEngine_self ..
    rw [rests, noted]
    exact ⟨EventUnit.raised_raise _ _, rfl, fun _ => rfl⟩
  · exact s.notedBack_spec d .seekFault .seekFault

theorem State.seekFails_eq (due : (s.engine d).motion = .recal ∧ (s.engine d).track0 = false ∧
      80 ≤ (s.engine d).recalSteps) :
    State.seekFails d s = ((s.seekStopped d).modEngine d fun e => { e with cyl := none }).haltFault d := by
  obtain ⟨motion, unseen, steps⟩ := due
  have far : (s.engine d).motion = .recal ∧ !(s.engine d).track0 ∧ 80 ≤ (s.engine d).recalSteps :=
    ⟨motion, by simp [unseen], steps⟩
  rw [State.seekFails]
  exact if_pos far

/-- The seek fault of a recalibration: the cylinder is unknown besides (R86). -/
theorem State.seekFails_faulted (due : (s.engine d).motion = .recal ∧ (s.engine d).track0 = false ∧
      80 ≤ (s.engine d).recalSteps) :
    s.DriveFaulted d .seekFault (State.seekFails d s) ∧ (State.seekFails d s).events.raised .seekFault = true ∧
      ((State.seekFails d s).engine d).cyl = none := by
  obtain ⟨raised, noted, idle⟩ := s.seekStopped_spec d
  rw [State.seekFails_eq due]
  generalize s.seekStopped d = u at raised noted idle
  have unknown : (u.modEngine d fun e => { e with cyl := none }).engine d = { u.engine d with cyl := none } :=
    State.engine_modEngine_self ..
  have halts := (State.Works.refl_all (u.modEngine d fun e => { e with cyl := none })).haltFault (d := d) trivial
  obtain ⟨-, -, -, cyl, -⟩ := (u.modEngine d fun e => { e with cyl := none }).haltFault_spec d
  refine ⟨.of_halt ?_ fun kept => ?_, halts.events _ raised, cyl.trans (congrArg Engine.cyl unknown)⟩
  · rw [unknown]
    exact noted
  · rw [unknown]
    exact idle kept

end Halting

end Sys2Proof.Machine
end

section
/-! SUPPORT. Time without a long dip: its ticks and advances, what it leaves of engines, lost indexes (R1, R89). -/

namespace Sys2Proof.Machine

open Sys2Proof

/-! ## The relation -/

/-- An engine's gauge without the index-lost check, which time counts. -/
def Engine.measure (e : Engine) : Engine := { e.gauge with lostTimer := none }

/-- From `o` to `s` `n` ticks have passed with `k` advances among them and no long dip: an engine's measure of
the index stands, no event is lost, and a halted engine whose index-lost check rests is left alone. -/
structure State.Passed (n k : Nat) (o s : State) : Prop where
  power : s.power = o.power
  tick : s.clock.tick = o.clock.tick + BitVec.ofNat 16 n
  coarse : s.clock.coarse = o.clock.coarse + BitVec.ofNat 16 k
  count : s.clock.toCoarse + 10000 * k = o.clock.toCoarse + n
  events : o.events.Grows s.events
  measure : ∀ d, (s.engine d).measure = (o.engine d).measure
  rests : ∀ d, (o.engine d).fault = true → (o.engine d).lostTimer = none →
    (s.engine d).fault = true ∧ (s.engine d).lostTimer = none ∧ (o.engine d).Spared (s.engine d)

theorem Engine.lostTimer_of_gauge {e f : Engine} (h : f.gauge = e.gauge) : f.lostTimer = e.lostTimer := by
  have same : f.gauge.lostTimer = e.gauge.lostTimer := congrArg Engine.lostTimer h
  exact same

theorem Engine.measure_of_gauge {e f : Engine} (h : f.gauge = e.gauge) : f.measure = e.measure :=
  congrArg (fun g : Engine => { g with lostTimer := none }) h

/-- The engine of drive `d` is not halted by FAULT, and can take an operation. -/
def State.Free (s : State) (d : DriveIx) : Prop := (s.engine d).fault = false

theorem State.not_free {s : State} {d : DriveIx} (fault : (s.engine d).fault = true) : ¬s.Free d :=
  fun free => absurd (fault.symm.trans free) (by simp)

theorem State.settle_works (s : State) : s.Works s.Free s.Free s.settle :=
  (State.Works.refl s).settle fun _ free => ⟨free, free⟩

theorem State.judgePast_works (s : State) : s.Works s.Free s.Free s.judgePast :=
  (State.Works.refl s).judgePast fun _ free => ⟨free, free⟩

namespace State.Passed

variable {n k m j : Nat} {o s t : State}

theorem trans (h : o.Passed n k s) (g : s.Passed m j t) : o.Passed (n + m) (k + j) t where
  power := g.power.trans h.power
  tick := by rw [g.tick, h.tick, BitVec.ofNat_add, BitVec.add_assoc]
  coarse := by rw [g.coarse, h.coarse, BitVec.ofNat_add, BitVec.add_assoc]
  count := by have := h.count; have := g.count; omega
  events := h.events.trans g.events
  measure d := (g.measure d).trans (h.measure d)
  rests d fault none := by
    obtain ⟨fault', none', spared⟩ := h.rests d fault none
    obtain ⟨fault'', none'', spared'⟩ := g.rests d fault' none'
    exact ⟨fault'', none'', spared.trans spared'⟩

/-- The work of engines takes no time; a halted engine's operation is not among it. -/
theorem of_works {D N : DriveIx → Prop} (h : o.Works D N s)
    (out : ∀ d, (o.engine d).fault = true → (o.engine d).lostTimer = none → ¬D d ∧ ¬N d) :
    o.Passed 0 0 s where
  power := h.power
  tick := (congrArg Clock.tick h.hands).trans (BitVec.add_zero _).symm
  coarse := (congrArg Clock.coarse h.hands).trans (BitVec.add_zero _).symm
  count := by
    have same : s.clock.hands.toCoarse = o.clock.hands.toCoarse := congrArg Clock.toCoarse h.hands
    exact same
  events := h.events
  measure d := Engine.measure_of_gauge (h.gauge d)
  rests d fault none := by
    obtain ⟨own, noted⟩ := out d fault none
    exact ⟨h.fault fault, (Engine.lostTimer_of_gauge (h.gauge d)).trans none, h.current own, h.lastFault noted⟩

theorem passTicks (on : s.power ≠ .off) (n : Nat) : s.Passed n 0 (s.passTicks n) where
  power := s.passTicks_power n
  tick := congrArg Clock.tick (State.passTicks_clock n on)
  coarse := (congrArg Clock.coarse (State.passTicks_clock n on)).trans (BitVec.add_zero _).symm
  count := congrArg Clock.toCoarse (State.passTicks_clock n on)
  events := by rw [State.passTicks_events]; exact .refl _
  measure d := by rw [State.passTicks_engine n d on]; rfl
  rests d fault none := by
    rw [State.passTicks_engine n d on]
    exact ⟨fault, congrArg (Option.map _) none, rfl, rfl⟩

/-- The judgements of the advance before, and what follows them, leave held engines alone. -/
theorem judgePast (s : State) : s.Passed 0 0 s.judgePast :=
  of_works s.judgePast_works fun _ fault _ => ⟨State.not_free fault, State.not_free fault⟩

end State.Passed

/-- The engine of drive `d` stops its index-lost check, and it and those without FAULT are the ones that work. -/
theorem State.indexGone_works (s : State) (d : DriveIx) :
    (s.modEngine d fun e => { e with lostTimer := none }).Works (fun x => x = d ∨ s.Free x)
      (fun x => x = d ∨ s.Free x) (s.indexGone d) := by
  refine ((State.Works.refl _).speedFails (.inl rfl) (.inl rfl)).settle fun x free => ?_
  have works : x = d ∨ s.Free x := by
    by_cases same : x = d
    · exact .inl same
    · rw [State.modEngine_eq, State.engine_setEngine_other _ _ same] at free
      exact .inr free
  exact ⟨works, works⟩

/-- The index-lost checks after drive `d` has lost its index: its own rests, the others stand. -/
theorem State.indexGone_lostTimer (s : State) (d x : DriveIx) :
    ((s.indexGone d).engine x).lostTimer = if x = d then none else (s.engine x).lostTimer := by
  rw [Engine.lostTimer_of_gauge ((s.indexGone_works d).gauge x), State.modEngine_eq, State.engine_setEngine]
  split <;> rfl

/-- A lost index is no tick of its own; a halted drive whose check rests does not lose it. -/
theorem State.Passed.indexGone {s : State} {d : DriveIx} {a : Nat} (runs : (s.engine d).lostTimer = some a) :
    s.Passed 0 0 (s.indexGone d) := by
  have works := s.indexGone_works d
  have other {x : DriveIx} (apart : x ≠ d) :
      (s.modEngine d fun e => { e with lostTimer := none }).engine x = s.engine x := by
    rw [State.modEngine_eq, State.engine_setEngine_other _ _ apart]
  refine ⟨works.power, (congrArg Clock.tick works.hands).trans (BitVec.add_zero _).symm,
    (congrArg Clock.coarse works.hands).trans (BitVec.add_zero _).symm, ?_, works.events, fun x => ?_,
    fun x fault none => ?_⟩
  · have same : (s.indexGone d).clock.hands.toCoarse = s.clock.hands.toCoarse := congrArg Clock.toCoarse works.hands
    exact same
  · rw [Engine.measure_of_gauge (works.gauge x)]
    by_cases same : x = d
    · rw [same, State.engine_modEngine_self]
      rfl
    · rw [other same]
  · have apart : x ≠ d := fun same => by rw [same, runs] at none; cases none
    have out : ¬(x = d ∨ s.Free x) := not_or.mpr ⟨apart, State.not_free fault⟩
    refine ⟨works.fault (by rw [other apart]; exact fault), ?_, (works.current out).trans ?_,
      (works.lastFault out).trans ?_⟩
    · rw [State.indexGone_lostTimer, if_neg apart, none]
    · rw [other apart]
    · rw [other apart]

/-- The advance that ends 10,000 ticks (R1). -/
theorem State.Passed.coarseMoment {s : State} (on : s.power ≠ .off) (full : 10000 ≤ s.clock.toCoarse) :
    s.Passed 0 1 s.coarseMoment := by
  have counted : s.Passed 0 1 s.countCoarse :=
    ⟨rfl, (BitVec.add_zero _).symm, rfl, Nat.sub_add_cancel full, .refl _, fun _ => rfl,
      fun _ fault none => ⟨fault, none, rfl, rfl⟩⟩
  have swept : s.Passed 0 1 s.countCoarse.sweepTick := by
    obtain ⟨-, e⟩ | ⟨-, -, e⟩ | ⟨-, -, e⟩ := s.countCoarse.sweepTick_cases <;> rw [e]
    · exact counted
    · obtain ⟨power, tick, coarse, count, events, measure, rests⟩ := counted
      exact ⟨power, tick, coarse, count, events, measure, rests⟩
    · obtain ⟨power, tick, coarse, count, events, measure, rests⟩ := counted
      exact ⟨power, tick, coarse, count, events, measure, rests⟩
  obtain ⟨off, -⟩ | ⟨-, e⟩ | ⟨-, e⟩ := s.coarseMoment_cases
  · exact absurd off on
  · rw [e]
    exact counted
  · rw [e]
    obtain ⟨power, tick, coarse, count, events, measure, rests⟩ := swept
    exact ⟨power, tick, coarse, count, events, measure, rests⟩

theorem State.coarseMoment_engines (s : State) : s.coarseMoment.engines = s.engines := by
  have swept (t : State) : t.sweepTick.engines = t.engines := by
    obtain ⟨-, e⟩ | ⟨-, -, e⟩ | ⟨-, -, e⟩ := t.sweepTick_cases <;> rw [e]
  obtain ⟨-, e⟩ | ⟨-, e⟩ | ⟨-, e⟩ := s.coarseMoment_cases <;> rw [e]
  · rfl
  · exact swept s.countCoarse

/-! ## The drive that loses its index next -/

section Lost

variable {s : State} {d x : DriveIx} {a k n m limit : Nat}

/-- The better of the drives found so far and drive `d`: it loses its index sooner (log 5). -/
def State.sooner (s : State) (limit : Nat) (best : Option (DriveIx × Nat)) (d : DriveIx) : Option (DriveIx × Nat) :=
  match (s.engine d).lostTimer with
  | none => best
  | some n =>
    if 36800 - n < (match best with
      | some (_, m) => m
      | none => limit)
    then some (d, 36800 - n) else best

theorem State.nextLost?_eq (running : s.power = .running) (limit : Nat) :
    s.nextLost? limit = allDrives.foldl (s.sooner limit) none := if_pos running

/-- The ticks to the moment found so far. -/
def momentOf (limit : Nat) (best : Option (DriveIx × Nat)) : Nat := (best.map Prod.snd).getD limit

theorem State.sooner_cases (s : State) (limit : Nat) (best : Option (DriveIx × Nat)) (d : DriveIx) :
    (s.sooner limit best d = best ∧ ∀ a, (s.engine d).lostTimer = some a → momentOf limit best ≤ 36800 - a) ∨
      ∃ a, (s.engine d).lostTimer = some a ∧ 36800 - a < momentOf limit best ∧
        s.sooner limit best d = some (d, 36800 - a) := by
  unfold State.sooner
  cases (s.engine d).lostTimer with
  | none => exact .inl ⟨rfl, nofun⟩
  | some a =>
    have moment : (match best with
        | some (_, m) => m
        | none => limit) = momentOf limit best := by cases best <;> rfl
    dsimp only
    rw [moment]
    split
    · next less => exact .inr ⟨a, rfl, less, rfl⟩
    · next late => exact .inl ⟨rfl, fun b same => by cases same; omega⟩

theorem State.foldl_sooner (s : State) (limit : Nat) (l : List DriveIx) (best : Option (DriveIx × Nat)) :
    momentOf limit (l.foldl (s.sooner limit) best) ≤ momentOf limit best ∧
      (∀ d ∈ l, ∀ a, (s.engine d).lostTimer = some a →
        momentOf limit (l.foldl (s.sooner limit) best) ≤ 36800 - a) ∧
      (l.foldl (s.sooner limit) best = best ∨ ∃ d a, (s.engine d).lostTimer = some a ∧
        l.foldl (s.sooner limit) best = some (d, 36800 - a)) := by
  induction l generalizing best with
  | nil => exact ⟨Nat.le_refl _, nofun, .inl rfl⟩
  | cons d l ih =>
    obtain ⟨early, all, found⟩ := ih (s.sooner limit best d)
    rw [List.foldl_cons]
    obtain ⟨same, late⟩ | ⟨a, runs, less, next⟩ := s.sooner_cases limit best d
    · rw [same] at early all found ⊢
      exact ⟨early, List.forall_mem_cons.mpr ⟨fun a runs => early.trans (late a runs), all⟩, found⟩
    · rw [next] at early all found ⊢
      have here : momentOf limit (some (d, 36800 - a)) = 36800 - a := rfl
      refine ⟨by omega, List.forall_mem_cons.mpr ⟨fun b same => ?_, all⟩, .inr ?_⟩
      · rw [runs] at same
        cases same
        omega
      · exact found.elim (fun e => ⟨d, a, runs, e⟩) id

theorem State.nextLost?_some (next : s.nextLost? limit = some (x, m)) :
    (∃ b, (s.engine x).lostTimer = some b ∧ m = 36800 - b) ∧
      ∀ d a, (s.engine d).lostTimer = some a → m ≤ 36800 - a := by
  have running : s.power = .running := by
    by_contra off
    rw [State.nextLost?, if_neg off] at next
    cases next
  obtain ⟨-, all, found⟩ := s.foldl_sooner limit allDrives none
  rw [← State.nextLost?_eq running, next] at all found
  refine ⟨?_, fun d a runs => all d (mem_allDrives d) a runs⟩
  obtain none | ⟨d, b, runs, same⟩ := found
  · cases none
  · cases same
    exact ⟨b, runs, rfl⟩

theorem State.nextLost?_none (running : s.power = .running) (next : s.nextLost? limit = none)
    (runs : (s.engine d).lostTimer = some a) : limit ≤ 36800 - a := by
  obtain ⟨-, all, -⟩ := s.foldl_sooner limit allDrives none
  rw [← State.nextLost?_eq running, next] at all
  exact all d (mem_allDrives d) a runs

/-! ## Ticks with lost indexes among them -/

theorem State.lostTimer_passTicks (on : s.power ≠ .off) (n : Nat) (d : DriveIx) :
    ((s.passTicks n).engine d).lostTimer = (s.engine d).lostTimer.map fun t => min (t + n) 36800 := by
  rw [State.passTicks_engine n d on]
  rfl

/-- Up to the next lost index, and it. -/
theorem State.Passed.toLost (on : s.power ≠ .off) (next : s.nextLost? limit = some (x, m)) :
    s.Passed m 0 ((s.passTicks m).indexGone x) := by
  obtain ⟨⟨b, runs, -⟩, -⟩ := State.nextLost?_some next
  exact (State.Passed.passTicks on m).trans
    (.indexGone (a := min (b + m) 36800) (by rw [State.lostTimer_passTicks on, runs]; rfl))

theorem State.Passed.passLost (on : s.power ≠ .off) (k : Nat) (within : limit ≤ n + 1) :
    s.Passed n 0 (s.passLost k n limit) := by
  induction k generalizing s n limit with
  | zero => exact .passTicks on n
  | succ k ih =>
    rw [State.passLost]
    split
    · exact .passTicks on n
    · next x m next =>
      have sooner := State.nextLost?_lt next
      have lost := State.Passed.toLost on next
      have rest := lost.trans (ih (s := (s.passTicks m).indexGone x) (by rw [lost.power]; exact on)
        (show limit - m ≤ n - m + 1 by omega))
      rwa [show m + (n - m) = n by omega] at rest

/-- `k` advances among `n` ticks that bring as many (R1). -/
theorem State.Passed.passAdvances (on : s.power ≠ .off) (k : Nat) (enough : 10000 * k ≤ s.clock.toCoarse + n) :
    s.Passed n k (s.passAdvances k n) := by
  induction k generalizing s n with
  | zero => exact .passLost on 4 (Nat.le_refl _)
  | succ k ih =>
    obtain ⟨m, lacking⟩ : ∃ m, m = 10000 - s.clock.toCoarse := ⟨_, rfl⟩
    have judged := State.Passed.judgePast s
    have passed := judged.trans (State.Passed.passLost (n := m) (by rw [judged.power]; exact on) 4 (Nat.le_succ m))
    have count := passed.count
    have still : (s.judgePast.passLost 4 m m).power ≠ .off := by rw [passed.power]; exact on
    have advanced := passed.trans (State.Passed.coarseMoment still (by omega))
    have count' := advanced.count
    have rest := advanced.trans (ih (n := n - m) (by rw [advanced.power]; exact on) (by omega))
    rw [State.passAdvances, ← lacking]
    rwa [show 0 + m + 0 + (n - m) = n by omega, show 0 + 0 + 1 + k = k + 1 by omega] at rest

theorem State.Passed.passClocks (on : s.power ≠ .off) (n : Nat) :
    s.Passed n ((s.clock.toCoarse + n) / 10000) (s.passClocks n) := by
  rw [State.passClocks, if_neg on]
  exact .passAdvances on _ (Nat.mul_div_le _ _)

/-! ## The drive whose index is lost (R89) -/

/-- The engine of drive `d` is halted for an index lost at coarse time `c`, and its check rests. -/
structure State.IndexFaulted (d : DriveIx) (c : Coarse) (s : State) : Prop where
  fault : (s.engine d).fault = true
  rests : (s.engine d).lostTimer = none
  record : ∃ q, (s.engine d).lastFault = some q ∧ q.fault = .speedFault ∧ q.outcome = .driveFault ∧ q.time = c
  speed : s.events.raised .speedFault = true
  halted : s.events.raised .driveHalted = true

theorem State.IndexFaulted.passed {t : State} {c : Coarse} (h : s.IndexFaulted d c) (g : s.Passed n k t) :
    t.IndexFaulted d c := by
  obtain ⟨fault, rests, record, speed, halted⟩ := h
  obtain ⟨fault', rests', -, lastFault⟩ := g.rests d fault rests
  exact ⟨fault', rests', lastFault ▸ record, g.events _ speed, g.events _ halted⟩

/-- What an index lost leaves, once what follows at once has come about. -/
theorem State.indexGone_spec (s : State) (d : DriveIx) :
    (s.indexGone d).IndexFaulted d s.clock.coarse ∧
      (∃ q, ((s.indexGone d).engine d).lastFault = some q ∧
        q.kind = ((s.engine d).current.bind s.record?).map Record.kind) ∧
      ((∀ r, (s.engine d).current = some r → s.record? r ≠ none) → ((s.indexGone d).engine d).current = none) := by
  have stopped : (s.modEngine d fun e => { e with lostTimer := none }).engine d =
      { s.engine d with lostTimer := none } := State.engine_modEngine_self ..
  obtain ⟨⟨fault, halted, ⟨q, noted, cause, outcome, time, kind⟩, idle⟩, speed⟩ :=
    (s.modEngine d fun e => { e with lostTimer := none }).speedFails_faulted d
  rw [stopped] at kind idle
  have settled := ((s.modEngine d fun e => { e with lostTimer := none }).speedFails d).settle_works
  have current := settled.current (State.not_free fault)
  have lastFault := settled.lastFault (State.not_free fault)
  have noted' := lastFault.trans noted
  refine ⟨⟨settled.fault fault, ?_, ⟨q, noted', cause, outcome, time⟩, settled.events _ speed,
    settled.events _ halted⟩, ⟨q, noted', kind⟩, fun kept => current.trans (idle kept)⟩
  rw [State.indexGone_lostTimer, if_pos rfl]

/-- The drives whose index-lost check runs. -/
def State.timed (s : State) : Finset DriveIx := Finset.univ.filter fun d => (s.engine d).lostTimer.isSome

theorem State.timed_toLost (on : s.power ≠ .off) (next : s.nextLost? limit = some (x, m)) :
    ((s.passTicks m).indexGone x).timed.card < s.timed.card := by
  obtain ⟨⟨b, runs, -⟩, -⟩ := State.nextLost?_some next
  refine Finset.card_lt_card (Finset.ssubset_iff_of_subset (fun d => ?_) |>.mpr ⟨x, ?_, ?_⟩)
  all_goals simp only [State.timed, Finset.mem_filter, Finset.mem_univ, true_and, State.indexGone_lostTimer,
    State.lostTimer_passTicks on]
  · split
    · exact nofun
    · rw [Option.isSome_map]
      exact id
  · rw [runs]
    rfl
  · simp

/-- A drive that does not lose its index within the limit counts the ticks alone. -/
theorem State.passLost_spares (running : s.power = .running) (k : Nat) (within : limit ≤ n + 1)
    (runs : (s.engine d).lostTimer = some a) (late : limit ≤ 36800 - a) :
    ((s.passLost k n limit).engine d).lostTimer = some (min (a + n) 36800) := by
  have on : s.power ≠ .off := by rw [running]; exact nofun
  have ticks : ((s.passTicks n).engine d).lostTimer = some (min (a + n) 36800) := by
    rw [State.lostTimer_passTicks on, runs]
    rfl
  induction k generalizing s n limit a with
  | zero => exact ticks
  | succ k ih =>
    rw [State.passLost]
    split
    · exact ticks
    · next x m next =>
      have sooner := State.nextLost?_lt next
      obtain ⟨⟨b, other, moment⟩, -⟩ := State.nextLost?_some next
      have apart : d ≠ x := fun same => by
        rw [same, other] at runs
        cases runs
        omega
      have running' : ((s.passTicks m).indexGone x).power = .running :=
        (State.Passed.toLost on next).power.trans running
      have on' : ((s.passTicks m).indexGone x).power ≠ .off := by rw [running']; exact nofun
      have runs' : (((s.passTicks m).indexGone x).engine d).lostTimer = some (min (a + m) 36800) := by
        rw [State.indexGone_lostTimer, if_neg apart, State.lostTimer_passTicks on, runs]
        rfl
      have rest := ih running' (n := n - m) (limit := limit - m) (by omega) runs' (by omega) on'
        (by rw [State.lostTimer_passTicks on', runs']; rfl)
      rwa [show min (min (a + m) 36800 + (n - m)) 36800 = min (a + n) 36800 by omega] at rest

/-- A drive that loses its index within the limit is halted at the coarse time of these ticks. -/
theorem State.passLost_faults (running : s.power = .running) (within : limit ≤ n + 1)
    (runs : (s.engine d).lostTimer = some a) (soon : 36800 - a < limit) (rounds : s.timed.card ≤ k) :
    (s.passLost k n limit).IndexFaulted d s.clock.coarse := by
  have on : s.power ≠ .off := by rw [running]; exact nofun
  induction k generalizing s n limit a with
  | zero =>
    have timed : d ∈ s.timed := by simp [State.timed, runs]
    exact absurd (Finset.card_pos.mpr ⟨d, timed⟩) (by omega)
  | succ k ih =>
    rw [State.passLost]
    split
    · next next => exact absurd (State.nextLost?_none running next runs) (by omega)
    · next x m next =>
      have sooner := State.nextLost?_lt next
      obtain ⟨-, first⟩ := State.nextLost?_some next
      have early := first d a runs
      have passed := State.Passed.toLost on next
      have running' : ((s.passTicks m).indexGone x).power = .running := passed.power.trans running
      have on' : ((s.passTicks m).indexGone x).power ≠ .off := by rw [running']; exact nofun
      have coarse : ((s.passTicks m).indexGone x).clock.coarse = s.clock.coarse :=
        passed.coarse.trans (BitVec.add_zero _)
      by_cases same : d = x
      · subst same
        obtain ⟨faulted, -⟩ := (s.passTicks m).indexGone_spec d
        rw [State.passTicks_clock m on] at faulted
        exact faulted.passed (.passLost on' k (show limit - m ≤ n - m + 1 by omega))
      · have runs' : (((s.passTicks m).indexGone x).engine d).lostTimer = some (min (a + m) 36800) := by
          rw [State.indexGone_lostTimer, if_neg same, State.lostTimer_passTicks on, runs]
          rfl
        have fewer := State.timed_toLost on next
        rw [← coarse]
        exact ih running' (by omega) runs' (by omega) (by omega) on'

theorem State.timed_card (s : State) : s.timed.card ≤ 4 := Finset.card_le_univ _

/-- A drive whose index is lost among the ticks is halted; where that is at the last of them, at the coarse
time after them all, since an advance comes before an index lost at its tick (log 5). -/
theorem State.passAdvances_faults (running : s.power = .running) (k : Nat)
    (enough : 10000 * k ≤ s.clock.toCoarse + n) (runs : (s.engine d).lostTimer = some a) (lost : 36800 ≤ a + n) :
    ∃ c, (s.passAdvances k n).IndexFaulted d c ∧ (36800 - a = n → c = (s.passAdvances k n).clock.coarse) := by
  have on : s.power ≠ .off := by rw [running]; exact nofun
  induction k generalizing s n a with
  | zero =>
    have passed := State.Passed.passLost (n := n) on 4 (Nat.le_refl (n + 1))
    exact ⟨_, State.passLost_faults running (Nat.le_refl _) runs (by omega) s.timed_card,
      fun _ => (passed.coarse.trans (BitVec.add_zero _)).symm⟩
  | succ k ih =>
    obtain ⟨m, lacking⟩ : ∃ m, m = 10000 - s.clock.toCoarse := ⟨_, rfl⟩
    have judged := State.Passed.judgePast s
    have running' : s.judgePast.power = .running := judged.power.trans running
    have works := s.judgePast_works
    have runs' : (s.judgePast.engine d).lostTimer = some a :=
      (Engine.lostTimer_of_gauge (works.gauge d)).trans runs
    have passed := judged.trans (State.Passed.passLost (n := m) (by rw [judged.power]; exact on) 4 (Nat.le_succ m))
    have count := passed.count
    have still : (s.judgePast.passLost 4 m m).power ≠ .off := by rw [passed.power]; exact on
    have moment := State.Passed.coarseMoment still (by omega)
    have advanced := passed.trans moment
    have count' := advanced.count
    have on' : (s.judgePast.passLost 4 m m).coarseMoment.power ≠ .off := by rw [advanced.power]; exact on
    rw [State.passAdvances, ← lacking]
    by_cases soon : 36800 - a < m
    · have faulted := State.passLost_faults running' (Nat.le_succ m) runs' soon s.judgePast.timed_card
      exact ⟨_, (faulted.passed moment).passed (.passAdvances on' k (by omega)), by omega⟩
    · have spared := State.passLost_spares running' 4 (Nat.le_succ m) runs' (by omega)
      have engines := (s.judgePast.passLost 4 m m).coarseMoment_engines
      obtain ⟨c, faulted, time⟩ := ih (n := n - m) (advanced.power.trans running) (by omega)
        ((congrArg Engine.lostTimer (State.engine_congr engines d)).trans spared) (by omega) on'
      exact ⟨c, faulted, fun last => time (by omega)⟩

end Lost

end Sys2Proof.Machine
end

section
/-! SUPPORT. Index pulses, with what is due and a long dip before them (R88, R89, R157): O39. -/

namespace Sys2Proof.Machine

open Sys2Proof

/-! ## A long dip among the ticks (R157) -/

/-- In a reset no fault comes about: the engines only count ticks. -/
theorem State.Resetting.fault {s : State} (h : s.Resetting) (n : Nat) (d : DriveIx) :
    ((s.passClocks n).engine d).fault = (s.engine d).fault := by
  have ticks {t : State} (ht : t.Resetting) (k m limit : Nat) :
      t.passLost k m limit = t.passTicks m ∧ ((t.passTicks m).engine d).fault = (t.engine d).fault := by
    refine ⟨State.passLost_none k m limit (if_neg ht.not_running), ?_⟩
    rw [State.passTicks_engine m d ht.not_off]
    rfl
  have advances (k : Nat) {t : State} (ht : t.Resetting) (m : Nat) :
      ((t.passAdvances k m).engine d).fault = (t.engine d).fault := by
    induction k generalizing t m with
    | zero =>
      obtain ⟨same, fault⟩ := ticks ht 4 m (m + 1)
      rw [State.passAdvances, same, fault]
    | succ k ih =>
      obtain ⟨same, fault⟩ := ticks ht 4 (10000 - t.clock.toCoarse) (10000 - t.clock.toCoarse)
      have judged : t.judgePast = t := if_neg ht.not_running
      have advanced := ht.clocked (ht.advance (10000 - t.clock.toCoarse) (10000 - t.clock.toCoarse))
      rw [State.passAdvances, ih advanced, State.engine_congr (State.coarseMoment_engines _), judged, same, fault]
  rw [State.passClocks, if_neg h.not_off, advances _ h]

theorem Engine.measure_fields {e f : Engine} (h : f.measure = e.measure) :
    f.newer = e.newer ∧ f.older = e.older ∧ f.period = e.period ∧ f.bad = e.bad ∧ f.ready = e.ready := by
  simp only [Engine.measure, Engine.gauge, Engine.reset, Engine.mk.injEq] at h
  simp_all

/-- A long dip among `n` ticks: its warm reset is in force after them (R157, R158). -/
theorem State.passTime_dipped {s : State} {n k : Nat} (dip : s.longDipIn? n = some k) :
    (∃ raised, s.longDipTo (s.passTime n) raised) ∧
      (s.passTime n).clock.tick = s.clock.tick + BitVec.ofNat 16 n ∧ (s.passTime n).events = EventUnit.reset ∧
      (s.passTime n).power ≠ .running ∧ ∀ d, ((s.passTime n).engine d).newer = none ∧
        ((s.passTime n).engine d).ready = (s.engine d).ready ∧ ((s.passTime n).engine d).fault = false := by
  obtain ⟨running, t, timer, -, less⟩ := State.longDipIn?_eq_some.mp dip
  have on : s.power ≠ .off := by rw [running]; exact nofun
  have resetting := (s.passClocks k).warmReset_resetting .longDip
  have before := State.Passed.passClocks on k
  have after := State.Passed.passClocks resetting.not_off (n - k)
  have split : s.passTime n = ((s.passClocks k).warmReset .longDip).passClocks (n - k) := by
    rw [State.passTime, State.acrossDip, dip]
  obtain ⟨clock, engines, clocked⟩ := State.passTime_dip dip
  refine ⟨⟨_, running, by rw [timer]; exact nofun, congrArg State.power clocked,
    (congrArg (·.store.cause) clocked).trans (State.recorded_cause _ .longDip _)⟩, ?_, congrArg State.events clocked,
    by rw [clocked]; exact nofun, fun d => ?_⟩
  · have tick : ((s.passClocks k).warmReset .longDip).clock.tick = s.clock.tick + BitVec.ofNat 16 k := before.tick
    rw [split, after.tick, tick, BitVec.add_assoc, ← BitVec.ofNat_add, Nat.add_sub_cancel' (Nat.le_of_lt less)]
  · obtain ⟨newer, -, -, -, ready⟩ := Engine.measure_fields (after.measure d)
    obtain ⟨-, -, -, -, ready'⟩ := Engine.measure_fields (before.measure d)
    have fault := resetting.fault (n - k) d
    rw [State.warmReset_engine] at newer ready fault
    rw [split]
    exact ⟨newer, ready.trans ready', fault⟩

/-- Without a long dip among them, ticks pass as the clocks say. -/
theorem State.passTime_calm {s : State} {n : Nat} (calm : s.longDipIn? n = none) : s.passTime n = s.passClocks n := by
  rw [State.passTime, State.acrossDip, calm]

/-! ## What the earlier pulses have made due (log 3) -/

section Pulse

variable {s : State} {d : DriveIx}

/-- The engine whose bad-period count a SPEED-FAULT that is due sets back to 0 (R89). -/
def State.countedBack (s : State) (d : DriveIx) : State :=
  if 3 ≤ (s.engine d).bad then s.modEngine d fun e => { e with bad := 0 } else s

theorem State.countedBack_spec (s : State) (d : DriveIx) :
    (s.countedBack d).steady = s.steady ∧ s.events.Grows (s.countedBack d).events ∧
      ((s.engine d).bad < 3 → s.countedBack d = s) ∧
      ∃ b, (s.countedBack d).engine d = { s.engine d with bad := b } := by
  unfold State.countedBack
  split
  · next three => exact ⟨rfl, .refl _, fun less => by omega, 0, State.engine_modEngine_self ..⟩
  · exact ⟨rfl, .refl _, fun _ => rfl, _, rfl⟩

theorem State.takeDue_works (s : State) (d : DriveIx) :
    (s.countedBack d).Works (fun _ => True) (fun _ => True) (State.takeDue d s) := by
  have faulted : (s.countedBack d).Works (fun _ => True) (fun _ => True) (State.badPeriods d s) := by
    unfold State.countedBack State.badPeriods
    split
    · exact (State.Works.refl _).speedFails trivial trivial
    · exact .refl _
  have unloaded {t : State} (ht : (s.countedBack d).Works (fun _ => True) (fun _ => True) t) :
      (s.countedBack d).Works (fun _ => True) (fun _ => True) (State.unloadHeads d t) :=
    (ht.modEngine d (f := fun e => { e with loaded := false })).ite ht
  exact unloaded ((faulted.searchMissed trivial trivial).verifyMissed trivial trivial)

theorem State.takeDue_steady (s : State) (d : DriveIx) : (State.takeDue d s).steady = s.steady := by
  have faulted (t : State) : (State.badPeriods d t).steady = t.steady := by
    unfold State.badPeriods
    split <;> simp
  have missed (t : State) : (State.searchMissed d t).steady = t.steady := by
    unfold State.searchMissed State.countMiss
    dsimp only
    (repeat' split) <;> simp
  have unverified (t : State) : (State.verifyMissed d t).steady = t.steady := by
    unfold State.verifyMissed
    dsimp only
    (repeat' split) <;> simp
  have unloaded (t : State) : (State.unloadHeads d t).steady = t.steady := by
    unfold State.unloadHeads
    dsimp only
    split <;> simp
  rw [State.takeDue, unloaded, unverified, missed, faulted]

/-- The state in which the ticks before an index pulse begin to pass. -/
def State.dueTaken (s : State) (d : DriveIx) : State := s.perform (State.takeDue d)

/-- What is due comes about first: no time passes, and of the drive's measure only its bad periods can change. -/
theorem State.dueTaken_spec (running : s.power = .running) (d : DriveIx) :
    (s.dueTaken d).steady = s.steady ∧ ∃ b, ((s.engine d).bad < 3 → b = (s.engine d).bad) ∧
      ((s.dueTaken d).engine d).gauge = { (s.engine d).gauge with bad := b } := by
  obtain ⟨-, -, unchanged, b, engine⟩ := s.countedBack_spec d
  have works := (s.takeDue_works d).settle fun _ _ => ⟨trivial, trivial⟩
  rw [State.dueTaken, State.perform_of_running running]
  refine ⟨(State.takeDue d s).settle_steady.trans (s.takeDue_steady d), b, fun less => ?_, ?_⟩
  · rw [unchanged less] at engine
    exact (congrArg Engine.bad engine).symm
  · rw [works.gauge d, engine]
    rfl

theorem State.longDipIn?_of_steady {s t : State} (h : t.steady = s.steady) (n : Nat) :
    t.longDipIn? n = s.longDipIn? n := by
  have power : t.power = s.power := State.power_of_steady h
  have store : t.store = s.store := congrArg Steady.store h
  unfold State.longDipIn?
  rw [power, store]

/-! ## The pulse (R88) -/

/-- A captured pulse: the check begins afresh, and an interval is taken as the period or counted as bad. -/
theorem Engine.capture_spec (now : Tick) (e : Engine) :
    (e.capture now).newer = some now ∧ (e.capture now).older = e.newer ∧ (e.capture now).lostTimer = some 0 ∧
      (e.newer = none → (e.capture now).period = e.period) ∧
      ∀ before, e.newer = some before →
        (15000 ≤ since now before ∧ since now before ≤ 18400 →
          (e.capture now).period = since now before ∧ (e.capture now).bad = 0) ∧
        (¬(15000 ≤ since now before ∧ since now before ≤ 18400) →
          (e.capture now).period = e.period ∧ (e.capture now).bad = min 3 (e.bad + 1)) := by
  have good (n : Nat) : intervalGood n = true ↔ 15000 ≤ n ∧ n ≤ 18400 := by simp [intervalGood]
  unfold Engine.capture
  cases e.newer with
  | none => exact ⟨rfl, rfl, rfl, fun _ => rfl, nofun⟩
  | some before =>
    dsimp only
    split
    · next fits =>
      refine ⟨rfl, rfl, rfl, nofun, fun b same => ?_⟩
      cases same
      exact ⟨fun _ => ⟨rfl, rfl⟩, fun bad => absurd ((good _).mp fits) bad⟩
    · next misfits =>
      refine ⟨rfl, rfl, rfl, nofun, fun b same => ?_⟩
      cases same
      exact ⟨fun fits => absurd ((good _).mpr fits) misfits, fun _ => ⟨rfl, rfl⟩⟩

/-- A pulse changes neither FAULT nor the last-fault record. -/
theorem Engine.counted_noted (now : Tick) (e : Engine) :
    (e.capture now).countPulse.fault = e.fault ∧ (e.capture now).countPulse.lastFault = e.lastFault := by
  have captured : (e.capture now).fault = e.fault ∧ (e.capture now).lastFault = e.lastFault := by
    unfold Engine.capture
    dsimp only
    (repeat' split) <;> exact ⟨rfl, rfl⟩
  unfold Engine.countPulse
  (repeat' split) <;> exact captured

theorem Engine.countPulse_gauge (e : Engine) : e.countPulse.gauge = e.gauge := by
  unfold Engine.countPulse
  (repeat' split) <;> rfl

/-- The engine of drive `d` captures a pulse and counts it, where the drive is ready. -/
def State.captured (s : State) (d : DriveIx) : State :=
  if (s.engine d).ready then s.modEngine d fun e => (e.capture s.clock.tick).countPulse else s

theorem State.captured_spec (s : State) (d : DriveIx) :
    (s.captured d).clock = s.clock ∧ (s.captured d).events = s.events ∧
      (∀ x, ((s.captured d).engine x).fault = (s.engine x).fault) ∧
      ((s.captured d).engine d).lastFault = (s.engine d).lastFault ∧
      ((s.captured d).engine d).gauge =
        if (s.engine d).ready then ((s.engine d).capture s.clock.tick).gauge else (s.engine d).gauge := by
  unfold State.captured
  split
  · obtain ⟨fault, lastFault⟩ := (s.engine d).counted_noted s.clock.tick
    refine ⟨rfl, rfl, fun x => ?_, ?_, ?_⟩
    · rw [State.modEngine_eq, State.engine_setEngine]
      split
      · next same => rw [same, fault]
      · rfl
    · rw [State.engine_modEngine_self, lastFault]
    · rw [State.engine_modEngine_self, Engine.countPulse_gauge]
  · exact ⟨rfl, rfl, fun _ => rfl, rfl, rfl⟩

/-- After the capture come the work of a FORMAT at its index and what follows at once. -/
theorem State.pulse_works (running : s.power = .running) (d : DriveIx) :
    (s.captured d).Works (fun _ => True) s.Free (s.perform (State.pulse d)) := by
  obtain ⟨-, -, fault, -⟩ := s.captured_spec d
  have free (x : DriveIx) (free : ((s.captured d).engine x).fault = false) : True ∧ s.Free x :=
    ⟨trivial, (fault x).symm.trans free⟩
  have worked : (s.captured d).Works (fun _ => True) s.Free (State.pulse d s) := by
    unfold State.captured State.pulse
    split
    · exact (State.Works.refl _).formatPulse trivial
    · exact .refl _
  rw [State.perform_of_running running]
  exact worked.settle free

/-- A pulse lets no time pass, and changes nothing of the gauge but by its capture. -/
theorem State.pulse_gauge (running : s.power = .running) (d : DriveIx) :
    (s.perform (State.pulse d)).clock.tick = s.clock.tick ∧
      ((s.perform (State.pulse d)).engine d).gauge =
        if (s.engine d).ready then ((s.engine d).capture s.clock.tick).gauge else (s.engine d).gauge := by
  obtain ⟨clock, -, -, -, gauge⟩ := s.captured_spec d
  have works := State.pulse_works running d
  exact ⟨(congrArg Clock.tick works.hands).trans (clock ▸ rfl), (works.gauge d).trans gauge⟩

/-- A drive that is halted for a lost index stays so at its next pulse, but for the check, which begins afresh. -/
theorem State.pulse_faulted (running : s.power = .running) {c : Coarse} (faulted : s.IndexFaulted d c) :
    ((s.perform (State.pulse d)).engine d).fault = true ∧
      ((s.perform (State.pulse d)).engine d).lastFault = (s.engine d).lastFault ∧
      s.events.Grows (s.perform (State.pulse d)).events := by
  obtain ⟨-, events, fault, lastFault, -⟩ := s.captured_spec d
  have works := State.pulse_works running d
  exact ⟨works.fault ((fault d).trans faulted.fault),
    (works.lastFault (State.not_free faulted.fault)).trans lastFault, events ▸ works.events⟩

end Pulse

/-! ## O39 -/

theorem Engine.gauge_fields {e f : Engine} (h : f.gauge = e.gauge) :
    f.newer = e.newer ∧ f.older = e.older ∧ f.period = e.period ∧ f.bad = e.bad := by
  obtain ⟨newer, older, period, bad, -⟩ := Engine.measure_fields (Engine.measure_of_gauge h)
  exact ⟨newer, older, period, bad⟩

/-- An index pulse with a long dip among the ticks before it: it comes in the reset, and is lost. -/
theorem State.indexPulse_dipped {s : State} {d : DriveIx} {n k : Nat} (running : s.power = .running)
    (dip : s.longDipIn? n = some k) :
    (∃ raised, s.longDipTo (s.indexPulse d n) raised) ∧
      (s.indexPulse d n).clock.tick = s.clock.tick + BitVec.ofNat 16 n ∧
      ((s.indexPulse d n).engine d).newer = none ∧ ((s.indexPulse d n).engine d).ready = (s.engine d).ready := by
  obtain ⟨steady, b, -, gauge⟩ := State.dueTaken_spec running d
  obtain ⟨⟨raised, -, timer, reset, cause⟩, tick, -, stopped, engines⟩ :=
    State.passTime_dipped ((State.longDipIn?_of_steady steady n).trans dip)
  obtain ⟨newer, ready, -⟩ := engines d
  have lost : s.indexPulse d n = (s.dueTaken d).passTime n := if_neg stopped
  have store : (s.dueTaken d).store = s.store := congrArg Steady.store steady
  have clock : (s.dueTaken d).clock = s.clock := congrArg Steady.clock steady
  obtain ⟨-, -, -, -, same⟩ := Engine.measure_fields (e := { s.engine d with bad := b })
    (Engine.measure_of_gauge gauge)
  rw [store] at timer
  rw [clock] at tick
  rw [lost]
  exact ⟨⟨raised, running, timer, reset, cause⟩, tick, newer, ready.trans same⟩

/-- What the pulse finds where no long dip comes before it: the drive's measure of the index as it was before
the command, but for bad periods whose fault is due. -/
theorem State.pulse_arrives {s : State} {n : Nat} (running : s.power = .running) (d : DriveIx)
    (calm : s.longDipIn? n = none) :
    ((s.dueTaken d).passTime n).power = .running ∧
      ((s.dueTaken d).passTime n).clock.tick = s.clock.tick + BitVec.ofNat 16 n ∧
      (((s.dueTaken d).passTime n).engine d).newer = (s.engine d).newer ∧
      (((s.dueTaken d).passTime n).engine d).period = (s.engine d).period ∧
      (((s.dueTaken d).passTime n).engine d).ready = (s.engine d).ready ∧
      ((s.engine d).bad < 3 → (((s.dueTaken d).passTime n).engine d).bad = (s.engine d).bad) := by
  obtain ⟨steady, b, less, gauge⟩ := State.dueTaken_spec running d
  have running' : (s.dueTaken d).power = .running := (State.power_of_steady steady).trans running
  have clock : (s.dueTaken d).clock = s.clock := congrArg Steady.clock steady
  rw [State.passTime_calm ((State.longDipIn?_of_steady steady n).trans calm)]
  have passed := State.Passed.passClocks (s := s.dueTaken d) (by rw [running']; exact nofun) n
  obtain ⟨newer, -, period, bad, ready⟩ := Engine.measure_fields (e := { s.engine d with bad := b })
    ((passed.measure d).trans (Engine.measure_of_gauge gauge))
  exact ⟨passed.power.trans running', by rw [passed.tick, clock], newer, period, ready,
    fun few => bad.trans (less few)⟩

/-- A lost index comes before the pulse (R89). -/
theorem State.indexPulse_lost {s : State} {d : DriveIx} {n m : Nat} (running : s.power = .running)
    (calm : s.longDipIn? n = none) (runs : (s.engine d).lostTimer = some m) (lost : 36800 ≤ m + n) :
    (s.indexPulse d n).events.raised .speedFault ∧ (s.indexPulse d n).events.raised .driveHalted ∧
      ((s.indexPulse d n).engine d).fault = true ∧
      ∃ q, ((s.indexPulse d n).engine d).lastFault = some q ∧ q.fault = .speedFault ∧ q.outcome = .driveFault := by
  obtain ⟨steady, b, -, gauge⟩ := State.dueTaken_spec running d
  obtain ⟨running'', -⟩ := State.pulse_arrives running d calm
  have running' : (s.dueTaken d).power = .running := (State.power_of_steady steady).trans running
  have runs' : ((s.dueTaken d).engine d).lostTimer = some m :=
    (Engine.lostTimer_of_gauge (e := { s.engine d with bad := b }) gauge).trans runs
  have pass : (s.dueTaken d).passTime n =
      (s.dueTaken d).passAdvances (((s.dueTaken d).clock.toCoarse + n) / 10000) n := by
    rw [State.passTime_calm ((State.longDipIn?_of_steady steady n).trans calm), State.passClocks,
      if_neg (by rw [running']; exact nofun)]
  obtain ⟨c, faulted, -⟩ := State.passAdvances_faults running' (((s.dueTaken d).clock.toCoarse + n) / 10000)
    (Nat.mul_div_le _ _) runs' lost
  rw [← pass] at faulted
  obtain ⟨fault, lastFault, grows⟩ := State.pulse_faulted running'' faulted
  obtain ⟨q, noted, cause, outcome, -⟩ := faulted.record
  exact ⟨grows _ faulted.speed, grows _ faulted.halted, fault, q, lastFault.trans noted, cause, outcome⟩

/-- Settles O39: what is due and the ticks leave the drive's measure of the index to the pulse, which
captures it; a lost index and a long dip come before it. -/
theorem indexPulseMeasuresPeriod : Obligations.IndexPulseMeasuresPeriod := by
  intro d elapsed s running
  refine ⟨_, rfl, (State.Passes.indexPulse s d elapsed).memory, ?_, fun k dip => ?_, fun calm => ⟨?_, ?_, ?_⟩⟩
  · cases dip : s.longDipIn? elapsed with
    | some k =>
      obtain ⟨-, tick, -⟩ := State.indexPulse_dipped (d := d) running dip
      exact tick
    | none =>
      obtain ⟨running', tick, -⟩ := State.pulse_arrives running d dip
      obtain ⟨same, -⟩ := State.pulse_gauge running' d
      exact same.trans tick
  · obtain ⟨reset, -, newer, ready⟩ := State.indexPulse_dipped (d := d) running dip
    exact ⟨reset, newer, ready⟩
  · intro unready
    obtain ⟨running', -, newer, period, ready, -⟩ := State.pulse_arrives running d calm
    obtain ⟨-, gauge⟩ := State.pulse_gauge running' d
    rw [if_neg (by rw [ready, unready]; exact nofun)] at gauge
    obtain ⟨newer', -, period', -⟩ := Engine.gauge_fields gauge
    exact ⟨newer'.trans newer, period'.trans period⟩
  · exact fun n runs lost => State.indexPulse_lost running calm runs lost
  · intro ready
    obtain ⟨running', tick, newer, period, ready', bad⟩ := State.pulse_arrives running d calm
    obtain ⟨-, gauge⟩ := State.pulse_gauge running' d
    rw [if_pos (ready'.trans ready), tick] at gauge
    obtain ⟨newer', older', period', bad'⟩ := Engine.gauge_fields gauge
    obtain ⟨now, before, check, first, next⟩ := Engine.capture_spec (s.clock.tick + BitVec.ofNat 16 elapsed)
      (((s.dueTaken d).passTime elapsed).engine d)
    rw [newer] at before first next
    refine ⟨newer'.trans now, older'.trans before, (Engine.lostTimer_of_gauge gauge).trans check,
      fun none => period'.trans ((first none).trans period), fun tick captured => ?_⟩
    obtain ⟨good, misfit⟩ := next tick captured
    refine ⟨fun fits => ?_, fun misfits => ?_⟩
    · obtain ⟨taken, cleared⟩ := good fits
      exact ⟨period'.trans taken, bad'.trans cleared⟩
    · obtain ⟨kept, counted⟩ := misfit misfits
      refine ⟨period'.trans (kept.trans period), fun few => ?_⟩
      have same := bad few
      have total := bad'.trans counted
      rw [same] at total
      exact total.trans (Nat.min_eq_right few)

end Sys2Proof.Machine
end

section
/-! SUPPORT. The three faults of a drive (R84, R86, R89, R105, R157): O41. -/

namespace Sys2Proof.Machine

open Sys2Proof

section Faults

variable {s : State} {d : DriveIx}

/-- The bad periods of a drive are counted from 0 again, and its fault comes about (R89). -/
theorem State.badPeriods_faulted (three : 3 ≤ (s.engine d).bad) :
    s.DriveFaulted d .speedFault (State.badPeriods d s) ∧
      (State.badPeriods d s).events.raised .speedFault = true ∧ ((State.badPeriods d s).engine d).bad = 0 := by
  have counted : (s.modEngine d fun e => { e with bad := 0 }).engine d = { s.engine d with bad := 0 } :=
    State.engine_modEngine_self ..
  obtain ⟨⟨fault, halted, record, idle⟩, raised⟩ := (s.modEngine d fun e => { e with bad := 0 }).speedFails_faulted d
  have works := (State.Works.refl_all
    (s.modEngine d fun e => { e with bad := 0 })).speedFails (d := d) trivial trivial
  obtain ⟨-, -, -, bad⟩ := Engine.gauge_fields (works.gauge d)
  rw [counted] at record idle bad
  rw [State.badPeriods, if_pos three]
  exact ⟨⟨fault, halted, record, idle⟩, raised, bad⟩

theorem State.seekFails_steady (s : State) (d : DriveIx) : (State.seekFails d s).steady = s.steady := by
  have noted (t : State) : (if (s.engine d).current = none then t.endOperation d else t.returnRecord d).steady =
      t.steady := by
    split
    · exact State.modEngine_steady ..
    · exact State.returnRecord_steady ..
  unfold State.seekFails
  dsimp only
  split
  · rw [State.haltFault_steady, State.modEngine_steady, noted, State.noteFault_steady, State.raise_steady]
  · rfl

/-- A drive that is the first to lose its index, before the next advance: the fault comes about on the state
before the ticks, but for its clocks. -/
theorem State.passAdvances_first {n : Nat} (running : s.power = .running) (runs : (s.engine d).lostTimer = some n)
    (within : n ≤ 36800) (first : ∀ x m, x ≠ d → (s.engine x).lostTimer = some m → m < n) :
    (∃ q, ((s.passAdvances 0 (36800 - n)).engine d).lastFault = some q ∧
        q.kind = ((s.engine d).current.bind s.record?).map Record.kind) ∧
      ((∀ r, (s.engine d).current = some r → s.record? r ≠ none) →
        ((s.passAdvances 0 (36800 - n)).engine d).current = none) := by
  have on : s.power ≠ .off := by rw [running]; exact nofun
  have next : s.nextLost? (36800 - n + 1) = some (d, 36800 - n) := by
    cases next : s.nextLost? (36800 - n + 1) with
    | none => exact absurd (State.nextLost?_none running next runs) (by omega)
    | some found =>
      obtain ⟨x, m⟩ := found
      obtain ⟨⟨b, runs', moment⟩, early⟩ := State.nextLost?_some next
      have sooner := early d n runs
      by_cases same : x = d
      · rw [same, runs] at runs'
        cases runs'
        rw [same, moment]
      · exact absurd (first x b same runs') (by omega)
  have lost : s.passAdvances 0 (36800 - n) = ((s.passTicks (36800 - n)).indexGone d).passLost 3 0 1 := by
    rw [State.passAdvances, State.passLost, next]
    dsimp only
    rw [Nat.sub_self, Nat.add_sub_cancel_left]
  obtain ⟨faulted, ⟨q, noted, kind⟩, idle⟩ := (s.passTicks (36800 - n)).indexGone_spec d
  have engine : ((s.passTicks (36800 - n)).engine d).current = (s.engine d).current := by
    rw [State.passTicks_engine _ d on]
    rfl
  have record : (s.passTicks (36800 - n)).record? = s.record? :=
    funext fun r => congrArg (fun p : Pool => p.records[r]) (s.passTicks_pool (36800 - n))
  rw [engine, record] at kind idle
  have on' : ((s.passTicks (36800 - n)).indexGone d).power ≠ .off := by
    rw [(State.Passed.toLost on next).power]
    exact on
  obtain ⟨-, -, current, lastFault⟩ :=
    (State.Passed.passLost on' 3 (show 1 ≤ 0 + 1 from Nat.le_refl 1)).rests d faulted.fault faulted.rests
  rw [lost]
  exact ⟨⟨q, lastFault.trans noted, kind⟩, fun kept => current.trans (idle kept)⟩

/-- The ticks lacking to a lost index, without a long dip among them, end with its fault (R89). -/
theorem State.passTime_lost {n : Nat} (running : s.power = .running) (runs : (s.engine d).lostTimer = some n)
    (calm : s.longDipIn? (36800 - n) = none) :
    (s.passTime (36800 - n)).IndexFaulted d (s.passTime (36800 - n)).clock.coarse ∧
      (s.passTime (36800 - n)).clock.tick = s.clock.tick + BitVec.ofNat 16 (36800 - n) ∧
      (n ≤ 36800 → s.clock.toCoarse + (36800 - n) < 10000 →
        (∀ x m, x ≠ d → (s.engine x).lostTimer = some m → m < n) →
        (s.passTime (36800 - n)).clock.coarse = s.clock.coarse ∧
          (∃ q, ((s.passTime (36800 - n)).engine d).lastFault = some q ∧
            q.kind = ((s.engine d).current.bind s.record?).map Record.kind) ∧
          ((∀ r, (s.engine d).current = some r → s.record? r ≠ none) →
            ((s.passTime (36800 - n)).engine d).current = none)) := by
  have on : s.power ≠ .off := by rw [running]; exact nofun
  have passed := State.Passed.passClocks on (36800 - n)
  have pass : s.passTime (36800 - n) = s.passAdvances ((s.clock.toCoarse + (36800 - n)) / 10000) (36800 - n) := by
    rw [State.passTime_calm calm, State.passClocks, if_neg on]
  have lost : 36800 ≤ n + (36800 - n) := by omega
  rw [← State.passTime_calm calm] at passed
  obtain ⟨c, faulted, time⟩ := State.passAdvances_faults running ((s.clock.toCoarse + (36800 - n)) / 10000)
    (Nat.mul_div_le _ _) runs lost
  rw [← pass] at faulted time
  rw [time rfl] at faulted
  refine ⟨faulted, passed.tick, fun within soon first => ?_⟩
  have none : (s.clock.toCoarse + (36800 - n)) / 10000 = 0 := Nat.div_eq_of_lt soon
  rw [none] at pass
  refine ⟨?_, ?_⟩
  · rw [passed.coarse, none]
    exact BitVec.add_zero _
  · rw [pass]
    exact State.passAdvances_first running runs within first

end Faults

/-! ## The commands -/

section Commands

variable {s : State} (running : s.power = .running) (d : DriveIx)
include running

theorem exec_speedFault : exec (.speedFault d) s = .next (State.badPeriods d s).settle :=
  congrArg Host.Outcome.next (State.perform_of_running running _)

theorem exec_indexLost : exec (.indexLost d) s = .next (State.indexLost d s).settle :=
  congrArg Host.Outcome.next (State.perform_of_running running _)

theorem exec_seekFault : exec (.seekFault d) s = .next (State.seekFails d s).settle :=
  congrArg Host.Outcome.next (State.perform_of_running running _)

end Commands

/-- Settles O41: a fault that is due halts the drive through `speedFails`, `seekFails` or the index lost
among the ticks, unless a long dip comes before it. -/
theorem driveFaultsHaltTheDrive : Obligations.DriveFaultsHaltTheDrive := by
  intro d s running
  rw [exec_speedFault running, exec_indexLost running, exec_seekFault running]
  refine ⟨fun few => ?_, fun rests => ?_, fun undue => ?_, fun n k runs dip => ?_, fun c cause event which => ?_⟩
  · rw [State.badPeriods, if_neg (by omega)]
  · rw [State.indexLost, rests]
  · rw [State.seekFails]
    dsimp only
    rw [if_neg (by simpa using undue)]
  · have lost : State.indexLost d s = s.passTime (36800 - n) := by rw [State.indexLost, runs]
    obtain ⟨reset, tick, events, -, engines⟩ := State.passTime_dipped dip
    obtain ⟨-, -, fault⟩ := engines d
    rw [lost]
    exact ⟨_, rfl, reset, tick, events, fault, (State.Passes.passTime s _).memory⟩
  · obtain ⟨rfl, three, rfl, rfl⟩ | ⟨rfl, ⟨n, runs, calm⟩, rfl, rfl⟩ | ⟨rfl, motion, unseen, steps, rfl, rfl⟩ := which
    · obtain ⟨⟨fault, halted, ⟨q, noted, cause, outcome, time, kind⟩, idle⟩, raised, bad⟩ :=
        State.badPeriods_faulted three
      have steady : (State.badPeriods d s).steady = s.steady := by
        rw [State.badPeriods, if_pos three, State.speedFails_steady, State.modEngine_steady]
      have coarse : (State.badPeriods d s).clock.coarse = s.clock.coarse :=
        congrArg (fun x : Steady => x.clock.coarse) steady
      exact ⟨_, exec_speedFault running d, congrArg Steady.memory steady, raised, halted, fault,
        ⟨q, noted, cause, outcome, time.trans coarse.symm⟩, fun _ => ⟨coarse, ⟨q, noted, kind⟩, idle⟩,
        fun _ => bad, nofun, nofun⟩
    · have lost : State.indexLost d s = s.passTime (36800 - n) := by rw [State.indexLost, runs]
      obtain ⟨⟨fault, rests, record, raised, halted⟩, tick, first⟩ := State.passTime_lost running runs calm
      refine ⟨_, exec_indexLost running d, ?_⟩
      rw [lost]
      refine ⟨(State.Passes.passTime s _).memory, raised, halted, fault, record, fun alone => ?_, nofun,
        fun m _ runs' => ?_, nofun⟩
      · obtain ⟨m, runs', within, soon, sole⟩ := alone rfl
        rw [runs] at runs'
        cases runs'
        exact first within soon sole
      · rw [runs] at runs'
        cases runs'
        exact ⟨rests, tick⟩
    · obtain ⟨⟨fault, halted, ⟨q, noted, cause, outcome, time, kind⟩, idle⟩, raised, cyl⟩ :=
        State.seekFails_faulted ⟨motion, unseen, steps⟩
      have steady := State.seekFails_steady s d
      have coarse : (State.seekFails d s).clock.coarse = s.clock.coarse :=
        congrArg (fun x : Steady => x.clock.coarse) steady
      exact ⟨_, exec_seekFault running d, congrArg Steady.memory steady, raised, halted, fault,
        ⟨q, noted, cause, outcome, time.trans coarse.symm⟩, fun _ => ⟨coarse, ⟨q, noted, kind⟩, idle⟩,
        nofun, nofun, fun _ => cyl⟩

end Sys2Proof.Machine
end

section
/-! SUPPORT. Steps, the unloading of heads, the ends of recalibrations and positionings (R86, R87, R90, R92): O42, O43. -/

namespace Sys2Proof.Machine

open Sys2Proof

/-! ## The next event of a drive's motion -/

section Waits

variable {s : State} {d : DriveIx} {awaits : Engine → Bool} (event : State → State)

/-- No event is awaited: nothing happens (log 2). -/
theorem State.afterWait_undue (undue : ¬awaits (s.engine d) = true) : s.afterWait d awaits event = s :=
  if_neg undue

/-- The ticks that pass end the waiting (log 5). -/
theorem State.afterWait_lapsed (due : awaits (s.engine d) = true)
    (lapsed : ¬awaits ((s.passTime (s.engine d).wait).engine d) = true) :
    s.afterWait d awaits event = s.passTime (s.engine d).wait :=
  (if_pos due).trans (if_neg lapsed)

theorem State.afterWait_due (due : awaits (s.engine d) = true)
    (still : awaits ((s.passTime (s.engine d).wait).engine d) = true) :
    s.afterWait d awaits event = event (s.passTime (s.engine d).wait) :=
  (if_pos due).trans (if_pos still)

end Waits

theorem Engine.stepDue_iff (e : Engine) : e.stepDue = true ↔
    (e.motion = .seeking ∧ e.cyl ≠ none ∧ e.cyl ≠ some e.target) ∨
      (e.motion = .recal ∧ e.track0 = false ∧ e.recalSteps < 80) := by
  unfold Engine.stepDue
  cases e.motion <;> simp [Option.isSome_iff_ne_none]

theorem Engine.atTrack0_iff (e : Engine) : e.atTrack0 = true ↔ e.motion = .recal ∧ e.track0 = true := by
  simp [Engine.atTrack0]

theorem Engine.atTarget_iff (e : Engine) : e.atTarget = true ↔ e.motion = .seeking ∧ e.cyl = some e.target := by
  simp [Engine.atTarget]

/-! ## O42 -/

theorem Engine.step_seeking {e : Engine} {c : Nat} {track0 : Bool} (seeking : e.motion = .seeking)
    (known : e.cyl = some c) : e.step track0 = { e.seekStep c with track0 := track0 } := by
  rw [Engine.step, seeking, known]

theorem Engine.step_recal {e : Engine} {track0 : Bool} (recal : e.motion = .recal) :
    e.step track0 = e.recalStep track0 := by
  rw [Engine.step, recal]

section Steps

variable {s : State} (running : s.power = .running) (d : DriveIx)
include running

theorem exec_headUnload : exec (.headUnload d) s = .next (State.unloadHeads d s) :=
  congrArg Host.Outcome.next (if_pos running)

theorem exec_stepPulse (track0 : Bool) : exec (.stepPulse d track0) s = .next (State.stepPulse d track0 s) :=
  congrArg Host.Outcome.next (if_pos running)

theorem exec_recalibrationEnd : exec (.recalibrationEnd d) s = .next (State.recalibrated d s).settle :=
  congrArg Host.Outcome.next (State.perform_of_running running _)

theorem exec_positioningEnd : exec (.positioningEnd d) s = .next (State.positioned d s).settle :=
  congrArg Host.Outcome.next (State.perform_of_running running _)

end Steps

/-- Settles O42: the unloading by its own condition, a step pulse by the cases of the drive's motion. -/
theorem headsUnloadAndStep : Obligations.HeadsUnloadAndStep := by
  intro d track0 s running
  rw [exec_headUnload running, exec_stepPulse running]
  refine ⟨fun eight idle rests => ?_, fun few => ?_, fun undue => ?_, fun due lapsed => ?_,
    fun c due seeking known off => ?_, fun due recal unseen few => ?_⟩
  · exact congrArg Host.Outcome.next (if_pos ⟨eight, idle, rests⟩)
  · exact congrArg Host.Outcome.next (if_neg fun ⟨eight, _⟩ => absurd eight (by omega))
  · exact congrArg Host.Outcome.next (State.afterWait_undue _ fun due => undue ((Engine.stepDue_iff _).mp due))
  · exact congrArg Host.Outcome.next (State.afterWait_lapsed _ ((Engine.stepDue_iff _).mpr due)
      fun still => lapsed ((Engine.stepDue_iff _).mp still))
  · have still := (Engine.stepDue_iff ((s.passTime (s.engine d).wait).engine d)).mpr
      (.inl ⟨seeking, by rw [known]; exact nofun, by rw [known]; exact fun e => off (Option.some.inj e)⟩)
    rw [State.stepPulse, State.afterWait_due _ ((Engine.stepDue_iff _).mpr due) still, State.modEngine_eq,
      Engine.step_seeking seeking known]
    rfl
  · have still := (Engine.stepDue_iff ((s.passTime (s.engine d).wait).engine d)).mpr (.inr ⟨recal, unseen, few⟩)
    rw [State.stepPulse, State.afterWait_due _ ((Engine.stepDue_iff _).mpr due) still, State.modEngine_eq,
      Engine.step_recal recal]
    rfl

/-! ## The end of a recalibration (R86, R94) -/

section Ends

variable {s : State} {d : DriveIx} {r : RecIx} {q : Record}

theorem Engine.restState_eq (e : Engine) :
    e.restState = if e.door then .notReady else if e.link ∨ e.fault ∨ e.dip then .held else .idle := by
  have unheld : e.unheld = true ↔ e.door = false ∧ ¬(e.link ∨ e.fault ∨ e.dip) := by
    simp [Engine.unheld, and_assoc]
  unfold Engine.restState
  split
  · rfl
  · next closed =>
    rw [if_congr (unheld.trans (and_iff_right (Bool.eq_false_iff.mpr closed))) rfl rfl, ite_not]

/-- A recalibration without an operation ends: the engine stops, or is IDLE. -/
theorem State.endRecal_idle (recalibrating : (s.engine d).state = .recalibrating) :
    s.endRecal d = s.modEngine d fun e => { e with cyl := some 0, motion := .still, state := e.restState } := by
  rw [State.endRecal]
  rw [recalibrating]
  exact s.modEngine_modEngine d _ _

/-- A recalibration within a search ends: the engine seeks back from cylinder 0 to its target (R94). -/
theorem State.endRecal_search (searching : (s.engine d).state = .searching)
    (current : (s.engine d).current = some r) (record : s.record? r = some q) :
    s.endRecal d = s.modEngine d fun e =>
      ({ e with cyl := some 0, motion := .still } : Engine).beginSeek q.cylinder q.side := by
  rw [State.endRecal]
  rw [searching, current, Option.bind_some, record]
  exact s.modEngine_modEngine d _ _

/-- A seek to a track side begins, from cylinder 0 or from another (R87, R90). -/
theorem Engine.beginSeek_spec (e : Engine) (c side : Nat) :
    (e.beginSeek c side).cyl = e.cyl ∧ (e.beginSeek c side).motion = .seeking ∧
      (e.beginSeek c side).target = c ∧ (e.beginSeek c side).side = side ∧
      (e.beginSeek c side).state = e.state ∧ (e.beginSeek c side).current = e.current ∧
      (e.beginSeek c side).inward = if e.cyl = some c then e.inward else e.cyl.any fun x => decide (x < c) := by
  unfold Engine.beginSeek
  split <;> simp_all

/-! ## The end of a positioning (R92, R111) -/

/-- A write-back whose copy-out has not ended waits on, with the heads in place. -/
theorem State.endSeek_waits (positioning : (s.engine d).state = .positioning)
    (current : (s.engine d).current = some r) (record : s.record? r = some q)
    (waits : q.kind = .writeback ∧ q.copied = false) :
    s.endSeek d = s.modEngine d fun e => { e with loaded := true } := by
  obtain ⟨kind, copied⟩ := waits
  rw [State.endSeek]
  rw [positioning, current, Option.bind_some, record]
  exact if_pos ⟨kind, by rw [copied]; rfl⟩

theorem State.endSeek_requests (positioning : (s.engine d).state = .positioning)
    (current : (s.engine d).current = some r) (record : s.record? r = some q)
    (ends : q.kind ≠ .writeback ∨ q.copied = true) :
    s.endSeek d = (s.modEngine d fun e => { e with loaded := true }).requestChannel d := by
  rw [State.endSeek]
  rw [positioning, current, Option.bind_some, record]
  exact if_neg fun ⟨kind, copied⟩ => ends.elim (fun other => other kind) fun same => by simp [same] at copied

/-- The heads of an engine that recalibrated within its operation are on the target again: it searches (R94). -/
theorem State.endSeek_search (searching : (s.engine d).state = .searching)
    (current : (s.engine d).current = some r) (record : s.record? r = some q) :
    s.endSeek d = s.modEngine d fun e => ({ e with loaded := true } : Engine).beginSearch := by
  rw [State.endSeek]
  rw [searching, current, Option.bind_some, record]
  exact s.modEngine_modEngine d _ _

/-- The grant of the channel to an engine that waits for it (R111). -/
theorem State.grant_spec (waits : (s.engine d).state = .waitChannel) (current : (s.engine d).current = some r)
    (record : s.record? r = some q) :
    (s.grant d).chan.owner = some d ∧ (s.grant d).record? r = some { q with phase := .inEngine } ∧
      (s.grant d).engine d = { (s.engine d).beginSearch with
        state := if q.kind = .format then .formatting else .searching, formatOn := false } := by
  have granted : s.grant d =
      (({ s with chan := { s.chan with owner := some d } } : State).modRecord r fun p =>
        { p with phase := .inEngine }).modEngine d fun e => { e.beginSearch with
          state := if q.kind = .format then .formatting else .searching, formatOn := false } := by
    have kind : ((s.record? r).map Record.kind = some .format) = (q.kind = .format) := by
      rw [record, Option.map_some, Option.some.injEq]
    simp only [State.grant, waits, current, kind]
  have kept : ({ s with chan := { s.chan with owner := some d } } : State).record? r = some q := record
  rw [granted]
  exact ⟨rfl, State.record_modRecord_self kept _, State.engine_modEngine_self ..⟩

/-- A free channel is granted with the request: the record is IN-ENGINE, and the engine works (R111). -/
theorem State.requestChannel_free (current : (s.engine d).current = some r) (record : s.record? r = some q)
    (free : s.chan.owner = none ∧ s.chan.queue = []) :
    (s.requestChannel d).chan.owner = some d ∧
      (s.requestChannel d).record? r = some { q with phase := .inEngine } ∧
      (s.requestChannel d).engine d = { (s.engine d).beginSearch with
        state := if q.kind = .format then .formatting else .searching, formatOn := false } := by
  have waits : (s.modEngine d fun e => { e with state := .waitChannel, motion := .still }).engine d =
      { s.engine d with state := .waitChannel, motion := .still } := State.engine_modEngine_self ..
  obtain ⟨owner, phase, engine⟩ := State.grant_spec (congrArg Engine.state waits)
    ((congrArg Engine.current waits).trans current) (q := q) record
  rw [waits] at engine
  rw [State.requestChannel, if_pos free]
  exact ⟨owner, phase, engine⟩

/-- A channel that is not free is waited for at the end of its queue (R111). -/
theorem State.requestChannel_queues (busy : ¬(s.chan.owner = none ∧ s.chan.queue = [])) :
    (s.requestChannel d).chan = { s.chan with queue := s.chan.queue ++ [d] } ∧
      (s.requestChannel d).pool = s.pool ∧
      (s.requestChannel d).engine d = { s.engine d with state := .waitChannel, motion := .still } := by
  have waits : (s.modEngine d fun e => { e with state := .waitChannel, motion := .still }).engine d =
      { s.engine d with state := .waitChannel, motion := .still } := State.engine_modEngine_self ..
  rw [State.requestChannel, if_neg busy]
  exact ⟨rfl, rfl, waits⟩

theorem State.endSeek_steady (s : State) (d : DriveIx) : (s.endSeek d).steady = s.steady := by
  have placed : (s.modEngine d fun e => { e with loaded := true }).steady = s.steady := State.modEngine_steady ..
  unfold State.endSeek
  dsimp only
  split
  · split
    · exact placed
    · exact (State.requestChannel_steady _ d).trans placed
  · exact (State.modEngine_steady ..).trans placed
  · exact placed

/-- Positioning has ended: the heads are loaded, the operation stands, and the engine waits for its copy-out,
is granted the channel, or waits for it (R92, R111). -/
theorem State.endSeek_positioned (positioning : (s.engine d).state = .positioning)
    (current : (s.engine d).current = some r) (record : s.record? r = some q) :
    ((s.endSeek d).engine d).loaded = true ∧ ((s.endSeek d).engine d).current = some r ∧
      (q.kind = .writeback → q.copied = false →
        ((s.endSeek d).engine d).state = .positioning ∧ (s.endSeek d).chan = s.chan ∧ (s.endSeek d).pool = s.pool) ∧
      ((q.kind ≠ .writeback ∨ q.copied = true) → s.chan.owner = none → s.chan.queue = [] →
        (s.endSeek d).chan.owner = some d ∧ (s.endSeek d).record? r = some { q with phase := .inEngine } ∧
        ((s.endSeek d).engine d).state = if q.kind = .format then .formatting else .searching) ∧
      ((q.kind ≠ .writeback ∨ q.copied = true) → ¬(s.chan.owner = none ∧ s.chan.queue = []) →
        (s.endSeek d).chan.owner = s.chan.owner ∧ (s.endSeek d).chan.queue = s.chan.queue ++ [d] ∧
        ((s.endSeek d).engine d).state = .waitChannel ∧ (s.endSeek d).pool = s.pool) := by
  have placed : (s.modEngine d fun e => { e with loaded := true }).engine d = { s.engine d with loaded := true } :=
    State.engine_modEngine_self ..
  have held := (congrArg Engine.current placed).trans current
  by_cases waits : q.kind = .writeback ∧ q.copied = false
  · have out (ends : q.kind ≠ .writeback ∨ q.copied = true) : False :=
      ends.elim (fun other => other waits.left) fun copied => by simp [waits.right] at copied
    rw [State.endSeek_waits positioning current record waits, placed]
    exact ⟨rfl, current, fun _ _ => ⟨positioning, rfl, rfl⟩, fun ends => (out ends).elim,
      fun ends => (out ends).elim⟩
  · have ends : q.kind ≠ .writeback ∨ q.copied = true := by
      simpa [or_iff_not_imp_left] using waits
    rw [State.endSeek_requests positioning current record ends]
    by_cases free : s.chan.owner = none ∧ s.chan.queue = []
    · obtain ⟨owner, phase, engine⟩ := State.requestChannel_free (q := q) held record free
      rw [placed] at engine
      rw [engine]
      exact ⟨rfl, current, fun kind copied => absurd ⟨kind, copied⟩ waits, fun _ _ _ => ⟨owner, phase, rfl⟩,
        fun _ busy => absurd free busy⟩
    · obtain ⟨chan, pool, engine⟩ := State.requestChannel_queues
        (s := s.modEngine d fun e => { e with loaded := true }) (d := d) free
      rw [placed] at engine
      rw [engine, chan, pool]
      exact ⟨rfl, current, fun kind copied => absurd ⟨kind, copied⟩ waits,
        fun _ owner queue => absurd ⟨owner, queue⟩ free, fun _ _ => ⟨rfl, rfl, rfl, rfl⟩⟩

end Ends

/-- Settles O43: the end of a recalibration and of a positioning, by the engine's state. -/
theorem recalibrationAndPositioningEnd : Obligations.RecalibrationAndPositioningEnd := by
  intro d s running
  rw [exec_recalibrationEnd running, exec_positioningEnd running]
  intro v f homed arrived
  have memory : v.memory = s.memory := (State.Passes.passTime s _).memory
  have home (due : homed (s.engine d)) (still : homed f) : State.recalibrated d s = v.endRecal d :=
    State.afterWait_due _ ((Engine.atTrack0_iff _).mpr due) ((Engine.atTrack0_iff _).mpr still)
  have arrive (due : arrived (s.engine d)) (still : arrived f) : State.positioned d s = v.endSeek d :=
    State.afterWait_due _ ((Engine.atTarget_iff _).mpr due) ((Engine.atTarget_iff _).mpr still)
  refine ⟨fun undue => ?_, fun due lapsed => ?_, fun due still recalibrating => ?_,
    fun r q due still searching current record => ?_, fun undue => ?_, fun due lapsed => ?_,
    fun r q due still searching current record => ?_, fun r q due still positioning current record => ?_⟩
  · rw [State.recalibrated, State.afterWait_undue _ fun due => undue ((Engine.atTrack0_iff _).mp due)]
  · rw [State.recalibrated, State.afterWait_lapsed _ ((Engine.atTrack0_iff _).mpr due)
      fun still => lapsed ((Engine.atTrack0_iff _).mp still)]
  · rw [home due still, State.endRecal_idle recalibrating, State.modEngine_eq, Engine.restState_eq]
    rfl
  · refine ⟨_, congrArg (fun u : State => Host.Outcome.next u.settle)
      ((home due still).trans (State.endRecal_search searching current record)), rfl, memory, ?_⟩
    obtain ⟨cyl, motion, target, side, state, held, inward⟩ :=
      ({ f with cyl := some 0, motion := .still } : Engine).beginSeek_spec q.cylinder q.side
    rw [State.engine_modEngine_self]
    refine ⟨cyl, motion, target, side, state.trans searching, held.trans current, inward.trans ?_⟩
    cases q.cylinder <;> rfl
  · rw [State.positioned, State.afterWait_undue _ fun due => undue ((Engine.atTarget_iff _).mp due)]
  · rw [State.positioned, State.afterWait_lapsed _ ((Engine.atTarget_iff _).mpr due)
      fun still => lapsed ((Engine.atTarget_iff _).mp still)]
  · rw [arrive due still, State.endSeek_search searching current record, State.modEngine_eq, Engine.beginSearch,
      ← searching]
    rfl
  · have steady := v.endSeek_steady d
    exact ⟨v.endSeek d, by rw [arrive due still], (congrArg Steady.memory steady).trans memory,
      congrArg Steady.clock steady, State.endSeek_positioned positioning current record⟩

end Sys2Proof.Machine
end

section
/-! SUPPORT. The end of a failed read, and of an operation whose attempts are spent (R48, R95, R97, R134). -/

namespace Sys2Proof.Machine

open Sys2Proof

section Failures

variable {s : State} {d : DriveIx} {r : RecIx} {q : Record} {x : SectorRef} {e : Entry}

/-! ## Fills (R48, R97) -/

/-- What the failure of the fill of the entry at `x` leaves, from `s` to `t`. -/
structure State.FillFailed (s : State) (d : DriveIx) (x : SectorRef) (e : Entry) (cause : Cause)
    (t : State) : Prop where
  steady : t.steady = s.steady
  current : (t.engine d).current = none
  fault : (t.engine d).fault = (s.engine d).fault
  raised : t.events.raised .fillFailed = true
  entry : t.entry? x = some { e with state := .failed, cause := some cause }
  noted : ∃ g, (t.engine d).lastFault = some g ∧ g.fault = cause ∧ g.outcome = .failed

/-- The cause of a failed fill: DATA-CRC whenever a data field was read (R97). -/
def State.fillCause (s : State) (d : DriveIx) (cause : Cause) : Cause :=
  if (s.engine d).dataHeld then .dataCrc else cause

/-- A fill is delivered damaged: it holds data, and its binding asks for that (R48). -/
def State.delivers (s : State) (d : DriveIx) (x : SectorRef) : Bool :=
  (s.engine d).dataHeld && match s.binding? x.win with
    | some b => b.deliver
    | none => false

theorem State.delivers_eq {b : Binding} (binding : s.binding? x.win = some b) :
    s.delivers d x = ((s.engine d).dataHeld && b.deliver) := by
  rw [State.delivers, binding]

theorem State.fillFails_eq (record : s.record? r = some q) (owner : q.owner = some x) (cause : Cause) :
    s.fillFails d r cause =
      if s.delivers d x then
        ((((s.noteFault d (s.fillCause d cause) .damagedDelivered (some q)).endOperation d).leaveChannel d).requestBurst
          { kind := .delivery, drive := d, record := r, damaged := true }).raise .damagedDelivered
      else (((s.modEntry x (Entry.fillFailed (s.fillCause d cause))).noteFault d (s.fillCause d cause) .failed
        (some q)).dismissed d r).raise .fillFailed := by
  rw [State.fillFails, record]
  dsimp only
  rw [owner]
  rfl

theorem State.fillFails_failed (record : s.record? r = some q) (owner : q.owner = some x)
    (entry : s.entry? x = some e) (filling : e.state = .filling) (kept : s.delivers d x = false) (cause : Cause) :
    s.FillFailed d x e (s.fillCause d cause) (s.fillFails d r cause) := by
  have steady := s.fillFails_steady d r cause
  have noted : ((s.modEntry x (Entry.fillFailed (s.fillCause d cause))).noteFault d (s.fillCause d cause) .failed
      (some q)).engine d = _ := State.engine_modEngine_self ..
  have failed : ((s.modEntry x (Entry.fillFailed (s.fillCause d cause))).noteFault d (s.fillCause d cause) .failed
      (some q)).entry? x = some { e with state := .failed, cause := some (s.fillCause d cause) } := by
    refine (State.entry_modEntry_self s x _).trans ?_
    rw [entry, Option.map_some, Entry.fillFailed, if_pos (.inr filling)]
  rw [State.fillFails_eq record owner, if_neg (by simp [kept])] at steady ⊢
  generalize (s.modEntry x (Entry.fillFailed (s.fillCause d cause))).noteFault d (s.fillCause d cause) .failed
    (some q) = t at *
  obtain ⟨ended, -, -, entries⟩ := t.dismissed_spec d r
  rw [noted] at ended
  have failed' := entries x _ failed nofun
  generalize t.dismissed d r = u at *
  exact ⟨steady, congrArg Engine.current ended, (congrArg Engine.fault ended).trans rfl, EventUnit.raised_raise _ _,
    failed', _, congrArg Engine.lastFault ended, rfl, rfl⟩

/-! ## Damaged deliveries (R48, R97) -/

/-- The grant of the channel changes records in their phase alone, and only the one the engine works on. -/
theorem State.record_grant (s : State) (y : DriveIx) (record : s.record? r = some q) :
    (∃ p, (s.grant y).record? r = some { q with phase := p }) ∧
      ((s.engine y).current ≠ some r → (s.grant y).record? r = some q) := by
  unfold State.grant
  dsimp only
  split
  · next r' _ current =>
    by_cases same : r' = r
    · subst same
      have kept : ({ s with chan := { s.chan with owner := some y } } : State).record? r' = some q := record
      exact ⟨⟨_, State.record_modRecord_self kept fun p => { p with phase := .inEngine }⟩,
        fun other => absurd current other⟩
    · have kept := (State.record_setRecord_other ({ s with chan := { s.chan with owner := some y } } : State)
        (((s.record? r').map fun p => { p with phase := .inEngine })) (Ne.symm same)).trans record
      exact ⟨⟨_, kept⟩, fun _ => kept⟩
  · exact ⟨⟨_, record⟩, fun _ => record⟩

/-- A channel that is left goes to another engine: the records change in their phase alone, and one that no
other engine works on does not change. -/
theorem State.record_leaves (record : s.record? r = some q) :
    (∃ p, ((s.endOperation d).leaveChannel d).record? r = some { q with phase := p }) ∧
      ((∀ y, y ≠ d → (s.engine y).current ≠ some r) →
        ((s.endOperation d).leaveChannel d).record? r = some q) := by
  have unchanged (t : State) (same : t.record? r = some q) :
      (∃ p, t.record? r = some { q with phase := p }) ∧
        ((∀ y, y ≠ d → (s.engine y).current ≠ some r) → t.record? r = some q) := ⟨⟨_, same⟩, fun _ => same⟩
  obtain ⟨-, -, e⟩ | ⟨y, rest, -, -, e⟩ | ⟨-, e⟩ := (s.endOperation d).leaveChannel_cases d <;> rw [e]
  · exact unchanged _ record
  · obtain ⟨phased, kept⟩ :=
      State.record_grant { s.endOperation d with chan := { owner := none, queue := rest } } y record
    refine ⟨phased, fun alone => kept ?_⟩
    by_cases same : y = d
    · have ended := congrArg Engine.current (s.engine_endOperation d)
      rw [same]
      exact fun current => nomatch ended.symm.trans current
    · have other := congrArg Engine.current (State.engine_setEngine_other s ((s.engine d).ended) same)
      exact fun current => alone y same (other.symm.trans current)
  · exact unchanged _ record

/-- A burst that is requested of an idle burst unit in which the drive has no place runs at once (R113, R114). -/
theorem State.requestBurst_runs {a : BurstRequest} (vacant : s.placeHeld a.drive = false)
    (clear : s.pendingBehind a.drive = false) (idle : s.bursts.running = none) (empty : s.bursts.queue = [])
    (record : s.record? a.record = some q) (owner : q.owner = some x) :
    (s.requestBurst a).bursts.running = some
      { kind := a.kind, drive := a.drive, base := s.imageBase x, record := some a.record, served := none,
        buffer := q.buffer, damaged := a.damaged, words := 0, fill := 0 } := by
  have free : ¬(s.placeHeld a.drive || s.pendingBehind a.drive) = true := by simp [vacant, clear]
  have made : s.burstOf? a = some
      { kind := a.kind, drive := a.drive, base := s.imageBase x, record := some a.record, served := none,
        buffer := q.buffer, damaged := a.damaged, words := 0, fill := 0 } := by
    rw [State.burstOf?, record]
    dsimp only
    rw [owner]
  rw [State.requestBurst, if_neg free, made]
  simp [State.startNext, State.joinQueue, idle, empty]

/-- What the damaged delivery of the fill of the entry at `x` leaves, from `s` to `t`. -/
structure State.Delivered (s : State) (d : DriveIx) (r : RecIx) (q : Record) (x : SectorRef) (e : Entry)
    (t : State) : Prop where
  steady : t.steady = s.steady
  current : (t.engine d).current = none
  raised : t.events.raised .damagedDelivered = true
  entry : t.entry? x = some e
  noted : ∃ g, (t.engine d).lastFault = some g ∧ g.fault = .dataCrc ∧ g.outcome = .damagedDelivered
  record : (∀ y, y ≠ d → (s.engine y).current ≠ some r) → t.record? r = some q
  runs : s.placeHeld d = false → s.pendingBehind d = false → s.bursts.running = none → s.bursts.queue = [] →
    ∃ v, t.bursts.running = some v ∧ v.kind = .delivery ∧ v.drive = d ∧ v.record = some r ∧ v.buffer = q.buffer ∧
      v.damaged = true ∧ v.words = 0

theorem State.fillFails_delivered (record : s.record? r = some q) (owner : q.owner = some x)
    (entry : s.entry? x = some e) (held : (s.engine d).dataHeld = true) (delivers : s.delivers d x = true)
    (cause : Cause) : s.Delivered d r q x e (s.fillFails d r cause) := by
  have steady := s.fillFails_steady d r cause
  have damaged : s.fillCause d cause = .dataCrc := if_pos held
  have noted : (s.noteFault d .dataCrc .damagedDelivered (some q)).engine d = _ := State.engine_modEngine_self ..
  have others (y : DriveIx) (other : y ≠ d) :
      (s.noteFault d .dataCrc .damagedDelivered (some q)).engine y = s.engine y :=
    State.engine_setEngine_other s _ other
  rw [State.fillFails_eq record owner, if_pos delivers, damaged] at steady ⊢
  have same : (s.noteFault d .dataCrc .damagedDelivered (some q)).record? r = some q := record
  have bursts : (s.noteFault d .dataCrc .damagedDelivered (some q)).bursts = s.bursts := rfl
  have windows : (s.noteFault d .dataCrc .damagedDelivered (some q)).windows = s.windows := rfl
  generalize s.noteFault d .dataCrc .damagedDelivered (some q) = t at *
  obtain ⟨ended, c, recs, es, left⟩ := t.leaves_spec d
  obtain ⟨⟨p, phased⟩, alone⟩ := State.record_leaves (d := d) same
  have bursts' : ((t.endOperation d).leaveChannel d).bursts = s.bursts := by rw [left]; exact bursts
  have windows' : ((t.endOperation d).leaveChannel d).windows = s.windows := by rw [left]; exact windows
  have entry' := (State.entry_congr windows' x).trans entry
  rw [noted] at ended
  generalize (t.endOperation d).leaveChannel d = u at *
  obtain ⟨b, asked⟩ := u.requestBurst_frame { kind := .delivery, drive := d, record := r, damaged := true }
  have runs := State.requestBurst_runs (s := u) (a := { kind := .delivery, drive := d, record := r, damaged := true })
    (q := { q with phase := p }) (x := x)
  refine ⟨steady, ?_, EventUnit.raised_raise _ _, ?_, ?_, fun sole => ?_, fun vacant clear idle empty => ?_⟩
  · rw [asked]
    exact congrArg Engine.current ended
  · rw [asked]
    exact entry'
  · rw [asked]
    exact ⟨_, congrArg Engine.lastFault ended, rfl, rfl⟩
  · rw [asked]
    exact alone fun y other => by rw [others y other]; exact sole y other
  · refine ⟨_, runs ?_ ?_ (bursts' ▸ idle) (bursts' ▸ empty) phased owner, rfl, rfl, rfl, rfl, rfl, rfl⟩
    · rw [← vacant]
      simp only [State.placeHeld, bursts']
    · rw [← clear]
      simp only [State.pendingBehind, bursts']

/-! ## Stamp reads (R97, R134) -/

/-- What the failure of a stamp read leaves, from `s` to `t`. -/
structure State.StampFailed (s : State) (d : DriveIx) (cause : Cause) (t : State) : Prop where
  steady : t.steady = s.steady
  current : (t.engine d).current = none
  state : (t.volume d).state = .unknown
  outcome : (t.volume d).outcome = .unreadable
  present : (t.volume d).present = none
  raised : t.events.raised .volumeUnknown = true
  noted : ∃ g, (t.engine d).lastFault = some g ∧ g.fault = cause ∧ g.outcome = .stampUnreadable

theorem State.stampFails_failed (s : State) (d : DriveIx) (r : RecIx) (cause : Cause) :
    s.StampFailed d cause (s.stampFails d r cause) := by
  have noted : (s.noteFault d cause .stampUnreadable (s.record? r)).engine d = _ := State.engine_modEngine_self ..
  have steady : (s.stampFails d r cause).steady = s.steady := by simp [State.stampFails]
  have failed : s.stampFails d r cause =
    ((s.noteFault d cause .stampUnreadable (s.record? r)).dismissed d r).stampUnknown d .unreadable := rfl
  rw [failed] at steady ⊢
  generalize s.noteFault d cause .stampUnreadable (s.record? r) = t at *
  obtain ⟨ended, -⟩ := t.dismissed_spec d r
  rw [noted] at ended
  generalize t.dismissed d r = u at *
  have engine : (u.stampUnknown d .unreadable).engine d = u.engine d := rfl
  have volume : (u.stampUnknown d .unreadable).volume d =
    { u.volume d with state := .unknown, outcome := .unreadable, present := none } := State.volume_setVolume_self ..
  rw [ended] at engine
  exact ⟨steady, congrArg Engine.current engine, congrArg Volume.state volume, congrArg Volume.outcome volume,
    congrArg Volume.present volume, EventUnit.raised_raise _ _, _, congrArg Engine.lastFault engine, rfl, rfl⟩

/-! ## Operations by their kind -/

theorem State.operationFails_fill (record : s.record? r = some q) (kind : q.kind = .fill ∨ q.kind = .prefetch)
    (cause : Cause) : s.operationFails d r cause = s.fillFails d r cause := by
  rw [State.operationFails, record]
  obtain kind | kind := kind <;> simp only [kind]

theorem State.operationFails_stamp (record : s.record? r = some q) (kind : q.kind = .stampRead)
    (cause : Cause) : s.operationFails d r cause = s.stampFails d r cause := by
  rw [State.operationFails, record]
  simp only [kind]

theorem State.operationFails_write (record : s.record? r = some q) (kind : q.kind = .writeback)
    (cause : Cause) : s.operationFails d r cause = s.writeFails d r cause := by
  rw [State.operationFails, record]
  simp only [kind]

end Failures

end Sys2Proof.Machine
end

section
/-! SUPPORT. The ID fields that pass under the heads (R93, R97, R98, R99, R134, R142): O44. -/

namespace Sys2Proof.Machine

open Sys2Proof

theorem State.memory_of_steady {s t : State} (h : t.steady = s.steady) : t.memory = s.memory :=
  congrArg Steady.memory h

section Fields

variable {s : State} {d : DriveIx} {r : RecIx} {q : Record} {f : IdField}

/-- Nothing is due of an engine at work whose periods are good and whose search or verify goes on. -/
theorem State.takeDue_undue (few : (s.engine d).bad < 3) (early : (s.engine d).searchPulses < 2)
    (current : (s.engine d).current = some r) : State.takeDue d s = s := by
  have periods : State.badPeriods d s = s := if_neg (by omega)
  have search : State.searchMissed d s = s := by
    rw [State.searchMissed, current]
    exact if_neg fun ⟨_, late⟩ => by omega
  have verify : State.verifyMissed d s = s := by
    rw [State.verifyMissed, current]
    exact if_neg fun ⟨_, _, late⟩ => by omega
  have loaded : State.unloadHeads d s = s := if_neg fun ⟨_, rests, _⟩ => nomatch current.symm.trans rests
  rw [State.takeDue, periods, search, verify, loaded]

theorem exec_idFieldRead_calm (running : s.power = .running) (settled : s.settled = true)
    (few : (s.engine d).bad < 3) (early : (s.engine d).searchPulses < 2) (current : (s.engine d).current = some r)
    (f : IdField) : exec (.idFieldRead d f) s = .next (State.idField d f s).settle := by
  have due : s.perform (State.takeDue d) = s := by
    rw [State.perform_of_running running, State.takeDue_undue few early current, State.settle_of_settled settled]
  have field : exec (.idFieldRead d f) s = .next ((s.perform (State.takeDue d)).perform (State.idField d f)) := rfl
  rw [field, due, State.perform_of_running running]

theorem idNamesTarget_iff (f : IdField) (q : Record) :
    idNamesTarget f q.cylinder q.side (q.sector.getD 0) = true ↔
      f.cylinder.toNat = q.cylinder ∧ f.side.toNat = q.side ∧ f.sector.toNat = q.sector.getD 0 ∧ f.size = 1 := by
  simp only [idNamesTarget, Bool.and_eq_true, decide_eq_true_eq, and_assoc]

/-! ## In a search (R93) -/

theorem State.idField_search (current : (s.engine d).current = some r) (record : s.record? r = some q)
    (state : (s.engine d).state = .searching) (still : (s.engine d).motion = .still) (f : IdField) :
    State.idField d f s = s.searchField d r q f := by
  rw [State.idField, current]
  dsimp only
  rw [record]
  exact if_pos (by simp [Engine.searches, state, still])

theorem State.searchField_bad (bad : idGood f = false) :
    s.searchField d r q f = s.modEngine d fun e => { e with badId := true } :=
  if_pos (by rw [bad]; rfl)

theorem State.searchField_other (good : idGood f = true)
    (other : ¬idNamesTarget f q.cylinder q.side (q.sector.getD 0) = true) : s.searchField d r q f = s := by
  rw [State.searchField, if_neg (by simp [good]), if_pos (by simpa using other)]

theorem State.searchField_target (good : idGood f = true)
    (target : idNamesTarget f q.cylinder q.side (q.sector.getD 0) = true) :
    s.searchField d r q f = if idDefective f then s.operationFails d r .defective else s.targetFound d r q := by
  rw [State.searchField, if_neg (by simp [good]), if_neg (by simp [target])]

/-- The good target of a write-back on a writable volume: the gate is raised (R98, R142). -/
theorem State.targetFound_write (record : s.record? r = some q) (kind : q.kind = .writeback)
    (attached : (s.volume d).state = .attached) (writable : (s.volume d).protect = false) :
    s.targetFound d r q = ((s.setRecord r (some { q with misses := 0 })).modEngine d fun e =>
      { e with state := .writing, gate := true }).modVolume d fun v => { v with changed := true } := by
  have counted : s.modRecord r (fun p => { p with misses := 0 }) = s.setRecord r (some { q with misses := 0 }) := by
    rw [State.modRecord_eq, record]
    rfl
  have raised : ((s.setRecord r (some { q with misses := 0 })).attached d &&
      !((s.setRecord r (some { q with misses := 0 })).volume d).protect) = true := by
    have volume : (s.setRecord r (some { q with misses := 0 })).volume d = s.volume d := rfl
    simp [State.attached, volume, attached, writable]
  rw [State.targetFound]
  rw [if_pos kind, counted, State.raiseGate, if_pos raised]

/-- The good target of any other operation is read (R93). -/
theorem State.targetFound_read (record : s.record? r = some q) (kind : q.kind ≠ .writeback) :
    s.targetFound d r q = (s.setRecord r (some { q with misses := 0 })).modEngine d fun e =>
      { e with state := .reading } := by
  rw [State.targetFound]
  rw [if_neg kind, State.modRecord_eq, record]
  rfl

/-! ## In a verify (R99) -/

theorem State.idField_verify (current : (s.engine d).current = some r) (record : s.record? r = some q)
    (state : (s.engine d).state = .verifying) (f : IdField) :
    State.idField d f s = s.verifyField d q f := by
  rw [State.idField, current]
  dsimp only
  rw [record]
  dsimp only
  rw [if_neg (by simp [Engine.searches, state]), if_pos state]

end Fields

/-- Settles O44: an ID field is judged by its CRC, its address and its flag, in that order. -/
theorem searchJudgesIdFields : Obligations.SearchJudgesIdFields := by
  intro d r q f s running settled few early current record
  have read := exec_idFieldRead_calm running settled few early current f
  rw [read]
  dsimp only
  rw [← idNamesTarget_iff]
  refine ⟨fun state still => ?_, fun state => ?_⟩
  · rw [State.idField_search current record state still f]
    refine ⟨fun bad => ?_, fun good other => ?_, fun good target => ?_⟩
    · rw [State.searchField_bad bad]
      rfl
    · rw [State.searchField_other good other]
    · rw [State.searchField_target good target]
      have fails (defective : f.flags.getLsbD 0 = true) :
          (if idDefective f then s.operationFails d r .defective else s.targetFound d r q) =
            s.operationFails d r .defective := if_pos defective
      have found (sound : f.flags.getLsbD 0 = false) :
          (if idDefective f then s.operationFails d r .defective else s.targetFound d r q) = s.targetFound d r q :=
        if_neg (Bool.eq_false_iff.mp sound)
      refine ⟨fun defective kind x e owner entry busy => ?_, fun defective kind empty x e owner entry filling => ?_,
        fun defective kind => ?_, fun sound kind => ?_, fun sound kind attached writable => ?_⟩
      · rw [fails defective, State.operationFails_write record kind]
        obtain ⟨steady, idle, -, fault, raised, -, unwritten⟩ :=
          State.writeFails_failed (d := d) record owner entry busy (cause := .defective) nofun
        refine ⟨_, rfl, State.memory_of_steady steady, unwritten, raised, idle, ?_⟩
        rw [Bool.eq_iff_iff, fault]
        simp [Cause.spendsAttempts]
      · rw [fails defective, State.operationFails_fill record kind]
        have kept : s.delivers d x = false := by rw [State.delivers, empty, Bool.false_and]
        have cause : s.fillCause d .defective = .defective := if_neg (by simp [empty])
        obtain ⟨steady, idle, fault, raised, failed, noted⟩ :=
          State.fillFails_failed (d := d) record owner entry filling kept .defective
        rw [cause] at failed noted
        exact ⟨_, rfl, State.memory_of_steady steady, failed, raised, idle, fault, noted⟩
      · rw [fails defective, State.operationFails_stamp record kind]
        obtain ⟨steady, idle, unknown, outcome, present, raised, noted⟩ := s.stampFails_failed d r .defective
        exact ⟨_, rfl, State.memory_of_steady steady, unknown, outcome, present, raised, idle, noted⟩
      · rw [found sound, State.targetFound_read record kind]
        rfl
      · rw [found sound, State.targetFound_write record kind attached writable]
        rfl
  · rw [State.idField_verify current record state f, State.verifyField]
    refine ⟨fun good target => ?_, fun other => ?_⟩
    · rw [if_pos (by simp [good, target])]
      rfl
    · rw [if_neg (by simpa using other)]

end Sys2Proof.Machine
end

section
/-! SUPPORT. Failed attempts, counted and spent (R48, R55, R93 to R100, R121, R134): O45. -/

namespace Sys2Proof.Machine

open Sys2Proof

section Attempts

variable {s : State} {d : DriveIx} {r : RecIx} {q : Record} {cause : Cause}

/-! ## The commands -/

theorem exec_miss (running : s.power = .running) (d : DriveIx) :
    exec (.miss d) s = .next (State.searchMissed d s).settle :=
  congrArg Host.Outcome.next (State.perform_of_running running _)

theorem exec_verifyMiss (running : s.power = .running) (d : DriveIx) :
    exec (.verifyMiss d) s = .next (State.verifyMissed d s).settle :=
  congrArg Host.Outcome.next (State.perform_of_running running _)

theorem exec_dataMarkNotFound (running : s.power = .running) (d : DriveIx) :
    exec (.dataMarkNotFound d) s = .next (State.markMissing d s).settle :=
  congrArg Host.Outcome.next (State.perform_of_running running _)

/-! ## What a row counts -/

/-- The record whose attempt and miss counts a miss raises (R93). -/
def Record.missed (q : Record) : Record := { q with attempts := q.attempts + 1, misses := min 2 (q.misses + 1) }

/-- The cause of an attempt that a miss ends: ID-CRC where a bad ID field was seen (R97). -/
def Engine.missCause (e : Engine) : Cause := if e.badId then .idCrc else .notFound

theorem State.searchMissed_early (early : (s.engine d).searchPulses < 2) : State.searchMissed d s = s := by
  unfold State.searchMissed
  split
  · rfl
  · exact if_neg fun ⟨_, late⟩ => by omega

theorem State.searchMissed_late (current : (s.engine d).current = some r) (state : (s.engine d).state = .searching)
    (still : (s.engine d).motion = .still) (late : 2 ≤ (s.engine d).searchPulses) :
    State.searchMissed d s = s.countMiss d r := by
  rw [State.searchMissed, current]
  exact if_pos ⟨by simp [Engine.searches, state, still], late⟩

theorem State.verifyMissed_late (current : (s.engine d).current = some r) (state : (s.engine d).state = .verifying)
    (unfound : (s.engine d).idFound = false) (late : 2 ≤ (s.engine d).searchPulses) :
    State.verifyMissed d s = s.attemptFails d r .verify := by
  rw [State.verifyMissed, current]
  exact if_pos ⟨state, by rw [unfound]; rfl, late⟩

theorem State.markMissing_read (current : (s.engine d).current = some r) (state : (s.engine d).state = .reading) :
    State.markMissing d s = s.attemptFails d r .notFound := by
  rw [State.markMissing]
  rw [current]
  exact if_pos state

theorem State.markMissing_verify (current : (s.engine d).current = some r)
    (state : (s.engine d).state = .verifying) (found : (s.engine d).idFound = true) :
    State.markMissing d s = s.attemptFails d r .verify := by
  rw [State.markMissing]
  rw [current]
  dsimp only
  rw [if_neg (by rw [state]; exact nofun), if_pos ⟨state, found⟩]

/-! ## Attempts left (R94, R95) -/

theorem State.countMiss_eq (record : s.record? r = some q) : s.countMiss d r =
    if (s.engine d).retries ≤ q.attempts + 1 then
      (s.modRecord r Record.missed).operationFails d r (s.engine d).missCause
    else if 1 ≤ q.misses ∧ q.recal = false then
      ((s.modRecord r Record.missed).modRecord r fun p => { p with misses := 0, recal := true }).modEngine d
        Engine.beginRecal
    else (s.modRecord r Record.missed).modEngine d Engine.beginSearch := by
  have counted : (s.modRecord r Record.missed).record? r = some q.missed :=
    State.record_modRecord_self record _
  have spent : ((s.modRecord r Record.missed).attemptsSpent d r = true) =
      ((s.engine d).retries ≤ q.attempts + 1) := by
    rw [State.attemptsSpent, counted]
    exact decide_eq_true_eq
  have second : (q.missed.misses = 2 ∧ (!q.missed.recal) = true) = (1 ≤ q.misses ∧ q.recal = false) := by
    have twice : q.missed.misses = 2 ↔ 1 ≤ q.misses := by simp only [Record.missed]; omega
    rw [twice, Bool.not_eq_true']
    rfl
  have unfolded : s.countMiss d r = match (s.modRecord r Record.missed).record? r with
      | none => s
      | some p =>
        if (s.modRecord r Record.missed).attemptsSpent d r then
          (s.modRecord r Record.missed).operationFails d r (s.engine d).missCause
        else if p.misses = 2 ∧ !p.recal then
          ((s.modRecord r Record.missed).modRecord r fun p => { p with misses := 0, recal := true }).modEngine d
            Engine.beginRecal
        else (s.modRecord r Record.missed).modEngine d Engine.beginSearch := rfl
  rw [unfolded, counted]
  simp only [spent, second]

/-- A miss with attempts left: the engine recalibrates at the second, once, and searches again at any other. -/
theorem State.countMiss_again (record : s.record? r = some q) (left : q.attempts + 1 < (s.engine d).retries) :
    (s.countMiss d r).steady = s.steady ∧ (s.countMiss d r).events = s.events ∧
      (s.countMiss d r).windows = s.windows ∧ (s.countMiss d r).chan = s.chan ∧
      if 1 ≤ q.misses ∧ q.recal = false then
        (s.countMiss d r).record? r = some { q with attempts := q.attempts + 1, misses := 0, recal := true } ∧
          (s.countMiss d r).engine d = (s.engine d).beginRecal
      else (s.countMiss d r).record? r = some q.missed ∧
        (s.countMiss d r).engine d = (s.engine d).beginSearch := by
  have counted : (s.modRecord r Record.missed).record? r = some q.missed := State.record_modRecord_self record _
  rw [State.countMiss_eq record, if_neg (by omega)]
  split
  · exact ⟨rfl, rfl, rfl, rfl, State.record_modRecord_self counted _, State.engine_modEngine_self ..⟩
  · exact ⟨rfl, rfl, rfl, rfl, counted, State.engine_modEngine_self ..⟩

/-! ## Attempts spent (R95) -/

theorem State.attemptFails_spent (record : s.record? r = some q) (spent : (s.engine d).retries ≤ q.attempts + 1) :
    s.attemptFails d r cause =
      (s.modRecord r fun p => { p with attempts := p.attempts + 1 }).operationFails d r cause := by
  obtain ⟨-, all⟩ := State.attemptsSpent_counted (d := d) record
  rw [State.attemptFails]
  dsimp only
  rw [all, if_pos (decide_eq_true spent)]

/-- A row that spends the attempts ends the operation of the record it has counted. -/
theorem State.attempt_spent (running : s.power = .running) (current : (s.engine d).current = some r)
    (record : s.record? r = some q) (spent : (s.engine d).retries ≤ q.attempts + 1) {c : Instr} {misses : Nat}
    (row : (c = .miss d ∧ ((s.engine d).state = .searching ∧ (s.engine d).motion = .still ∧
          2 ≤ (s.engine d).searchPulses) ∧ cause = (if (s.engine d).badId then .idCrc else .notFound) ∧
          misses = min 2 (q.misses + 1)) ∨
        (c = .verifyMiss d ∧ (s.engine d).state = .verifying ∧ (s.engine d).idFound = false ∧
          2 ≤ (s.engine d).searchPulses ∧ cause = .verify ∧ misses = q.misses) ∨
        (c = .dataMarkNotFound d ∧ (s.engine d).state = .verifying ∧ (s.engine d).idFound = true ∧
          cause = .verify ∧ misses = q.misses) ∨
        (c = .dataMarkNotFound d ∧ (s.engine d).state = .reading ∧ cause = .notFound ∧ misses = q.misses)) :
    cause ≠ .protect ∧ cause ≠ .writeFault ∧ cause.spendsAttempts = true ∧ ∃ f : Record → Record,
      f q = { q with attempts := q.attempts + 1, misses := misses } ∧
      exec c s = .next (State.settle ((s.modRecord r f).operationFails d r cause)) := by
  obtain ⟨rfl, ⟨state, still, late⟩, rfl, rfl⟩ | ⟨rfl, state, unfound, late, rfl, rfl⟩ |
    ⟨rfl, state, found, rfl, rfl⟩ | ⟨rfl, state, rfl, rfl⟩ := row
  · have counted : s.countMiss d r = (s.modRecord r Record.missed).operationFails d r (s.engine d).missCause := by
      rw [State.countMiss_eq record, if_pos spent]
    refine ⟨?_, ?_, ?_, Record.missed, rfl, ?_⟩
    · split <;> exact nofun
    · split <;> exact nofun
    · split <;> rfl
    · rw [exec_miss running, State.searchMissed_late current state still late, counted, Engine.missCause]
  · refine ⟨nofun, nofun, rfl, fun p => { p with attempts := p.attempts + 1 }, rfl, ?_⟩
    rw [exec_verifyMiss running, State.verifyMissed_late current state unfound late,
      State.attemptFails_spent record spent]
  · refine ⟨nofun, nofun, rfl, fun p => { p with attempts := p.attempts + 1 }, rfl, ?_⟩
    rw [exec_dataMarkNotFound running, State.markMissing_verify current state found,
      State.attemptFails_spent record spent]
  · refine ⟨nofun, nofun, rfl, fun p => { p with attempts := p.attempts + 1 }, rfl, ?_⟩
    rw [exec_dataMarkNotFound running, State.markMissing_read current state, State.attemptFails_spent record spent]

end Attempts

/-- Settles O45: each row counts its attempt, and the operation ends by its kind when they are spent. -/
theorem failedAttemptsAreCounted : Obligations.FailedAttemptsAreCounted := by
  intro d r q s running current record
  refine ⟨fun _ early => ?_, fun ⟨state, still, late⟩ left => ?_, fun c row left => ?_,
    fun c cause misses spent row => ?_⟩
  · rw [exec_miss running, State.searchMissed_early early]
  · obtain ⟨steady, events, windows, chan, counted⟩ := State.countMiss_again (d := d) record left
    refine ⟨s.countMiss d r, ?_, State.memory_of_steady steady, events, windows, chan, ?_⟩
    · rw [exec_miss running, State.searchMissed_late current state still late]
    · split at counted
      · next second =>
        obtain ⟨recalibrates, engine⟩ := counted
        rw [if_pos second, engine]
        exact ⟨state, recalibrates, rfl, rfl⟩
      · next other =>
        obtain ⟨again, engine⟩ := counted
        rw [if_neg other, engine]
        exact ⟨rfl, again, rfl, rfl⟩
  · obtain ⟨rfl, state, unfound, late⟩ | ⟨rfl, state, found⟩ | ⟨rfl, state⟩ := row
    · rw [exec_verifyMiss running, State.verifyMissed_late current state unfound late,
        State.attemptFails_again record left]
      rfl
    · rw [exec_dataMarkNotFound running, State.markMissing_verify current state found,
        State.attemptFails_again record left]
      rfl
    · rw [exec_dataMarkNotFound running, State.markMissing_read current state, State.attemptFails_again record left]
      rfl
  · obtain ⟨unprotected, sound, spends, f, counted, done⟩ := State.attempt_spent running current record spent row
    have record' : (s.modRecord r f).record? r = some { q with attempts := q.attempts + 1, misses := misses } := by
      rw [State.record_modRecord_self record, counted]
    refine ⟨fun kind => ?_, fun x e owner entry => ⟨fun kind busy => ?_, fun kind filling => ?_⟩⟩
    · rw [State.operationFails_stamp record' kind] at done
      obtain ⟨steady, idle, unknown, outcome, present, raised, -⟩ := (s.modRecord r f).stampFails_failed d r cause
      exact ⟨_, done, State.memory_of_steady steady, idle, unknown, outcome, present, raised⟩
    · rw [State.operationFails_write record' kind] at done
      obtain ⟨steady, idle, -, fault, raised, halts, unwritten⟩ :=
        State.writeFails_failed (d := d) record' owner (entry : (s.modRecord r f).entry? x = some e) busy unprotected
      refine ⟨_, done, State.memory_of_steady steady, idle, raised, unwritten, ?_,
        fun halt => halts (.inr ⟨halt, spends⟩)⟩
      rw [Bool.eq_iff_iff, fault, Bool.or_eq_true]
      exact or_congr Iff.rfl
        ⟨fun halted => (halted.resolve_left sound).left, fun halt => .inr ⟨halt, spends⟩⟩
    · rw [State.operationFails_fill record' kind] at done
      have held : ((s.modRecord r f).engine d).dataHeld = (s.engine d).dataHeld := rfl
      have delivers (b : Binding) (binding : s.binding? x.win = some b) : (s.modRecord r f).delivers d x = _ :=
        State.delivers_eq (s := s.modRecord r f) binding
      cases damaged : (s.modRecord r f).delivers d x with
      | true =>
        have full : (s.engine d).dataHeld = true := by
          obtain ⟨full, -⟩ := Bool.and_eq_true_iff.mp damaged
          exact full
        obtain ⟨steady, idle, raised, stands, noted, kept, runs⟩ := State.fillFails_delivered (d := d) record' owner
          (entry : (s.modRecord r f).entry? x = some e) full damaged cause
        refine ⟨_, done, State.memory_of_steady steady, idle, fun empty => ?_, fun b _ binding => ⟨fun keeps => ?_,
          fun _ => ⟨raised, stands, noted, kept, runs⟩⟩⟩
        · simp [full] at empty
        · simp [delivers b binding, keeps] at damaged
      | false =>
        obtain ⟨steady, idle, fault, raised, failed, -⟩ := State.fillFails_failed (d := d) record' owner
          (entry : (s.modRecord r f).entry? x = some e) filling damaged cause
        refine ⟨_, done, State.memory_of_steady steady, idle, fun empty => ⟨raised, ?_⟩, fun b full binding =>
          ⟨fun _ => ⟨raised, ?_⟩, fun asks => ?_⟩⟩
        · rw [failed, State.fillCause, held, if_neg (by simp [empty])]
        · rw [failed, State.fillCause, held, if_pos full]
        · rw [delivers b binding, held, full, asks] at damaged
          cases damaged

end Sys2Proof.Machine
end

section
/-! SUPPORT. SET DRIVE, SET LIMITS and SET ALERT MASK (R15, R18, R106, R146, R170): O24. -/

namespace Sys2Proof.Machine

open Sys2Proof

/-! ## Values within a range -/

theorem clamp_eq {low high : Nat} (ordered : low ≤ high) (n : Nat) :
    clamp low high n = if n < low then low else if high < n then high else n := by
  unfold clamp
  split
  · omega
  · split <;> omega

theorem toNat_storedDeferLimit (n : BitVec 16) : (storedDeferLimit n).toNat =
    if n.toNat = 0 then 1 else if 32767 < n.toNat then 32767 else n.toNat := by
  have inside : clamp 1 32767 n.toNat < 2 ^ 16 := by unfold clamp; omega
  rw [storedDeferLimit, BitVec.toNat_ofNat, Nat.mod_eq_of_lt inside, clamp_eq (by decide)]
  simp only [Nat.lt_one_iff]

/-! ## The commands -/

section Settings

variable {s : State} (running : s.power = .running)
include running

theorem exec_setDrive (drive stepMs retries : Byte) (halt : Bool) :
    exec (.setDrive drive stepMs retries halt) s = .next (State.linkSetDrive drive stepMs retries halt s) :=
  congrArg Host.Outcome.next (if_pos running)

theorem exec_setLimits (deferLimit ageLimit : BitVec 16) (blank : Byte) :
    exec (.setLimits deferLimit ageLimit blank) s = .next (State.linkSetLimits deferLimit ageLimit blank s) :=
  congrArg Host.Outcome.next (if_pos running)

theorem exec_setAlertMask (mask : BitVec 24) :
    exec (.setAlertMask mask) s = .next (State.linkSetAlertMask mask s) :=
  congrArg Host.Outcome.next (if_pos running)

theorem exec_agePromotion : exec .agePromotion s = .next s.judgeAges.settle :=
  congrArg Host.Outcome.next (State.perform_of_running running _)

theorem exec_deferredRecordExpiry : exec .deferredRecordExpiry s = .next s.judgeExpiry :=
  congrArg Host.Outcome.next (if_pos running)

end Settings

/-! ## The judgements made first (R15, R146) -/

theorem State.judgeLimits_of_judged {s : State} (promoted : s.clock.due.promote = false)
    (expired : s.clock.due.expiry = false) : s.judgeLimits = s := by
  rw [State.judgeLimits, promoted, expired]
  rfl

theorem State.judgeLimits_of_due {s : State} (due : s.clock.due.promote = true ∨ s.clock.due.expiry = true) :
    s.judgeLimits = s.judgeAges.settle.judgeExpiry :=
  if_pos (by rwa [Bool.or_eq_true])

/-- The promotions once judged are not due any more. -/
theorem State.judgeAges_judged (s : State) : s.judgeAges.clock.due.promote = false := by
  have entry (t : State) (x : SectorRef) : (t.promoteEntry x).clock = t.clock := by
    unfold State.promoteEntry
    split
    · split
      · exact congrArg Steady.clock ((t.modEntry x _).requestWrite_steady x .urgent)
      · rfl
    · rfl
  have promoted (t : State) : t.promoteAll.clock.due.promote = false := by
    unfold State.promoteAll
    dsimp only
    split
    · rfl
    · rw [foldl_keeps State.clock _ entry]
  unfold State.judgeAges
  split
  · exact promoted _
  · next judged => exact Bool.eq_false_iff.mpr judged

theorem State.judgeExpiry_due (s : State) :
    s.judgeExpiry.clock.due.expiry = false ∧ s.judgeExpiry.clock.due.promote = s.clock.due.promote := by
  unfold State.judgeExpiry
  split
  · exact ⟨rfl, rfl⟩
  · next judged => exact ⟨Bool.eq_false_iff.mpr judged, rfl⟩

/-- The judgements made by the old limits leave none to be made (R15, R146). -/
theorem State.judged_limits (s : State) :
    s.judgeAges.settle.judgeExpiry.clock.due.promote = false ∧
      s.judgeAges.settle.judgeExpiry.clock.due.expiry = false := by
  obtain ⟨expired, same⟩ := s.judgeAges.settle.judgeExpiry_due
  have clock : s.judgeAges.settle.clock = s.judgeAges.clock := congrArg Steady.clock s.judgeAges.settle_steady
  exact ⟨by rw [same, clock, s.judgeAges_judged], expired⟩

/-! ## The alert line (R170) -/

theorem State.alertLow_iff (s : State) : s.alertLow = true ↔
    ∃ n, n < 22 ∧ s.events.flags.getLsbD n = true ∧ s.events.mask.getLsbD n = true := by
  have common (n : Nat) : (s.events.flags &&& s.events.mask).getLsbD n = true ↔
      s.events.flags.getLsbD n = true ∧ s.events.mask.getLsbD n = true := by
    rw [BitVec.getLsbD_and, Bool.and_eq_true]
  rw [State.alertLow, decide_eq_true_eq]
  constructor
  · intro some
    by_contra none
    refine some (BitVec.eq_of_getLsbD_eq fun n inside => ?_)
    exact (Bool.eq_false_iff.mpr fun both => none ⟨n, inside, (common n).mp both⟩).trans BitVec.getLsbD_zero.symm
  · rintro ⟨n, -, both⟩ zero
    have set := (common n).mpr both
    rw [zero] at set
    exact nomatch set.symm.trans BitVec.getLsbD_zero

theorem flagSet_getLsbD (mask : BitVec 24) {n : Nat} (inside : n < 22) :
    (flagSet mask).getLsbD n = mask.getLsbD n := by
  rw [flagSet, BitVec.getLsbD_setWidth, decide_eq_true inside, Bool.true_and]

/-! ## O24 -/

/-- Settles O24: each command by its own equation, the limits after the judgements of the latest advance. -/
theorem settingsAreStored : Obligations.SettingsAreStored := by
  refine fun s running => ⟨fun drive stepMs retries halt d named => ?_, fun drive stepMs retries halt none => ?_,
    fun deferLimit ageLimit blank => ⟨fun promoted expired => ?_, fun due => ?_⟩, fun mask => ?_⟩
  · rw [exec_setDrive running, State.linkSetDrive, driveOf_of_toNat named, clamp_eq (by decide), clamp_eq (by decide)]
    simp only [Nat.lt_one_iff]
    rfl
  · rw [exec_setDrive running, State.linkSetDrive, driveOf_of_gt none]
    rfl
  · refine ⟨storedDeferLimit deferLimit, toNat_storedDeferLimit deferLimit,
      (s.takeCommand 0x41 (bytes2 deferLimit.toNat ++ bytes2 ageLimit.toNat ++ [blank])).link.command, ?_⟩
    rw [exec_setLimits running, State.linkSetLimits, State.judgeLimits_of_judged promoted expired]
    rfl
  · have power : s.judgeAges.settle.power = .running :=
      s.judgeAges.settle_power.trans (s.judgeAges_power.trans running)
    have power' : s.judgeAges.settle.judgeExpiry.power = .running :=
      s.judgeAges.settle.judgeExpiry_power.trans power
    obtain ⟨promoted, expired⟩ := s.judged_limits
    refine ⟨_, _, exec_agePromotion running, exec_deferredRecordExpiry power, promoted, expired, power', ?_⟩
    rw [exec_setLimits running, exec_setLimits power', State.linkSetLimits, State.linkSetLimits,
      State.judgeLimits_of_judged promoted expired, State.judgeLimits_of_due due]
  · refine ⟨_, exec_setAlertMask running mask, ⟨_, rfl⟩, fun n inside => flagSet_getLsbD mask inside, ?_⟩
    rw [State.alertLow_iff]
    refine exists_congr fun n => and_congr_right fun inside => and_congr_right fun _ => ?_
    exact Bool.coe_iff_coe.mpr (flagSet_getLsbD mask inside)

end Sys2Proof.Machine
end

section
/-! SUPPORT. Supply dips: DIP set on every engine, and cleared again (R84, R103, R156, R157): O48. -/

namespace Sys2Proof.Machine

open Sys2Proof

section Dip

variable {s t : State} {d : DriveIx}

/-! ## Operations that go back while nothing waits (R103) -/

/-- No engine has the channel, waits for it, or waits for a buffer. -/
def State.Quieted (s : State) : Prop := s.chan = { owner := none, queue := [] } ∧ s.bufWait = []

/-- From `s` to `t` the engines, the channel and the buffer wait list stand. -/
def State.Posts (s t : State) : Prop := t.engines = s.engines ∧ t.chan = s.chan ∧ t.bufWait = s.bufWait

theorem State.Posts.trans {u : State} (h : s.Posts t) (k : t.Posts u) : s.Posts u := by
  obtain ⟨engines, chan, waits⟩ := h
  obtain ⟨engines', chan', waits'⟩ := k
  exact ⟨engines'.trans engines, chan'.trans chan, waits'.trans waits⟩

theorem State.Quieted.posts (h : s.Quieted) (k : s.Posts t) : t.Quieted := by
  obtain ⟨-, chan, waits⟩ := k
  obtain ⟨chan', waits'⟩ := h
  exact ⟨chan.trans chan', waits.trans waits'⟩

theorem State.leaveChannel_quieted (quiet : s.Quieted) (d : DriveIx) : s.Posts (s.leaveChannel d) := by
  obtain ⟨chan, -⟩ := quiet
  obtain ⟨own, -⟩ | ⟨x, rest, own, -⟩ | ⟨-, e⟩ := s.leaveChannel_cases d
  · rw [chan] at own
    cases own
  · rw [chan] at own
    cases own
  · rw [e]
    exact ⟨rfl, by rw [chan]; rfl, rfl⟩

theorem State.setAside_quieted (quiet : s.Quieted) (d : DriveIx) (r : RecIx) :
    (s.endOperation d).Posts (s.setAside d r) := by
  obtain ⟨chan, waits⟩ := quiet
  have begun : (s.endOperation d).Posts { s.endOperation d with bufWait := s.bufWait.filter (· ≠ d) } := by
    have same : (s.endOperation d).bufWait = [] := waits
    exact ⟨rfl, rfl, by rw [waits, same]; rfl⟩
  have left := begun.trans
    (State.leaveChannel_quieted (State.Quieted.posts (s := s.endOperation d) ⟨chan, waits⟩ begun) d)
  unfold State.setAside
  generalize { s.endOperation d with bufWait := s.bufWait.filter (· ≠ d) }.leaveChannel d = u at left
  obtain ⟨bs, stopped⟩ := u.bursts_stopped r
  rw [stopped]
  exact left

/-- With no drive waiting for a buffer, a freed record and a returned one hand nothing on. -/
theorem State.handBuffers_quieted (quiet : s.Quieted) : s.Posts s.handBuffers := by
  obtain ⟨-, waits⟩ := quiet
  rw [State.handBuffers_alone waits]
  exact ⟨rfl, rfl, rfl⟩

theorem State.freeRecord_quieted (quiet : s.Quieted) (r : RecIx) : s.Posts (s.freeRecord r) := by
  obtain ⟨p, released, -⟩ := s.releaseRecord_spec r
  have freed : s.Posts (s.releaseRecord r) := by
    rw [released]
    exact ⟨rfl, rfl, rfl⟩
  exact freed.trans (State.handBuffers_quieted (quiet.posts freed))

/-- An operation goes back while nothing waits: its own engine comes to rest, and no other changes (R103). -/
theorem State.returnRecord_quieted (quiet : s.Quieted) (d : DriveIx) :
    s.Posts (s.returnRecord d) ∨ (s.endOperation d).Posts (s.returnRecord d) := by
  have aside (r : RecIx) := State.setAside_quieted quiet d r
  have quiet' (r : RecIx) : (s.setAside d r).Quieted := State.Quieted.posts (s := s.endOperation d) quiet (aside r)
  obtain ⟨e, -⟩ | ⟨r, e | ⟨q, e⟩⟩ := s.returnRecord_split d <;> rw [e]
  · exact .inl ⟨rfl, rfl, rfl⟩
  · exact .inr ((aside r).trans (State.freeRecord_quieted (quiet' r) r))
  · obtain ⟨ws, p, v, back⟩ := ((s.setAside d r).modRecord r Record.returned).returnEntry_frame q
    have posts : (s.setAside d r).Posts (((s.setAside d r).modRecord r Record.returned).returnEntry q) := by
      rw [back]
      exact ⟨rfl, rfl, rfl⟩
    exact .inr (((aside r).trans posts).trans (State.handBuffers_quieted ((quiet' r).posts posts)))

/-! ## A dip acts on one engine -/

/-- From `e` to `f` a dip has acted on an engine, or on another: its holds and heads stand, and once its gate is
dropped and its motion ended they stay so. -/
def Engine.Dips (e f : Engine) : Prop :=
  (f.dip = e.dip ∧ f.door = e.door ∧ f.link = e.link ∧ f.fault = e.fault ∧ f.loaded = e.loaded) ∧
    (e.gate = false → f.gate = false) ∧ (e.motion = .still → f.motion = .still)

theorem Engine.Dips.refl (e : Engine) : e.Dips e := ⟨⟨rfl, rfl, rfl, rfl, rfl⟩, id, id⟩

theorem Engine.Dips.trans {e f g : Engine} (h : e.Dips f) (k : f.Dips g) : e.Dips g := by
  obtain ⟨⟨dip, door, link, fault, loaded⟩, gate, motion⟩ := h
  obtain ⟨⟨dip', door', link', fault', loaded'⟩, gate', motion'⟩ := k
  exact ⟨⟨dip'.trans dip, door'.trans door, link'.trans link, fault'.trans fault, loaded'.trans loaded⟩,
    fun dropped => gate' (gate dropped), fun still => motion' (motion still)⟩

/-- The engine that a dip acts on stops, and one whose operation goes back comes to rest. -/
theorem State.dipEngine_engine (quiet : s.Quieted) (d : DriveIx) :
    (s.dipEngine d).Quieted ∧ (∀ x, x ≠ d → (s.dipEngine d).engine x = s.engine x) ∧
      ((s.dipEngine d).engine d = (s.engine d).dipped ∨ (s.dipEngine d).engine d = (s.engine d).dipped.ended) := by
  have dipped : (s.modEngine d Engine.dipped).engine d = (s.engine d).dipped := State.engine_modEngine_self ..
  have other (x : DriveIx) (apart : x ≠ d) : (s.modEngine d Engine.dipped).engine x = s.engine x :=
    State.engine_setEngine_other s _ apart
  have quiet' : (s.modEngine d Engine.dipped).Quieted := quiet
  unfold State.dipEngine
  generalize s.modEngine d Engine.dipped = t at dipped other quiet'
  obtain posts | posts := State.returnRecord_quieted quiet' d
  · have same := State.engine_congr posts.left
    exact ⟨quiet'.posts posts, fun x apart => (same x).trans (other x apart), .inl ((same d).trans dipped)⟩
  · have same := State.engine_congr posts.left
    have ended := (same d).trans ((t.engine_endOperation d).trans (congrArg Engine.ended dipped))
    exact ⟨State.Quieted.posts (s := t.endOperation d) quiet' posts,
      fun x apart => (same x).trans ((State.engine_setEngine_other t _ apart).trans (other x apart)), .inr ended⟩

theorem State.dipEngine_spec (quiet : s.Quieted) (d : DriveIx) :
    (s.dipEngine d).Quieted ∧ (∀ x, (s.engine x).Dips ((s.dipEngine d).engine x)) ∧
      ((s.dipEngine d).engine d).gate = false ∧ ((s.dipEngine d).engine d).motion = .still := by
  obtain ⟨quiet', others, self⟩ := State.dipEngine_engine quiet d
  have acted : (s.engine d).Dips ((s.dipEngine d).engine d) ∧ ((s.dipEngine d).engine d).gate = false ∧
      ((s.dipEngine d).engine d).motion = .still := by
    obtain e | e := self <;> rw [e] <;>
      exact ⟨⟨⟨rfl, rfl, rfl, rfl, rfl⟩, fun _ => rfl, fun _ => rfl⟩, rfl, rfl⟩
  obtain ⟨dips, stopped⟩ := acted
  refine ⟨quiet', fun x => ?_, stopped⟩
  by_cases same : x = d
  · rw [same]
    exact dips
  · rw [others x same]
    exact .refl _

/-- A dip acts on the drives of list `l` in turn: each stops, and all keep their holds and heads. -/
theorem State.foldl_dipEngine (l : List DriveIx) (quiet : s.Quieted) :
    ∀ x, (s.engine x).Dips ((l.foldl State.dipEngine s).engine x) ∧ (x ∈ l →
      ((l.foldl State.dipEngine s).engine x).gate = false ∧
      ((l.foldl State.dipEngine s).engine x).motion = .still) := by
  induction l generalizing s with
  | nil => exact fun x => ⟨.refl _, nofun⟩
  | cons d l ih =>
    obtain ⟨quiet', dips, gate, motion⟩ := State.dipEngine_spec quiet d
    refine fun x => ?_
    obtain ⟨rest, stops⟩ := ih quiet' x
    obtain ⟨-, gates, motions⟩ := id rest
    refine ⟨(dips x).trans rest, fun listed => ?_⟩
    obtain rfl | late := List.mem_cons.mp listed
    · exact ⟨gates gate, motions motion⟩
    · exact stops late

theorem State.mem_dipOrder (s : State) (d : DriveIx) : d ∈ s.dipOrder := by
  unfold State.dipOrder
  dsimp only
  by_cases busy : d ∈ s.pool.order.filterMap fun r => allDrives.find? fun d => decide ((s.engine d).current = some r)
  · exact List.mem_append_left _ busy
  · exact List.mem_append_right _ (List.mem_filter.mpr ⟨mem_allDrives d, decide_eq_true busy⟩)

/-! ## The dip as a whole (R103, R156) -/

/-- DIP is set on every engine, and nothing waits any more. -/
def State.dipped (s : State) : State :=
  { s with
    engines := s.engines.map fun e => { e with dip := true }
    chan := { owner := none, queue := [] }
    bufWait := [] }

theorem State.engine_dipped (s : State) (d : DriveIx) : s.dipped.engine d = { s.engine d with dip := true } :=
  Vector.getElem_map ..

theorem State.setDip_engine (s : State) (d : DriveIx) :
    (s.setDip.engine d).dip = true ∧ (s.setDip.engine d).gate = false ∧ (s.setDip.engine d).motion = .still ∧
      (s.setDip.engine d).door = (s.engine d).door ∧ (s.setDip.engine d).link = (s.engine d).link ∧
      (s.setDip.engine d).fault = (s.engine d).fault ∧ (s.setDip.engine d).loaded = (s.engine d).loaded := by
  obtain ⟨⟨⟨dip, door, link, fault, loaded⟩, -⟩, stops⟩ :=
    State.foldl_dipEngine (s := s.dipped) s.dipOrder ⟨rfl, rfl⟩ d
  obtain ⟨gate, motion⟩ := stops (s.mem_dipOrder d)
  rw [State.engine_dipped] at dip door link fault loaded
  exact ⟨dip, gate, motion, door, link, fault, loaded⟩

theorem State.setDip_steady (s : State) : s.setDip.steady = s.steady := by
  have one (t : State) (d : DriveIx) : (t.dipEngine d).steady = t.steady :=
    (State.returnRecord_steady _ d).trans (t.modEngine_steady d _)
  exact foldl_keeps State.steady _ one s.dipOrder s.dipped

/-- A dip loses no event. -/
theorem State.setDip_events (s : State) : s.events.Grows s.setDip.events := by
  have acts : s.dipped.Works (fun _ => True) (fun _ => True) s.setDip :=
    (State.Works.refl s.dipped).foldl _ (fun _ d ht => (ht.modEngine d).returnRecord trivial) s.dipOrder
  exact acts.events

/-! ## What follows at once -/

/-- While DIP stands on every engine none chooses, and a window that is swapped changes no engine. -/
theorem State.settle_dipped (dip : ∀ d, (s.engine d).dip = true) : s.settle.engines = s.engines := by
  refine State.settle_invariant (fun t => t.engines = s.engines) (fun t u same e => ?_) s rfl
  obtain ⟨w, -, rfl⟩ | ⟨-, d, r, next, -⟩ := State.settleOne_cases e
  · unfold State.swapWindow
    split
    · next bound _ _ =>
      obtain ⟨vs, ev, e, -⟩ := t.rebound_replaceWindow w bound
      rw [e]
      exact same
    · exact same
    · exact same
  · obtain ⟨may, -⟩ := State.nextChoice?_spec next
    obtain ⟨-, -, -, -, undipped, -⟩ := (t.engine d).mayChoose_iff.mp may
    rw [State.engine_congr same, dip d] at undipped
    cases undipped

/-! ## The return of the line (R84, R157) -/

/-- The engine once its hold set may have become empty (R84). -/
def Engine.resumes (e : Engine) : Engine :=
  if e.unheld ∧ (e.state = .held ∨ e.state = .notReady) then
    if e.cyl = none then { e.beginRecal with state := .recalibrating } else { e with state := .idle }
  else e

theorem State.engine_resume_eq (s : State) (d x : DriveIx) :
    (s.resume d).engine x = if x = d then (s.engine x).resumes else s.engine x := by
  split
  · next same =>
    subst same
    have judged : ((s.engine x).unheld && (decide ((s.engine x).state = .held) ||
        decide ((s.engine x).state = .notReady))) = true ↔
        (s.engine x).unheld ∧ ((s.engine x).state = .held ∨ (s.engine x).state = .notReady) := by
      simp only [Bool.and_eq_true, Bool.or_eq_true, decide_eq_true_eq]
    unfold State.resume Engine.resumes
    dsimp only
    rw [if_congr judged rfl rfl]
    split
    · split
      · exact State.engine_modEngine_self ..
      · exact State.engine_modEngine_self ..
    · rfl
  · next other =>
    obtain ⟨-, -, others⟩ := s.engine_resume d
    exact others x other

theorem State.foldl_resume (l : List DriveIx) (once : l.Nodup) (s : State) :
    (∃ es, l.foldl State.resume s = { s with engines := es }) ∧
      ∀ x, (l.foldl State.resume s).engine x = if x ∈ l then (s.engine x).resumes else s.engine x := by
  induction l generalizing s with
  | nil => exact ⟨⟨_, rfl⟩, fun x => rfl⟩
  | cons d l ih =>
    obtain ⟨unlisted, once'⟩ := List.nodup_cons.mp once
    obtain ⟨es, first⟩ := s.resume_frame d
    obtain ⟨⟨es', rest⟩, engines⟩ := ih once' (s.resume d)
    refine ⟨⟨es', ?_⟩, fun x => ?_⟩
    · rw [List.foldl_cons, rest, first]
    · rw [List.foldl_cons, engines x, State.engine_resume_eq]
      by_cases same : x = d
      · rw [same, if_neg unlisted, if_pos rfl, if_pos List.mem_cons_self]
      · rw [if_neg same]
        exact if_congr (by rw [List.mem_cons, or_iff_right same]) rfl rfl

/-- The state of the return, before the hold sets are judged. -/
def State.undipped (s : State) : State :=
  { s with supplyLow := false, store := { s.store with dipTimer := none }, engines := s.engines.map Engine.undip }

theorem State.supplyReturns_spec {n : Nat} (timer : s.store.dipTimer = some n) :
    (∃ es, s.supplyReturns = { s.undipped with engines := es }) ∧
      ∀ d, s.supplyReturns.engine d = (s.engine d).undip.resumes := by
  have returned : s.supplyReturns = allDrives.foldl State.resume s.undipped := by
    rw [State.supplyReturns, timer]
    rfl
  obtain ⟨frame, engines⟩ := State.foldl_resume allDrives (by decide) s.undipped
  rw [returned]
  refine ⟨frame, fun d => (engines d).trans ((if_pos (mem_allDrives d)).trans (congrArg Engine.resumes ?_))⟩
  exact Vector.getElem_map ..

theorem Engine.undip_resumes (e : Engine) : e.undip.resumes =
    (let f := { e with dip := false }
     if f.door = false ∧ f.link = false ∧ f.fault = false ∧ (f.state = .held ∨ f.state = .notReady) then
       if f.cyl = none then
         { f with state := .recalibrating, motion := .recal, inward := false, stepTicks := f.stepMs * 100,
                  recalSteps := 0, wait := if f.track0 then 1500 else f.stepMs * 100, idle := 0 }
       else { f with state := .idle }
     else f) := by
  have free : (e.undip.unheld = true ∧ (e.undip.state = .held ∨ e.undip.state = .notReady)) ↔
      (e.door = false ∧ e.link = false ∧ e.fault = false ∧ (e.state = .held ∨ e.state = .notReady)) := by
    simp [Engine.undip, Engine.unheld, and_assoc]
  exact if_congr free rfl rfl

/-- The state in which DIP is set at the rise of the supply-low line (R156). -/
def State.supplyLost (s : State) : State :=
  { s with supplyLow := true, store := { s.store with dipTimer := some 0 } }.raise .supplyDip

theorem exec_supplyDip_running (running : s.power = .running) (high : s.supplyLow = false) :
    exec .supplyDip s = .next s.supplyLost.setDip.settle := by
  have falls : s.supplyFalls = s.supplyLost.setDip.settle := by
    rw [State.supplyFalls, if_neg (by rw [high]; exact nofun)]
    exact if_pos running
  exact congrArg Host.Outcome.next falls

end Dip

/-- Settles O48: at the rise of the line each engine stops in its turn and none can choose, at its return each
is judged by its hold set. -/
theorem dipsStopAndResume : Obligations.DipsStopAndResume := by
  refine fun s => ⟨fun low => ?_, fun high stopped => ?_, fun high running => ?_, fun running rests => ?_,
    fun n running timer => ?_⟩
  · exact congrArg Host.Outcome.next (if_pos low)
  · have falls : s.supplyFalls = { s with supplyLow := true } := by
      rw [State.supplyFalls, if_neg (by rw [high]; exact nofun)]
      exact if_neg stopped
    exact congrArg Host.Outcome.next falls
  · have steady := s.supplyLost.setDip.settle_steady.trans s.supplyLost.setDip_steady
    have dipped := s.supplyLost.setDip_engine
    have engines := State.settle_dipped fun d => (dipped d).left
    have raised : s.supplyLost.events.raised .supplyDip = true := EventUnit.raised_raise _ _
    have kept := s.supplyLost.setDip_events.trans s.supplyLost.setDip.settle_works.events
    refine ⟨_, exec_supplyDip_running running high, congrArg Steady.supplyLow steady, congrArg Steady.store steady,
      congrArg Steady.memory steady, congrArg Steady.clock steady, kept _ raised, fun d => ?_⟩
    rw [State.engine_congr engines]
    exact dipped d
  · have returns : s.supplyReturns = s := by rw [State.supplyReturns, rests]
    refine congrArg Host.Outcome.next ((State.perform_of_running running _).trans ?_)
    rw [returns]
  · obtain ⟨⟨es, frame⟩, engines⟩ := State.supplyReturns_spec timer
    refine ⟨s.supplyReturns, congrArg Host.Outcome.next (State.perform_of_running running _), ?_⟩
    rw [frame] at engines ⊢
    exact ⟨rfl, rfl, rfl, rfl, rfl, rfl, fun d => (engines d).trans (s.engine d).undip_resumes⟩

end Sys2Proof.Machine
end
